-- ==== Sys2Proof/Word.lean ====
section
/-! DEFINITION. The byte type, the plain arithmetic and the fixed-size tables the model is written with. -/

namespace Sys2Proof

/-- One byte of a frame or of the store image. -/
abbrev Byte := BitVec 8

/-- A time or a length in CLKIN counts of 0.1 µs (00_scope.md, Conventions). -/
abbrev Count := Nat

/-- `ceil(a / b)` of the spec's rounding notation, for `b > 0`. -/
def ceilDiv (a b : Nat) : Nat := (a + (b - 1)) / b

/-- "x clamped to lo..hi" of 00_scope.md. -/
def clampTo (lo hi x : Nat) : Nat := max lo (min x hi)

/-- The table of `n` entries whose entry `i` is `f i`. -/
def tabulate {α : Type} {n : Nat} (f : Fin n → α) : Vector α n :=
  ⟨(List.ofFn f).toArray, by simp⟩

@[simp] theorem getElem_tabulate {α : Type} {n : Nat} (f : Fin n → α) (i : Nat) (h : i < n) :
    (tabulate f)[i] = f ⟨i, h⟩ := by
  simp [tabulate]

/-- The table with entry `i` replaced by `f` of it. -/
def modifyAt {α : Type} {n : Nat} (v : Vector α n) (i : Fin n) (f : α → α) : Vector α n :=
  v.set i (f v[i])

theorem getElem_modifyAt {α : Type} {n : Nat} (v : Vector α n) (i : Fin n) (f : α → α) (j : Nat)
    (h : j < n) : (modifyAt v i f)[j] = if i.val = j then f v[i] else v[j] := by
  simp [modifyAt, Vector.getElem_set]

/-- Every index of a table of `n` entries, ascending. -/
def indices (n : Nat) : List (Fin n) := List.finRange n

@[simp] theorem mem_indices {n : Nat} (i : Fin n) : i ∈ indices n := by simp [indices]

/-- `Σ f i` over the entries that satisfy `p`. -/
def sumOver {n : Nat} (p : Fin n → Bool) (f : Fin n → Nat) : Nat :=
  (((indices n).filter p).map f).sum

/-- The element of a list with the least key, the first of them when keys are equal. -/
def leastBy {α : Type} (key : α → Nat) : List α → Option α
  | [] => none
  | x :: xs =>
    match leastBy key xs with
    | none => some x
    | some y => if key x ≤ key y then some x else some y

/-- The element of a list with the greatest key, the first of them when keys are equal. -/
def greatestBy {α : Type} (key : α → Nat) : List α → Option α
  | [] => none
  | x :: xs =>
    match greatestBy key xs with
    | none => some x
    | some y => if key y ≤ key x then some x else some y

theorem leastBy_mem {α : Type} (key : α → Nat) {xs : List α} {x : α} (h : leastBy key xs = some x) :
    x ∈ xs := by
  induction xs generalizing x with
  | nil => simp [leastBy] at h
  | cons a as ih =>
    unfold leastBy at h
    split at h
    · simp_all
    · rename_i y hy
      split at h
      · simp_all
      · exact List.mem_cons_of_mem _ (by simp_all)

theorem greatestBy_mem {α : Type} (key : α → Nat) {xs : List α} {x : α}
    (h : greatestBy key xs = some x) : x ∈ xs := by
  induction xs generalizing x with
  | nil => simp [greatestBy] at h
  | cons a as ih =>
    unfold greatestBy at h
    split at h
    · simp_all
    · rename_i y hy
      split at h
      · simp_all
      · exact List.mem_cons_of_mem _ (by simp_all)

end Sys2Proof
end

