-- ==== Sys2Proof/Syntax.lean ====
section
/-! DEFINITION. The commands of the block: one constructor of `Instr` for each row of spec/opcode_table.json.
Every command carries `dt`, the CLKIN counts that have passed since the command before it (log 1); a command
with `dt = 0` arrives together with the one before it. -/

namespace Sys2Proof

/-- The two lanes of the station bus (R182). -/
inductive Lane
  | a
  | b
  deriving DecidableEq, Repr

/-- What stands on the old lane when the LANE level changes (R182). -/
inductive Wire
  /-- nothing: the old lane is idle -/
  | idle
  /-- a frame is in reception on the old lane -/
  | receiving
  /-- a frame of the device's own is on the wire of the old lane -/
  | sending
  deriving DecidableEq, Repr

/-- How a frame arrived: the counts since the command before it, the lane it was on and the source address
in the lower six bits of its identifier (R183, R188). -/
structure Rx where
  dt : Nat
  lane : Lane
  src : BitVec 6
  deriving DecidableEq, Repr

/-- The commands, in the order of spec/opcode_table.json. -/
inductive Instr
  -- reset and start-up (R181)
  | powerOnReset (fsel : Bool) (dt : Nat)
  | resetnAssert (dt : Nat)
  | resetnRelease (fsel : Bool) (dt : Nat)
  | endOfStartUp (dt : Nat)
  -- frequency meter (R4 to R9)
  | gtickRisingEdge (dt : Nat)
  | lossExpiry (dt : Nat)
  | deadExpiry (dt : Nat)
  | startUpWait (dt : Nat)
  -- balance interval (R18)
  | tbalExpiry (dt : Nat)
  -- breakers and pins (R91, R92, R93, R109, R152, R177, R182); an FSTAT change names the lines that
  -- take a new level and these levels, so that changes on several lines can reach the Ladder together (R93; log 41)
  | fstatChange (lines levels : Vector Bool 16) (dt : Nat)
  | breakerTimerExpiry (feeder : Fin 16) (dt : Nat)
  | mshedEdge (level : Bool) (dt : Nat)
  | bsabortEdge (level : Bool) (dt : Nat)
  | cfglockChange (level : Bool) (dt : Nat)
  | laneChange (level : Bool) (wire : Wire) (dt : Nat)
  -- reports (R36, R184)
  | setReport (rx : Rx) (code : Byte) (output : BitVec 16)
  | pvReport (rx : Rx) (output : BitVec 16) (available : BitVec 16)
  -- timers of one set (R39, R40, R42, R43, R44, R62)
  | lostTimerExpiry (set : Fin 8) (dt : Nat)
  | startTimerExpiry (set : Fin 8) (dt : Nat)
  | stopTimerExpiry (set : Fin 8) (dt : Nat)
  | minimumRunExpiry (set : Fin 8) (dt : Nat)
  | minimumDownExpiry (set : Fin 8) (dt : Nat)
  | deadBusStartTimerExpiry (set : Fin 8) (dt : Nat)
  -- other timers (R127, R135, R140, R172, R180)
  | settleExpiry (dt : Nat)
  | tholdmaxExpiry (dt : Nat)
  | tholdgapEnd (dt : Nat)
  | triggerTimerExpiry (dt : Nat)
  | idleExpiry (dt : Nat)
  | endOfTheWrite (dt : Nat)
  -- frames that are no request (R171, R183) and requests with an unknown code (R161)
  | entryData (rx : Rx) (data : List Byte)
  | frameOfOtherKind (rx : Rx) (kind : BitVec 5) (data : List Byte)
  | unknownRequestCode (rx : Rx) (code : Byte)
  -- requests (11.5.2)
  | resumeDispatch (rx : Rx)
  | enterObserve (rx : Rx)
  | blackStart (rx : Rx)
  | holdRestoration (rx : Rx)
  | resumeRestoration (rx : Rx)
  | shedStep (rx : Rx)
  | openFeeder (rx : Rx) (index : Byte)
  | restoreFeeder (rx : Rx) (index : Byte)
  | clearSetFault (rx : Rx) (index : Byte)
  | clearFeederFault (rx : Rx) (index : Byte)
  | setParameter (rx : Rx) (number : Byte) (value : BitVec 16)
  | readParameter (rx : Rx) (number : Byte)
  | readEntry (rx : Rx) (selector : Byte)
  | windowOpen (rx : Rx) (table : Byte) (first : Byte) (last : Byte)
  | windowCloseDiscard (rx : Rx) (argument : Byte)
  | windowCloseCommit (rx : Rx)
  | saveSettings (rx : Rx)
  | setLock (rx : Rx)
  | clearLock (rx : Rx)
  | softReset (rx : Rx)
  | cycleReset (rx : Rx)
  -- transmit side (R186)
  | take (dt : Nat)
  | frameSent (dt : Nat)
  | offeredAgain (dt : Nat)
  deriving DecidableEq, Repr

end Sys2Proof
end

