-- ==== Sys2Proof/WellFormed.lean ====
section
/-! DEFINITION. Which commands are well formed: the command spells what its row of spec/opcode_table.json
names. The meanings are total and do not lean on this; it says which terms stand for an event of that row. -/

namespace Sys2Proof

/-- The controller state codes of a SET_REPORT are 0 to 5; another code makes the frame one of wrong length
(R183, R188). -/
def reportCodeOk (code : Byte) : Bool := decide (code.toNat ≤ 5)

/-- The request codes the device knows (11.5.2): 0x01 to 0x14. -/
def requestCodeKnown (code : Byte) : Bool := decide (1 ≤ code.toNat ∧ code.toNat ≤ 0x14)

/-- The data length of an ENTRY_DATA frame is the one its table identity names: 8 bytes for the roster and
stage forms, 4 for the PV and feeder forms (R183, R188). -/
def entryDataLengthOk : List Byte → Bool
  | [] => false
  | b :: bs =>
    let table := b.toNat / 64
    decide (bs.length = if table = 0 ∨ table = 3 then 7 else 3)

/-- The number of argument bytes that follow a request code: what the table of 11.5.2 gives a known code, and none
for an unknown one (R183). -/
def requestArguments (code : Byte) : Nat :=
  match code.toNat with
  | 0x07 | 0x08 | 0x09 | 0x0A | 0x0C | 0x0D | 0x0F => 1
  | 0x0B | 0x0E => 3
  | _ => 0

/-- A frame of this kind and these data bytes meets the length its row of R183 names: the data of a SET_REPORT
(0x08), a PV_REPORT (0x09), a REQUEST (0x0A) or an ENTRY_DATA (0x0B). A frame of any other kind fits no row. -/
def frameFits (kind : BitVec 5) (data : List Byte) : Bool :=
  match kind.toNat, data with
  | 0x08, [code, _, _] => reportCodeOk code
  | 0x09, [_, _, _, _] => true
  | 0x0A, code :: arguments => decide (arguments.length = requestArguments code)
  | 0x0B, data => entryDataLengthOk data
  | _, _ => false

/-- A command is well formed when its operands spell the event its row names. A frame of another kind or of wrong
length is any frame of at most eight data bytes that fits no row of R183 (R188; log 29): whether its sender is
configured is a question to the state, not to the term. -/
def Instr.wf : Instr → Bool
  | .setReport _ code _ => reportCodeOk code
  | .entryData _ data => entryDataLengthOk data
  | .frameOfOtherKind _ kind data => decide (data.length ≤ 8) && !frameFits kind data
  | .unknownRequestCode _ code => !requestCodeKnown code
  | .windowCloseDiscard _ argument => decide (argument.toNat ≠ 1)
  | .powerOnReset .. | .resetnAssert .. | .resetnRelease .. | .endOfStartUp .. => true
  | .gtickRisingEdge .. | .lossExpiry .. | .deadExpiry .. | .startUpWait .. | .tbalExpiry .. => true
  | .fstatChange .. | .breakerTimerExpiry .. | .mshedEdge .. | .bsabortEdge .. => true
  | .cfglockChange .. | .laneChange .. | .pvReport .. => true
  | .lostTimerExpiry .. | .startTimerExpiry .. | .stopTimerExpiry .. | .minimumRunExpiry .. => true
  | .minimumDownExpiry .. | .deadBusStartTimerExpiry .. => true
  | .settleExpiry .. | .tholdmaxExpiry .. | .tholdgapEnd .. | .triggerTimerExpiry .. => true
  | .idleExpiry .. | .endOfTheWrite .. => true
  | .resumeDispatch .. | .enterObserve .. | .blackStart .. | .holdRestoration .. => true
  | .resumeRestoration .. | .shedStep .. | .openFeeder .. | .restoreFeeder .. => true
  | .clearSetFault .. | .clearFeederFault .. | .setParameter .. | .readParameter .. => true
  | .readEntry .. | .windowOpen .. | .windowCloseCommit .. | .saveSettings .. => true
  | .setLock .. | .clearLock .. | .softReset .. | .cycleReset .. => true
  | .take .. | .frameSent .. | .offeredAgain .. => true

end Sys2Proof
end

