-- ==== Sys2Proof/Decode.lean ====
section
/-! DEFINITION. What stands on the wire and in an instruction word: the command a frame received whole spells
(R183, R188), and the command a word spells by the table's bits. No row of spec/opcode_table.json gives a command
any bits ("fields" is empty in every row and no row has fixed bits), so no word spells a command. -/

namespace Sys2Proof

/-! ## Frames (R183, R188) -/

/-- A value of two bytes, the most significant byte first (R188). -/
def wordOf (hi lo : Byte) : BitVec 16 := hi ++ lo

/-- The kind of a frame: the upper 5 bits of its identifier (R183). -/
def kindOf (ident : BitVec 11) : BitVec 5 := ident.extractLsb' 6 5

/-- The source address of a frame: the lower 6 bits of its identifier (R183). -/
def sourceOf (ident : BitVec 11) : BitVec 6 := ident.extractLsb' 0 6

/-- The command of a REQUEST with this code and these argument bytes, by the table of 11.5.2; none when the length is
not the one the code gives (R183). A Window Close whose argument is not the 1 of a commit has the argument as its
operand (log 28). -/
def decodeRequest (rx : Rx) (code : Byte) (arguments : List Byte) : Option Instr :=
  match code.toNat, arguments with
  | 0x01, [] => some (.resumeDispatch rx)
  | 0x02, [] => some (.enterObserve rx)
  | 0x03, [] => some (.blackStart rx)
  | 0x04, [] => some (.holdRestoration rx)
  | 0x05, [] => some (.resumeRestoration rx)
  | 0x06, [] => some (.shedStep rx)
  | 0x07, [index] => some (.openFeeder rx index)
  | 0x08, [index] => some (.restoreFeeder rx index)
  | 0x09, [index] => some (.clearSetFault rx index)
  | 0x0A, [index] => some (.clearFeederFault rx index)
  | 0x0B, [number, hi, lo] => some (.setParameter rx number (wordOf hi lo))
  | 0x0C, [number] => some (.readParameter rx number)
  | 0x0D, [selector] => some (.readEntry rx selector)
  | 0x0E, [table, first, last] => some (.windowOpen rx table first last)
  | 0x0F, [argument] =>
    some (if argument.toNat = 1 then .windowCloseCommit rx else .windowCloseDiscard rx argument)
  | 0x10, [] => some (.saveSettings rx)
  | 0x11, [] => some (.setLock rx)
  | 0x12, [] => some (.clearLock rx)
  | 0x13, [] => some (.softReset rx)
  | 0x14, [] => some (.cycleReset rx)
  | _, [] => if requestCodeKnown code then none else some (.unknownRequestCode rx code)
  | _, _ => none

/-- The command of a frame of this kind and these data bytes; none when it fits no row of R183. -/
def decodeData (rx : Rx) (kind : BitVec 5) (data : List Byte) : Option Instr :=
  match kind.toNat, data with
  | 0x08, [code, hi, lo] => if reportCodeOk code then some (.setReport rx code (wordOf hi lo)) else none
  | 0x09, [h1, l1, h2, l2] => some (.pvReport rx (wordOf h1 l1) (wordOf h2 l2))
  | 0x0A, code :: arguments => decodeRequest rx code arguments
  | 0x0B, data => if entryDataLengthOk data then some (.entryData rx data) else none
  | _, _ => none

/-- The command of a frame received whole `dt` counts after the command before it: its identifier is split into kind
and source address, and its length is judged by its row (R183, R188). A frame that fits no row is a frame of another
kind, which is discarded (log 29). -/
def decodeFrame (dt : Nat) (lane : Lane) (ident : BitVec 11) (data : List Byte) : Instr :=
  let rx : Rx := ⟨dt, lane, sourceOf ident⟩
  (decodeData rx (kindOf ident) data).getD (.frameOfOtherKind rx (kindOf ident) data)

/-! ## Words -/

/-- The command an instruction word of `nbits` bits spells: none, since the table gives no row any bits. -/
def decodeTableWord (_nbits _w : Nat) : Option Instr := none

end Sys2Proof
end

