-- ==== Sys2Proof/Machine/Types.lean ====
section
/-! DEFINITION. The names and the records that State is made of: the states, causes and modes the spec names,
the entries of the four tables, the records of the blocks, and the frames of the transmit side. -/

namespace Sys2Proof.Machine

/-! ## Names -/

/-- Whether the device is held in reset, runs start-up, or has finished it (R181). -/
inductive Power
  | held
  | startUp
  | running
  deriving DecidableEq, Repr

/-- The operating modes (R157). -/
inductive Mode
  | observe
  | dispatch
  | blackstart
  deriving DecidableEq, Repr

/-- The black-start phases (7.1). -/
inductive Phase
  | none
  | prepare
  | firstSet
  | addSets
  | restore
  | pvReturn
  deriving DecidableEq, Repr

/-- The meter states (1.2). -/
inductive MeterState
  | noSignal
  | acquiring
  | valid
  | lost
  | dead
  deriving DecidableEq, Repr

/-- The controller states a SET_REPORT carries (R36). -/
inductive ControllerState
  | off
  | cranking
  | running
  | onBus
  | tripped
  | notReady
  deriving DecidableEq, Repr

/-- The runtime states of a set (3.2). -/
inductive SetState
  | unknown
  | stopped
  | starting
  | online
  | stopping
  | resting
  | failed
  | unavailable
  deriving DecidableEq, Repr

/-- The fault causes of a set (R35). -/
inductive FaultCause
  | none
  | tripped
  | startExhausted
  | failToStop
  | bsStartFailed
  deriving DecidableEq, Repr

/-- The directives (3.5). -/
inductive Directive
  | stop
  | run
  | runDeadbus
  | hold
  deriving DecidableEq, Repr

/-- The minimum-run timer (R35): absent outside ONLINE; in ONLINE, RUNNING or ELAPSED. -/
inductive MinRun
  | absent
  | running (ends : Count)
  | elapsed
  deriving DecidableEq, Repr

/-- Why a plant's ceiling stands where it does (R69). -/
inductive CeilingCause
  | balance
  | fastOf
  | blackstart
  deriving DecidableEq, Repr

/-- Whether a shed action passes over the protected region (5.4). -/
inductive Reach
  | shallow
  | deep
  deriving DecidableEq, Repr

/-- The nine feeder states (5.2). -/
inductive FeederState
  | disabled
  | closed
  | opening
  | openShed
  | openHeld
  | openExt
  | closing
  | stuckClosed
  | stuckOpen
  deriving DecidableEq, Repr

/-- Why the part opened a feeder (R89). -/
inductive FeederCause
  | none
  | stage (index : Fin 8)
  | reserve
  | manual
  | blackstart
  deriving DecidableEq, Repr

/-- The stage states (R102). -/
inductive StageState
  | idle
  | timing
  | fired
  deriving DecidableEq, Repr

/-- The settle timer (R127). -/
inductive Settle
  | stopped
  | running (ends : Count)
  | paused (left : Count)
  deriving DecidableEq, Repr

/-- The hold states (R131). -/
inductive HoldState
  | none
  | pending
  | inEffect
  deriving DecidableEq, Repr

/-- The four tables (9.1). -/
inductive TableId
  | roster
  | pv
  | feeder
  | stage
  deriving DecidableEq, Repr

/-- Why a commit fails validation (R173). -/
inductive Reason
  | range
  | duplicate
  | order
  | inUse
  deriving DecidableEq, Repr

/-- The role of a sender (R161). -/
inductive Role
  | supervisor
  | genset (index : Fin 8)
  | pvController
  | stranger
  deriving DecidableEq, Repr

/-- The result codes of replies (8.2). -/
inductive Result
  | accepted
  | acceptedClamped
  | acceptedNoEffect
  | notPermitted
  | wrongMode
  | seqActive
  | busy
  | locked
  | invalid
  | notHolder
  | tooSoon
  | noWindow
  | validationFailed
  | notDead
  | wrongState
  deriving DecidableEq, Repr

/-! ## Table entries -/

/-- A Set Roster entry (R34): minimum run and down in 30 s units, start timeout in 5 s units. -/
structure SetEntry where
  address : Nat
  rating : Nat
  priority : Nat
  capable : Bool
  minRun : Nat
  minDown : Nat
  startTimeout : Nat
  deriving DecidableEq, Repr

/-- A PV Table entry (R68). -/
structure PvEntry where
  address : Nat
  rating : Nat
  deriving DecidableEq, Repr

/-- A Feeder Table entry (R88). -/
structure FeederEntry where
  enabled : Bool
  position : Nat
  load : Nat
  deriving DecidableEq, Repr

/-- A Stage Table entry (R101): the delay in 10 ms units. -/
structure StageEntry where
  enabled : Bool
  reach : Reach
  width : Nat
  offset : Nat
  delay : Nat
  rocofLimit : Nat
  deriving DecidableEq, Repr

/-- What the Settings Store keeps and loads (R178): the four live tables, the live value of every parameter
(START_MODE is parameter 27) and the lock flag. -/
structure Settings where
  roster : Vector SetEntry 8
  pv : Vector PvEntry 4
  feeders : Vector FeederEntry 16
  stages : Vector StageEntry 8
  params : Vector Nat 28
  lockFlag : Bool
  deriving DecidableEq, Repr

/-- The non-volatile image (R178, R180). -/
inductive StoreImage
  /-- never written: it reads as erased and fails its CRC -/
  | erased
  /-- a write was begun and not finished: the image is marked invalid and fails its CRC -/
  | torn
  /-- the bytes of a finished write -/
  | whole (bytes : List Byte)
  deriving DecidableEq, Repr

/-- A save in progress (R179): the image of the snapshot, the requester, and when it was accepted. -/
structure Save where
  image : List Byte
  requester : Nat
  began : Count
  deriving DecidableEq, Repr

/-! ## Pins -/

/-- The input pins, LANE, MSHED, BSABORT and CFGLOCK after their debounce (00_scope.md, Pins). -/
structure Pins where
  resetn : Bool
  lane : Bool
  mshed : Bool
  bsabort : Bool
  cfglock : Bool
  fstat : Vector Bool 16
  deriving DecidableEq, Repr

/-! ## Block records -/

/-- The meter record (R3) and the start-up wait (R9). -/
structure Meter where
  state : MeterState
  elapsed : Option Count
  acqCount : Nat
  periods : List Nat
  freqs : List Nat
  freq : Option Nat
  rocof : Option Int
  waitFrom : Option Count
  deriving DecidableEq, Repr

/-- A meter event (R13), with the count of the edge or expiry it was made at. -/
structure MeterEvent where
  state : MeterState
  freq : Option Nat
  rocof : Option Int
  time : Count
  deriving DecidableEq, Repr

/-- A set's report slot (R184). -/
structure SetSlot where
  state : ControllerState
  output : Nat
  arrived : Count
  deriving DecidableEq, Repr

/-- A plant's report slot (R184). -/
structure PvSlot where
  output : Nat
  available : Nat
  arrived : Count
  deriving DecidableEq, Repr

/-- A set entry of the Balance Record (R29). -/
structure SetInput where
  index : Fin 8
  rating : Nat
  output : Nat
  stale : Bool
  deriving DecidableEq, Repr

/-- A plant entry of the Balance Record (R29). -/
structure PlantInput where
  index : Fin 4
  rating : Nat
  output : Nat
  available : Nat
  stale : Bool
  deriving DecidableEq, Repr

/-- The Balance Record (R29). -/
structure BalanceRecord where
  cycle : BitVec 8
  valid : Bool
  onlineCount : Nat
  sets : List SetInput
  plants : List PlantInput
  cOn : Nat
  cStart : Nat
  d : Nat
  q : Nat
  a : Nat
  l : Nat
  sr : Nat
  n1 : Nat
  pvt : Nat
  rr : Nat
  dmin : Nat
  uTarget : Nat
  deriving DecidableEq, Repr

/-- The runtime record of a roster entry (R35). A timer is `none` when stopped, else its end time; the lost
timer is `none` when expired. -/
structure SetRec where
  state : SetState
  cause : FaultCause
  attempts : Nat
  directive : Directive
  dirSeq : BitVec 4
  startTimer : Option Count
  stopTimer : Option Count
  minRun : MinRun
  minDown : Option Count
  deadBusTimer : Option Count
  lostTimer : Option Count
  stale : Bool
  mark : Bool
  deriving DecidableEq, Repr

/-- A timer that a block starts at a publication and reads at later ones (R53, R108): its start and length. -/
structure SpanTimer where
  start : Count
  length : Count
  deriving DecidableEq, Repr

/-- The surplus timer (R58), which belongs to its candidate. -/
structure SurplusTimer where
  start : Count
  length : Count
  candidate : Fin 8
  deriving DecidableEq, Repr

/-- The plant record (R69). -/
structure PlantRec where
  allotment : Nat
  allotCause : CeilingCause
  sent : Nat
  sentCause : CeilingCause
  ref : Option Nat
  lim : Option Nat
  lastQueued : Nat
  deriving DecidableEq, Repr

/-- The feeder record (R89). `feed` is true when the FEED line is asserted; `origin` is the reach of the walk
that opened the feeder, or none. -/
structure FeederRec where
  state : FeederState
  cause : FeederCause
  timer : Option Count
  origin : Option Reach
  feed : Bool
  deriving DecidableEq, Repr

/-- The stage record (R102). -/
structure StageRec where
  state : StageState
  start : Option Count
  deriving DecidableEq, Repr

/-- The blocked-on-reserve indication when set (R124). -/
structure Blocked where
  eHead : Nat
  since : Count
  deriving DecidableEq, Repr

/-- The hold record (R131). -/
structure Hold where
  state : HoldState
  holder : Option Nat
  maxEnds : Option Count
  gapEnds : Option Count
  deriving DecidableEq, Repr

/-- The block timer (R148): the blocked-since time it belongs to and its length. -/
structure BlockTimer where
  since : Count
  length : Count
  deriving DecidableEq, Repr

/-- The Black-Start Sequencer's record (R138), with the set under a run order (R147) and the BSABORT level
the sequencer has recorded (R152). -/
structure Sequencer where
  phase : Phase
  attempts : Nat
  trigger : Option Count
  candidate : Option (Fin 8)
  passedOver : List (Fin 8)
  block : Option BlockTimer
  failed : Bool
  runOrder : Option (Fin 8)
  abortLevel : Bool
  deriving DecidableEq, Repr

/-- The staging copy of the Table Window: a whole copy of one table (R169). -/
inductive Staging
  | roster (t : Vector SetEntry 8)
  | pv (t : Vector PvEntry 4)
  | feeder (t : Vector FeederEntry 16)
  | stage (t : Vector StageEntry 8)
  deriving DecidableEq, Repr

/-- The window record (R169). -/
structure Window where
  owner : Nat
  staging : Staging
  first : Nat
  last : Nat
  pointer : Nat
  rejected : Nat
  idleEnds : Count
  deriving DecidableEq, Repr

/-! ## Frames -/

/-- The alert set (R168). -/
structure AlertSet where
  setFailed : Bool
  feederStuck : Bool
  stageFired : Bool
  shedExhausted : Bool
  bsFailed : Bool
  storeBad : Bool
  deriving DecidableEq, Repr

/-- The fields of a STATUS_A that are fixed when it is queued (R31); `none` stands for the invalid marker. -/
structure StatusA where
  mode : Mode
  phase : Phase
  alerts : AlertSet
  recordValid : Bool
  meter : MeterState
  deviation : Option Int
  rocof : Option Int
  deriving DecidableEq, Repr

/-- A run of a feeder report (R113): first index, count and state. -/
structure Run where
  first : Nat
  count : Nat
  state : FeederState
  deriving DecidableEq, Repr

/-- A queued frame (R185, R187). A feeder report holds its parts and the number of the part that is taken
next; the cycle number, the lane and U are filled in at the take. -/
inductive Frame
  | statusA (f : StatusA)
  | statusB (sr rr l : Nat)
  | setDirective (index : Fin 8) (dest : Nat) (directive : Directive) (seq : BitVec 4)
  | pvCeiling (index : Fin 4) (dest : Nat) (ceiling : Nat) (cause : CeilingCause)
  | feederReport (parts : List (List Run)) (next : Nat)
  | reply (dest : Nat) (code : BitVec 5) (result : Result) (data : List Byte)
  deriving DecidableEq, Repr

/-- The keys of the Transmit Queue (R185). -/
inductive Key
  | setDirective (index : Fin 8)
  | pvCeiling (index : Fin 4)
  | statusA
  | statusB
  | feederReport
  | reply (dest : Nat)
  deriving DecidableEq, Repr

/-- The transmit buffer (R186): the frame taken, with the cycle number, the lane, U and the part number as
they were filled in at the take. -/
structure TxBuffer where
  frame : Frame
  cycle : BitVec 8
  lane : Lane
  u : Nat
  part : Nat
  deriving DecidableEq, Repr

end Sys2Proof.Machine
end

