-- ==== Sys2Proof/Machine/Timing.lean ====
section
/-! DEFINITION. The timing quantities of the spec in CLKIN counts, and the Parameter Set's table (R176). -/

namespace Sys2Proof.Machine

/-- One millisecond in CLKIN counts of 0.1 µs. -/
abbrev ms (n : Nat) : Count := n * 10000
/-- One second in CLKIN counts. -/
abbrev sec (n : Nat) : Count := n * 10000000

/-- Shortest accepted period (1.1). -/
def tPMIN : Count := 142858
/-- Longest accepted period (1.1). -/
def tPMAX : Count := 250000
/-- Dead-bus expiry when exceeded (1.1). -/
def tDEAD : Count := 1000000
/-- Balance interval (2.1). -/
def tBAL : Count := 2000000
/-- Report age above which a report is stale (2.1). -/
def tSTALE : Count := 10000000
/-- Report age at which a controller is taken as lost (3.1): 10 s. -/
def tLOST : Count := 100000000
/-- Longest time for a breaker to follow (chapter 5): 400 ms. -/
def tBRK : Count := 4000000
/-- Time after a hold during which a new hold is refused (chapter 6): 5 s. -/
def tHOLDGAP : Count := 50000000
/-- Longest life of a hold (chapter 6): 30 s. -/
def tHOLDMAX : Count := 300000000
/-- Window idle timeout (chapter 9): 2 s. -/
def tWIN : Count := 20000000
/-- Longest write of the store (chapter 10): 500 ms. -/
def tSAVE : Count := 5000000
/-- Longest load of the store (chapter 10): 50 ms. -/
def tLOAD : Count := 500000

/-- When an accepted Set Parameter value takes effect (R176). -/
inductive Reflection
  | nextInterval
  | immediate
  | nextTimer
  | atStartUp
  deriving DecidableEq, Repr

/-- One row of the parameter table (R176). `wide` says that the value is a kW, mHz or time value, which takes
two bytes in reply data (11.5.1). -/
structure ParamRow where
  lo : Nat
  hi : Nat
  default : Nat
  reflection : Reflection
  wide : Bool
  deriving DecidableEq, Repr

/-- The parameter table in parameter-number order (R176, 11.5.2). -/
def paramRows : Vector ParamRow 28 := #v[
  ⟨0, 8000, 200, .nextInterval, true⟩,
  ⟨0, 100, 60, .nextInterval, false⟩,
  ⟨0, 1, 1, .nextInterval, false⟩,
  ⟨0, 60, 30, .nextInterval, false⟩,
  ⟨1, 2000, 50, .nextInterval, true⟩,
  ⟨0, 120, 10, .nextTimer, true⟩,
  ⟨30, 3600, 600, .nextTimer, true⟩,
  ⟨0, 8000, 100, .nextInterval, true⟩,
  ⟨1, 5, 3, .immediate, false⟩,
  ⟨5, 600, 30, .nextTimer, true⟩,
  ⟨0, 4000, 50, .nextInterval, true⟩,
  ⟨1, 60, 5, .nextTimer, true⟩,
  ⟨100, 2000, 500, .immediate, true⟩,
  ⟨10, 100, 40, .immediate, false⟩,
  ⟨0, 1000, 200, .immediate, true⟩,
  ⟨2, 120, 10, .nextTimer, true⟩,
  ⟨0, 600, 30, .nextTimer, true⟩,
  ⟨0, 1, 0, .immediate, false⟩,
  ⟨0, 1, 1, .nextInterval, false⟩,
  ⟨1, 17, 17, .immediate, false⟩,
  ⟨0, 1, 0, .immediate, false⟩,
  ⟨100, 300, 150, .immediate, false⟩,
  ⟨0, 1, 0, .immediate, false⟩,
  ⟨0, 120, 10, .nextTimer, true⟩,
  ⟨1, 3, 2, .immediate, false⟩,
  ⟨10, 300, 90, .nextTimer, true⟩,
  ⟨30, 900, 300, .nextTimer, true⟩,
  ⟨0, 1, 0, .atStartUp, false⟩]

/-- A parameter, by its number (11.5.2). -/
abbrev Param := Fin 28

/-- Every parameter at its default. -/
def defaultParams : Vector Nat 28 := tabulate fun p => paramRows[p].default

/-! The parameters by their names. -/
abbrev RES_MARGIN : Param := 0
abbrev PVLOSS : Param := 1
abbrev N1_COVER : Param := 2
abbrev MINLOAD : Param := 3
abbrev RAMP_UP : Param := 4
abbrev START_DELAY : Param := 5
abbrev STOP_DELAY : Param := 6
abbrev STOP_HYST : Param := 7
abbrev MAX_ATTEMPTS : Param := 8
abbrev RETRY_DELAY : Param := 9
abbrev SHED_FLOOR : Param := 10
abbrev RES_SHED_DELAY : Param := 11
abbrev OF_START : Param := 12
abbrev OF_GRAD : Param := 13
abbrev RESTORE_FREQ : Param := 14
abbrev RESTORE_SETTLE : Param := 15
abbrev RESTORE_DELAY : Param := 16
abbrev RESTORE_ORDER : Param := 17
abbrev RESTORE_START : Param := 18
abbrev PROTECT_FROM : Param := 19
abbrev PROTECT_INV : Param := 20
abbrev CLP : Param := 21
abbrev AUTO_BS : Param := 22
abbrev BS_DELAY : Param := 23
abbrev BS_SETS : Param := 24
abbrev BS_START_TIMEOUT : Param := 25
abbrev BS_BLOCK_MAX : Param := 26
abbrev START_MODE : Param := 27

end Sys2Proof.Machine
end

