-- ==== Sys2Proof/Machine/Defaults.lean ====
section
/-! DEFINITION. The values the records take after power-on reset and at the end of start-up. -/

namespace Sys2Proof.Machine

/-- An empty roster entry. -/
abbrev SetEntry.empty : SetEntry := ⟨0, 0, 0, false, 0, 0, 0⟩
/-- An empty PV entry. -/
abbrev PvEntry.empty : PvEntry := ⟨0, 0⟩
/-- A disabled feeder entry. -/
abbrev FeederEntry.disabled : FeederEntry := ⟨false, 0, 0⟩
/-- A disabled stage entry. -/
abbrev StageEntry.disabled : StageEntry := ⟨false, .shallow, 0, 0, 0, 0⟩

/-- The configuration a start-up from a bad store takes (R178). -/
def Settings.defaults : Settings where
  roster := .replicate 8 .empty
  pv := .replicate 4 .empty
  feeders := .replicate 16 .disabled
  stages := .replicate 8 .disabled
  params := defaultParams
  lockFlag := false

/-- The meter record after power-on reset (R3). -/
def Meter.reset : Meter := ⟨.noSignal, none, 0, [], [], none, none, none⟩

/-- A runtime record after power-on reset (R35), before its directive and its lost timer are set at the end
of start-up; the directive of an empty entry is STOP (R34). -/
def SetRec.reset : SetRec :=
  ⟨.unknown, .none, 0, .stop, 0, none, none, .absent, none, none, none, false, false⟩

/-- A plant record at its defaults for the rating `r` (R69). -/
def PlantRec.default (r : Nat) : PlantRec := ⟨r, .balance, r, .balance, none, none, r⟩

/-- A feeder record before the feeder states exist (R90): no trip is commanded. The state the record holds then is
stated by no rule; the model holds DISABLED (log 9). -/
def FeederRec.reset : FeederRec := ⟨.disabled, .none, none, none, false⟩

/-- A stage record after reset (R102). -/
def StageRec.idle : StageRec := ⟨.idle, none⟩

/-- The hold record after reset (R118). -/
def Hold.none : Hold := ⟨.none, Option.none, Option.none, Option.none⟩

/-- The sequencer's record after power-on reset (R138). -/
def Sequencer.reset : Sequencer := ⟨.none, 0, none, none, [], none, false, none, false⟩

end Sys2Proof.Machine
end

