-- ==== Sys2Proof/Machine/Frames.lean ====
section
/-! DEFINITION. The byte layouts of R188: the codes of the enumerated fields, the frames the device sends, the
entry forms of the tables, and the store image with its CRC-16 (R178). -/

namespace Sys2Proof.Machine

/-! ## Values as bytes -/

/-- A 16-bit value, most significant byte first (R188). -/
def be16 (n : Nat) : List Byte := [BitVec.ofNat 8 (n / 256), BitVec.ofNat 8 n]

/-- One byte holding a number. -/
def byte (n : Nat) : Byte := BitVec.ofNat 8 n

/-- A flag as one byte. -/
def boolByte (b : Bool) : Byte := if b then 1 else 0

/-- A figure that saturates at 65,535 (R32). -/
def sat16 (n : Nat) : Nat := min n 65535

/-- A signed 16-bit value; the invalid marker is −32,768 (R31). -/
def signed16 (x : Option Int) : List Byte :=
  be16 (BitVec.ofInt 16 (x.getD (-32768))).toNat

/-! ## Codes (11.5.1) -/

def Mode.code : Mode → Nat
  | .observe => 0 | .dispatch => 1 | .blackstart => 2

def Phase.code : Phase → Nat
  | .none => 0 | .prepare => 1 | .firstSet => 2 | .addSets => 3 | .restore => 4 | .pvReturn => 5

def MeterState.code : MeterState → Nat
  | .noSignal => 0 | .acquiring => 1 | .valid => 2 | .lost => 3 | .dead => 4

def SetState.code : SetState → Nat
  | .unknown => 0 | .stopped => 1 | .starting => 2 | .online => 3
  | .stopping => 4 | .resting => 5 | .failed => 6 | .unavailable => 7

def FaultCause.code : FaultCause → Nat
  | .none => 0 | .tripped => 1 | .startExhausted => 2 | .failToStop => 3 | .bsStartFailed => 4

def Directive.code : Directive → Nat
  | .stop => 0 | .run => 1 | .runDeadbus => 2 | .hold => 3

def CeilingCause.code : CeilingCause → Nat
  | .balance => 0 | .fastOf => 1 | .blackstart => 2

def FeederState.code : FeederState → Nat
  | .disabled => 0 | .closed => 1 | .opening => 2 | .openShed => 3 | .openHeld => 4
  | .openExt => 5 | .closing => 6 | .stuckClosed => 7 | .stuckOpen => 8

def FeederCause.code : FeederCause → Nat
  | .stage i => i.val | .reserve => 8 | .manual => 9 | .blackstart => 10 | .none => 11

def StageState.code : StageState → Nat
  | .idle => 0 | .timing => 1 | .fired => 2

def HoldState.code : HoldState → Nat
  | .none => 0 | .pending => 1 | .inEffect => 2

def Reason.code : Reason → Nat
  | .range => 0 | .duplicate => 1 | .order => 2 | .inUse => 3

def TableId.code : TableId → Nat
  | .roster => 0 | .pv => 1 | .feeder => 2 | .stage => 3

/-- The table a code names, if any (11.5.1). -/
def TableId.ofCode : Nat → Option TableId
  | 0 => some .roster | 1 => some .pv | 2 => some .feeder | 3 => some .stage | _ => none

/-- The last index of a table (9.1). -/
def TableId.lastIndex : TableId → Nat
  | .roster => 7 | .pv => 3 | .feeder => 15 | .stage => 7

/-- The controller state a code names (11.5.2). -/
def ControllerState.ofCode : Nat → Option ControllerState
  | 0 => some .off | 1 => some .cranking | 2 => some .running
  | 3 => some .onBus | 4 => some .tripped | 5 => some .notReady | _ => none

/-- The three-bit result field of a REPLY, and the further result byte when the field is 7 (11.5.1). -/
def Result.code : Result → Nat × Option Nat
  | .accepted => (0, none) | .acceptedClamped => (1, none) | .acceptedNoEffect => (2, none)
  | .busy => (3, none) | .tooSoon => (4, none) | .notHolder => (5, none)
  | .validationFailed => (6, none)
  | .notPermitted => (7, some 0) | .wrongMode => (7, some 1) | .seqActive => (7, some 2)
  | .locked => (7, some 3) | .invalid => (7, some 4) | .noWindow => (7, some 5)
  | .notDead => (7, some 6) | .wrongState => (7, some 7)

/-- The directive with its sequence, in the form of SET_DIRECTIVE byte 0. -/
def directiveByte (d : Directive) (seq : BitVec 4) : Byte := byte (seq.toNat * 16 + d.code)

/-! ## Frames sent by the device (11.5.1) -/

/-- Where an entry of the Transmit Queue is keyed (R185). -/
def Frame.key : Frame → Key
  | .statusA _ => .statusA
  | .statusB .. => .statusB
  | .setDirective i .. => .setDirective i
  | .pvCeiling p .. => .pvCeiling p
  | .feederReport .. => .feederReport
  | .reply dest .. => .reply dest

/-- The kind of a frame, the upper five bits of its identifier. -/
def Frame.kind : Frame → Nat
  | .statusA _ => 1 | .setDirective .. => 2 | .pvCeiling .. => 3
  | .statusB .. => 4 | .feederReport .. => 5 | .reply .. => 6

/-- The destination of a frame, the lower six bits of its identifier; 0x3F is the broadcast (R188). -/
def Frame.dest : Frame → Nat
  | .setDirective _ dest _ _ => dest
  | .pvCeiling _ dest _ _ => dest
  | .reply dest _ _ _ => dest
  | .statusA _ | .statusB .. | .feederReport .. => 0x3F

/-- Byte 1 of a STATUS_A without the lane bit. -/
def AlertSet.bits (a : AlertSet) : Nat :=
  a.setFailed.toNat + 2 * a.feederStuck.toNat + 4 * a.stageFired.toNat
    + 8 * a.shedExhausted.toNat + 16 * a.bsFailed.toNat + 32 * a.storeBad.toNat

/-- A run as its byte pair. -/
def Run.bytes (r : Run) : List Byte := [byte (r.first * 16 + (r.count - 1)), byte r.state.code]

/-- The identifier of the buffered frame: kind in bits 10 to 6, destination in bits 5 to 0 (R188). -/
def TxBuffer.ident (b : TxBuffer) : BitVec 11 := BitVec.ofNat 11 (b.frame.kind * 64 + b.frame.dest)

/-- The data bytes of the buffered frame (11.5.1). -/
def TxBuffer.bytes (b : TxBuffer) : List Byte :=
  let cycle : Byte := b.cycle
  match b.frame with
  | .statusA f =>
    byte (f.mode.code + 4 * f.phase.code + 32 * f.meter.code)
      :: byte (f.alerts.bits + 64 * f.recordValid.toNat + 128 * (if b.lane = .b then 1 else 0))
      :: signed16 f.deviation ++ signed16 f.rocof ++ [cycle]
  | .setDirective _ _ d seq => [directiveByte d seq, cycle]
  | .pvCeiling _ _ ceiling cause => be16 ceiling ++ [byte cause.code, cycle]
  | .statusB sr rr l => be16 (sat16 sr) ++ be16 (sat16 rr) ++ be16 (sat16 b.u) ++ be16 (sat16 l)
  | .feederReport parts _ =>
    let runs := parts.getD b.part []
    let last := if b.part + 1 = parts.length then 128 else 0
    cycle :: byte (b.part + last) :: runs.flatMap Run.bytes
  | .reply _ code result data =>
    match result.code with
    | (r, none) => cycle :: byte (code.toNat * 8 + r) :: data
    | (r, some other) => cycle :: byte (code.toNat * 8 + r) :: byte other :: data

/-! ## Entry forms (11.5.2), bytes 1 to 7 of an ENTRY_DATA and the entries of the store image -/

/-- The 16-bit value of two bytes at an offset. -/
def word (bs : List Byte) (at_ : Nat) : Nat := (bs.getD at_ 0).toNat * 256 + (bs.getD (at_ + 1) 0).toNat

/-- The number in one byte at an offset. -/
def octet (bs : List Byte) (at_ : Nat) : Nat := (bs.getD at_ 0).toNat

def SetEntry.ofBytes (bs : List Byte) : SetEntry where
  address := octet bs 0
  rating := word bs 1
  priority := octet bs 3 % 16
  capable := decide (octet bs 3 / 128 = 1)
  minRun := octet bs 4
  minDown := octet bs 5
  startTimeout := octet bs 6

def SetEntry.toBytes (e : SetEntry) : List Byte :=
  byte e.address :: be16 e.rating ++
    [byte (e.priority % 16 + 128 * e.capable.toNat), byte e.minRun, byte e.minDown, byte e.startTimeout]

def PvEntry.ofBytes (bs : List Byte) : PvEntry := ⟨octet bs 0, word bs 1⟩

def PvEntry.toBytes (e : PvEntry) : List Byte := byte e.address :: be16 e.rating

def FeederEntry.ofBytes (bs : List Byte) : FeederEntry where
  enabled := decide (octet bs 0 / 128 = 1)
  position := octet bs 0 % 32
  load := word bs 1

def FeederEntry.toBytes (e : FeederEntry) : List Byte :=
  byte (e.position % 32 + 128 * e.enabled.toNat) :: be16 e.load

def StageEntry.ofBytes (bs : List Byte) : StageEntry where
  enabled := decide (octet bs 0 / 128 = 1)
  reach := if octet bs 0 / 64 % 2 = 1 then .deep else .shallow
  width := octet bs 0 % 8
  offset := word bs 1
  delay := word bs 3
  rocofLimit := word bs 5

def StageEntry.toBytes (e : StageEntry) : List Byte :=
  byte (e.width % 8 + 64 * (if e.reach = .deep then 1 else 0) + 128 * e.enabled.toNat)
    :: be16 e.offset ++ be16 e.delay ++ be16 e.rocofLimit

/-- The bytes of the fields of one entry form (R188). -/
def TableId.entryLength : TableId → Nat
  | .roster | .stage => 7
  | .pv | .feeder => 3

/-- The data of an ENTRY_DATA frame has the length of the entry form its table identity names (R183). -/
def entryFits : List Byte → Bool
  | [] => false
  | b :: fields =>
    match TableId.ofCode (b.toNat / 64) with
    | some t => decide (fields.length = t.entryLength)
    | none => false

/-! ## The store image (R178) -/

/-- One bit of the CRC-16: shift left, and take away the polynomial x^16 + x^12 + x^5 + 1 when a one left. -/
def crcBit (crc : BitVec 16) : BitVec 16 :=
  if crc.msb then (crc <<< 1) ^^^ 0x1021#16 else crc <<< 1

/-- One byte of the CRC-16, most significant bit first. -/
def crcByte (crc : BitVec 16) (b : Byte) : BitVec 16 :=
  let c := crc ^^^ (b.setWidth 16 <<< 8)
  crcBit (crcBit (crcBit (crcBit (crcBit (crcBit (crcBit (crcBit c)))))))

/-- The CRC-16 of R178: initial value 0xFFFF, no reflection, no final inversion. -/
def crc16 (bs : List Byte) : BitVec 16 := bs.foldl crcByte 0xFFFF#16

/-- The content of the image: the tables entry by entry, the parameters, the lock flag. -/
def Settings.content (c : Settings) : List Byte :=
  c.roster.toList.flatMap SetEntry.toBytes ++ c.pv.toList.flatMap PvEntry.toBytes
    ++ c.feeders.toList.flatMap FeederEntry.toBytes ++ c.stages.toList.flatMap StageEntry.toBytes
    ++ c.params.toList.flatMap be16 ++ [boolByte c.lockFlag]

/-- The length of the content: 8 × 7 + 4 × 3 + 16 × 3 + 8 × 7 + 28 × 2 + 1 bytes. -/
def contentLength : Nat := 229

/-- The image: the content and its CRC-16. -/
def Settings.image (c : Settings) : List Byte := c.content ++ be16 (crc16 c.content).toNat

/-- The settings whose content these bytes are. -/
def Settings.ofContent (bs : List Byte) : Settings where
  roster := tabulate fun i => .ofBytes (bs.drop (7 * i.val))
  pv := tabulate fun i => .ofBytes (bs.drop (56 + 3 * i.val))
  feeders := tabulate fun i => .ofBytes (bs.drop (68 + 3 * i.val))
  stages := tabulate fun i => .ofBytes (bs.drop (116 + 7 * i.val))
  params := tabulate fun i => word bs (172 + 2 * i.val)
  lockFlag := decide (octet bs 228 ≠ 0)

/-- The content of an image whose CRC matches. -/
def StoreImage.checked : StoreImage → Option (List Byte)
  | .erased => none
  | .torn => none
  | .whole bytes =>
    if bytes.length = contentLength + 2
        ∧ word bytes contentLength = (crc16 (bytes.take contentLength)).toNat
    then some (bytes.take contentLength) else none

end Sys2Proof.Machine
end

