-- ==== Sys2Proof/Config.lean ====
section
/-! DEFINITION. The free values: what the spec leaves open, as constants without a body, so that no proof can
see what they are. Each is named in a row of notes/assumptions. -/

namespace Sys2Proof

/-- The rank that decides in which order the blocks act on one publication (02 R30: "These blocks need no
order among themselves"): first argument the free index of that publication, second the number of the
block's task. Free value, log 5. -/
opaque Config.taskRank : Nat → Nat → Nat

/-- The rank that decides in which order expiries that fall due at one CLKIN count are taken (R7, R9, R47,
R92, R135, R136: "may be taken in either order"): the count, and the number of the expiry. Free value, log 3. -/
opaque Config.tieRank : Nat → Nat → Nat

/-- A 16-bit reply field whose value the spec does not state. Free value, log 15. -/
opaque Config.freeWord : Nat → BitVec 16

/-- A one-byte reply field whose value the spec does not state. Free value, log 15. -/
opaque Config.freeByte : Nat → Byte

/-- The five-bit request code that a reply to an unknown request code above 31 carries (R161, R188 give the
field no room for it). Free value, log 15. -/
opaque Config.unknownCodeField : Byte → BitVec 5

/-- Whether a report's age with this remainder above a whole number of 100 ms units is given as the next
unit (R164 states the unit and no rounding). Free value, log 16. -/
opaque Config.ageRoundsUp : Nat → Bool

end Sys2Proof
end

