-- ==== Sys2Proof/Machine/State.lean ====
section
/-! DEFINITION. The state of the block, why a step could stop, and the state right after power-on reset. -/

namespace Sys2Proof.Machine

/-- The faults that stop the machine. The spec names none: FAILED sets, stuck feeders and the alert set are
states of the device, and every command leads to a next state. -/
inductive Fault
  deriving DecidableEq, Repr

/-- Why a command would be refused by the model. -/
inductive Refusal
  /-- raised by `exec` for a command that has no meaning yet; no arm of this model raises it (safe) -/
  | notModelled (mnemonic : String)
  deriving DecidableEq, Repr

/-- The device. INVENTORY.md, "State", names the rule of every field. -/
structure State where
  /-- the commands that are waiting, first in, first out -/
  pending : List Instr
  /-- the CLKIN count (log 1) -/
  clk : Count
  /-- held in reset, start-up, or running (R181) -/
  power : Power
  /-- the count at which start-up began (R181) -/
  startBegan : Count
  /-- the model's own index of free values (log 15) -/
  freeCount : Nat
  /-- the levels of the input pins -/
  pins : Pins
  /-- the level of the ALERT output (R168) -/
  alertPin : Bool
  -- Frequency Meter
  /-- nominal frequency in mHz (R1) -/
  fn : Nat
  /-- the meter record (R3) -/
  meter : Meter
  -- Balance Engine
  /-- the next tBAL expiry while the interval timer runs (R16) -/
  tbalEnds : Option Count
  /-- the cycle number (R17) -/
  cycle : BitVec 8
  /-- the published Balance Record (R29) -/
  record : Option BalanceRecord
  /-- the held outputs H_p (R22) -/
  held : Vector Nat 4
  -- Station Bus Interface
  /-- the selected lane (R182) -/
  lane : Lane
  /-- a lane change waits for a frame boundary (R182) -/
  laneWaiting : Bool
  /-- the report slots of the sets (R184) -/
  setSlots : Vector (Option SetSlot) 8
  /-- the report slots of the plants (R184) -/
  pvSlots : Vector (Option PvSlot) 4
  /-- the Transmit Queue, head first (R185) -/
  txQueue : List Frame
  /-- the transmit buffer (R186) -/
  txBuffer : Option TxBuffer
  -- Configuration
  /-- the live tables, the live parameter values and the lock flag -/
  cfg : Settings
  /-- the pending NEXT_INTERVAL values (R19) -/
  paramPending : Vector (Option Nat) 28
  -- Commitment Unit
  /-- the runtime records (R35) -/
  sets : Vector SetRec 8
  /-- the shortfall timer (R53) -/
  shortfall : Option SpanTimer
  /-- the surplus timer (R58) -/
  surplus : Option SurplusTimer
  -- Curtailment Unit
  /-- the plant records (R69) -/
  plants : Vector PlantRec 4
  /-- the aggregate ceiling U (R70) -/
  aggU : Nat
  /-- the fresh-start mark (R70) -/
  freshStart : Bool
  /-- forced zero (R70) -/
  forcedZero : Bool
  /-- the PV_RETURN indication (R70) -/
  pvReached : Bool
  -- Shed Ladder
  /-- the feeder records (R89) -/
  feeders : Vector FeederRec 16
  /-- the stage records (R102) -/
  stages : Vector StageRec 8
  /-- SHED_EXHAUSTED (R99) -/
  exhausted : Bool
  /-- the reserve-shed timer (R108) -/
  reserveShed : Option SpanTimer
  /-- the last level of the MSHED edge detector (R109) -/
  mshedLevel : Bool
  /-- the meter state the Ladder noted (R106) -/
  notedMeter : MeterState
  /-- publications since the last feeder report (R114) -/
  reportCount : Nat
  /-- the first publication after start-up is still to come (R114) -/
  firstReport : Bool
  -- Restoration Unit
  /-- the Restoration Queue, head first (R118) -/
  queue : List (Fin 16)
  /-- the settle timer (R127) -/
  settle : Settle
  /-- the restore-delay timer: its end time, or none when ELAPSED (R128) -/
  restoreDelay : Option Count
  /-- the blocked-on-reserve indication (R124) -/
  blocked : Option Blocked
  /-- the hold record (R131) -/
  hold : Hold
  /-- the black-start ordering mark (R121) -/
  ordering : Bool
  -- Black-Start Sequencer
  /-- the sequencer's record (R138) -/
  seq : Sequencer
  -- Request Handler
  /-- the operating mode (R157) -/
  mode : Mode
  /-- the CFGLOCK level the handler has taken (R177) -/
  cfglockLevel : Bool
  /-- the Table Window (R169) -/
  window : Option Window
  -- Settings Store
  /-- the non-volatile image (R178) -/
  store : StoreImage
  /-- the save state: none is IDLE (R179) -/
  save : Option Save
  /-- STORE_BAD (R178) -/
  storeBad : Bool
  deriving DecidableEq, Repr

/-- The device right after power-on reset, at the start of start-up (R181), with a store that has never been
written, FSEL low and every other input at its log 8 level. -/
def State.reset : State where
  pending := []
  clk := 0
  power := .startUp
  startBegan := 0
  freeCount := 0
  pins := ⟨true, false, false, false, false, .replicate 16 false⟩
  alertPin := false
  fn := 50000
  meter := .reset
  tbalEnds := none
  cycle := 0
  record := none
  held := .replicate 4 0
  lane := .a
  laneWaiting := false
  setSlots := .replicate 8 none
  pvSlots := .replicate 4 none
  txQueue := []
  txBuffer := none
  cfg := .defaults
  paramPending := .replicate 28 none
  sets := .replicate 8 .reset
  shortfall := none
  surplus := none
  plants := .replicate 4 (.default 0)
  aggU := 0
  freshStart := true
  forcedZero := false
  pvReached := false
  feeders := .replicate 16 .reset
  stages := .replicate 8 .idle
  exhausted := false
  reserveShed := none
  mshedLevel := false
  notedMeter := .noSignal
  reportCount := 0
  firstReport := false
  queue := []
  settle := .stopped
  restoreDelay := none
  blocked := none
  hold := .none
  ordering := false
  seq := .reset
  mode := .observe
  cfglockLevel := false
  window := none
  store := .erased
  save := none
  storeBad := false

end Sys2Proof.Machine
end

