-- ==== Sys2Proof/Machine/Ops.lean ====
section
/-! DEFINITION. The named operations every block uses: time, parameters, configured entries, timers, the
Transmit Queue and replies. -/

namespace Sys2Proof.Machine

/-! ## Time -/

/-- E counts on from the last accepted edge in ACQUIRING, VALID and LOST, up to tDEAD + 1; in DEAD it stands
still, and in NO_SIGNAL it does not exist (R2, R3). -/
def Meter.elapse (m : Meter) (dt : Nat) : Meter :=
  match m.state with
  | .acquiring | .valid | .lost => { m with elapsed := m.elapsed.map fun e => min (e + dt) (tDEAD + 1) }
  | .noSignal | .dead => m

/-- `dt` CLKIN counts pass (log 1). -/
def State.elapse (s : State) (dt : Nat) : State :=
  { s with clk := s.clk + dt, meter := s.meter.elapse dt }

/-- Whether a timer that ends at `t` is running and due. -/
def State.due (s : State) (t : Option Count) : Bool :=
  match t with
  | some ends => decide (ends ≤ s.clk)
  | none => false

/-! ## Parameters (R176) -/

/-- The live value of a parameter. -/
def State.par (s : State) (p : Param) : Nat := s.cfg.params[p]

/-- Whether a two-valued parameter stands at the second value its range names. -/
def State.parOn (s : State) (p : Param) : Bool := decide (s.par p = 1)

/-! ## Configured entries (R34, R68) -/

/-- A roster entry with a rating above 0 is a configured set. -/
def State.setConfigured (s : State) (i : Fin 8) : Bool := decide (0 < s.cfg.roster[i].rating)

/-- A PV entry with a rating above 0 is a configured plant. -/
def State.plantConfigured (s : State) (p : Fin 4) : Bool := decide (0 < s.cfg.pv[p].rating)

/-- The configured sets whose runtime state is one of `xs`, ascending. -/
def State.setsIn (s : State) (xs : List SetState) : List (Fin 8) :=
  (indices 8).filter fun i => s.setConfigured i && decide (s.sets[i].state ∈ xs)

/-- The configured plants, ascending. -/
def State.configuredPlants (s : State) : List (Fin 4) := (indices 4).filter s.plantConfigured

/-- Whether the latest report in a set's slot reads ON_BUS (R55, R146). -/
def State.reportsOnBus (s : State) (i : Fin 8) : Bool :=
  match s.setSlots[i] with
  | some slot => decide (slot.state = .onBus)
  | none => false

/-! ## Feeders -/

/-- Whether any feeder is in the given state. -/
def State.anyFeeder (s : State) (st : FeederState) : Bool :=
  (indices 16).any fun i => decide (s.feeders[i].state = st)

/-- Whether every stage is IDLE. -/
def State.stagesIdle (s : State) : Bool := (indices 8).all fun k => decide (s.stages[k].state = .idle)

/-! ## The Transmit Queue (R185) -/

/-- Queue a frame: in place of the waiting frame of its key, else at the tail. -/
def enqueue (q : List Frame) (f : Frame) : List Frame :=
  if q.any (fun g => decide (g.key = f.key)) then q.map (fun g => if g.key = f.key then f else g)
  else q ++ [f]

def State.send (s : State) (f : Frame) : State := { s with txQueue := enqueue s.txQueue f }

/-- Queue a REPLY under the sender's reply key (R162). -/
def State.reply (s : State) (dest : Nat) (code : BitVec 5) (result : Result) (data : List Byte) : State :=
  s.send (.reply dest code result data)

/-- Use one free value: the next one has another index (log 15). -/
def State.useFree (s : State) : State := { s with freeCount := s.freeCount + 1 }

end Sys2Proof.Machine
end

