-- ==== Sys2Proof/Machine/Operands.lean ====
section
/-! DEFINITION. Who sent a frame, whether it is taken, and how the operands of requests and of replies are
read and written (R161, R183, 11.5). -/

namespace Sys2Proof.Machine

/-- The configured roster entry that holds an address. -/
def State.setAt (s : State) (address : Nat) : Option (Fin 8) :=
  (indices 8).find? fun i => s.setConfigured i && decide (s.cfg.roster[i].address = address)

/-- The configured PV entry that holds an address. -/
def State.plantAt (s : State) (address : Nat) : Option (Fin 4) :=
  (indices 4).find? fun p => s.plantConfigured p && decide (s.cfg.pv[p].address = address)

/-- The sender's role follows from its address (R161). -/
def State.roleOf (s : State) (src : Nat) : Role :=
  if src = 1 ∨ src = 2 then .supervisor
  else match s.setAt src with
    | some i => .genset i
    | none => if (s.plantAt src).isSome then .pvController else .stranger

/-- A role of a request (8.4). -/
def Role.allowed (gensets : Bool) : Role → Bool
  | .supervisor => true
  | .genset _ => gensets
  | .pvController | .stranger => false

/-- The lock is in force while the flag is set and CFGLOCK is high (R177). -/
def State.lockInForce (s : State) : Bool := s.cfg.lockFlag && s.cfglockLevel

/-- The lane a LANE level names (R182). -/
def laneOf (level : Bool) : Lane := if level then .b else .a

/-- What stops a request at steps 2 to 5 of R161: which columns of 8.4 apply to it. `gensets` says that a genset
controller may send it; `lockData` that its LOCKED reply carries the lock's state (R177). -/
structure Gate where
  gensets : Bool := false
  seqActive : Bool := false
  lock : Bool := false
  busySave : Bool := false
  busyWindow : Bool := false
  lockData : Bool := false
  deriving DecidableEq, Repr

/-- The first check of steps 2 to 5 of R161 that a request from `role` fails. -/
def State.refusal (s : State) (role : Role) (g : Gate) : Option Result :=
  if role.allowed g.gensets = false then some .notPermitted
  else if g.seqActive = true ∧ s.mode = .blackstart then some .seqActive
  else if g.lock = true ∧ s.lockInForce = true then some .locked
  else if (g.busySave = true ∧ s.save.isSome = true) ∨ (g.busyWindow = true ∧ s.window.isSome = true)
    then some .busy
  else none

/-- The lock's state in reply data: the flag and the CFGLOCK level (R177). -/
def State.lockBytes (s : State) : List Byte := [boolByte s.cfg.lockFlag, boolByte s.cfglockLevel]

/-- A parameter value in reply data: two bytes for a kW, mHz or time value, else one (11.5.1). The one-byte
field of a value above 255 is a free value (log 15). -/
def State.paramBytes (s : State) (p : Param) (v : Nat) : List Byte :=
  if paramRows[p].wide then be16 v
  else if v < 256 then [byte v] else [Config.freeByte s.freeCount]

/-- A parameter number of a request, if the device knows it (11.5.2). -/
def paramOf (number : Byte) : Option Param :=
  if h : number.toNat < 28 then some ⟨number.toNat, h⟩ else none

/-- A feeder index of a request in 0 to 15. -/
def feederOf (index : Byte) : Option (Fin 16) :=
  if h : index.toNat < 16 then some ⟨index.toNat, h⟩ else none

/-- A roster index of a request in 0 to 7. -/
def setOf (index : Byte) : Option (Fin 8) :=
  if h : index.toNat < 8 then some ⟨index.toNat, h⟩ else none

/-- A time left in whole seconds, rounded up (R132, R134). -/
def secondsLeft (ends now : Count) : Nat := ceilDiv (ends - now) 10000000

/-- A parameter value whose one-byte reply field is a free value uses that value up (log 15). -/
def State.spendParam (s : State) (p : Param) (v : Nat) : State :=
  if paramRows[p].wide = false ∧ 256 ≤ v then s.useFree else s

/-- The age of a report in units of 100 ms, saturating at 65,535, and 65,535 for an empty slot (R164). The
rounding to a whole number of units is a free value (log 16). -/
def ageUnits (now : Count) : Option Count → Nat
  | none => 65535
  | some arrived =>
    let age := now - arrived
    let r := age % 1000000
    sat16 (age / 1000000 + if decide (0 < r) && Config.ageRoundsUp r then 1 else 0)

end Sys2Proof.Machine
end

