-- ==== Sys2Proof/Machine/Flags.lean ====
section
/-! DEFINITION. The alert set and the ALERT output (R168). -/

namespace Sys2Proof.Machine

/-- A feeder record is stuck (R168). -/
def FeederState.stuck : FeederState → Bool
  | .stuckClosed | .stuckOpen => true
  | .disabled | .closed | .opening | .openShed | .openHeld | .openExt | .closing => false

/-- The alert set, each condition read from its owner (R168). -/
def State.alertSet (s : State) : AlertSet where
  setFailed := (indices 8).any fun i => decide (s.sets[i].state = .failed)
  feederStuck := (indices 16).any fun i => s.feeders[i].state.stuck
  stageFired := (indices 8).any fun k => decide (s.stages[k].state = .fired)
  shedExhausted := s.exhausted
  bsFailed := s.seq.failed
  storeBad := s.storeBad

/-- Whether any condition is present. -/
def AlertSet.any (a : AlertSet) : Bool :=
  a.setFailed || a.feederStuck || a.stageFired || a.shedExhausted || a.bsFailed || a.storeBad

/-- ALERT is high while the alert set is non-empty; its level changes at the event that makes the set
non-empty or empty (R168). -/
def State.refreshAlert (s : State) : State := { s with alertPin := s.alertSet.any }

end Sys2Proof.Machine
end

