-- ==== Sys2Proof/Machine/Balance.lean ====
section
/-! DEFINITION. The Balance Engine's record (chapter 2, R20 to R29) and the take-up of parameters (R19). -/

namespace Sys2Proof.Machine

/-- A report that arrived at `arrived` is fresh: its age does not exceed tSTALE (R20). -/
def freshReport (now arrived : Count) : Bool := decide (now - arrived ≤ tSTALE)

/-- The configured sets that are ONLINE (R21). -/
def State.onlineSets (s : State) : List (Fin 8) := s.setsIn [.online]

/-- The set entry of an ONLINE set: its reported output clamped to its rating when the report is fresh, its
whole rating with a stale mark when it is not (R20, R21). -/
def State.setInput (s : State) (i : Fin 8) : SetInput :=
  let c := s.cfg.roster[i].rating
  match s.setSlots[i] with
  | some slot =>
    if freshReport s.clk slot.arrived then ⟨i, c, min slot.output c, false⟩ else ⟨i, c, c, true⟩
  | none => ⟨i, c, c, true⟩

/-- The plant entry of a configured plant: the report clamped when it is fresh, the held output with a stale
mark when it is not (R22). -/
def State.plantInput (s : State) (p : Fin 4) : PlantInput :=
  let r := s.cfg.pv[p].rating
  let stale : PlantInput := ⟨p, r, min s.held[p] r, min s.held[p] r, true⟩
  match s.pvSlots[p] with
  | some slot =>
    if freshReport s.clk slot.arrived then
      let q := min slot.output r
      ⟨p, r, q, clampTo q r slot.available, false⟩
    else stale
  | none => stale

/-- The record of an expiry from its inputs (R23 to R29), with the cycle number already raised. -/
def State.computeRecord (s : State) : BalanceRecord :=
  let sets := s.onlineSets.map s.setInput
  let plants := s.configuredPlants.map s.plantInput
  let cOn := (sets.map SetInput.rating).sum
  let cStart := ((s.setsIn [.starting]).map fun i => s.cfg.roster[i].rating).sum
  let d := (sets.map SetInput.output).sum
  let q := (plants.map PlantInput.output).sum
  let a := (plants.map PlantInput.available).sum
  let l := d + q
  let n1 :=
    if s.parOn N1_COVER = true ∧ 2 ≤ sets.length then (sets.map SetInput.output).foldl max 0 else 0
  let pvt := ceilDiv (s.par PVLOSS * q) 100
  let dmin := ceilDiv (cOn * s.par MINLOAD) 100
  { cycle := s.cycle
    valid := decide (1 ≤ sets.length) && sets.all fun e => !e.stale
    onlineCount := sets.length
    sets := sets
    plants := plants
    cOn := cOn, cStart := cStart, d := d, q := q, a := a, l := l
    sr := cOn - d
    n1 := n1
    pvt := pvt
    rr := max pvt n1 + s.par RES_MARGIN
    dmin := dmin
    uTarget := if sets.isEmpty then 0 else l - dmin }

/-- The held outputs after an expiry: H_p is set to Q_p for every configured plant (R22). -/
def State.heldAfter (s : State) : Vector Nat 4 :=
  tabulate fun p => if s.plantConfigured p then (s.plantInput p).output else s.held[p]

/-- Every parameter with a pending value makes it live, and the pending value is removed (R19). -/
def State.takeUpParameters (s : State) : State :=
  { s with
    cfg := { s.cfg with params := tabulate fun (p : Fin 28) => s.paramPending[p].getD s.cfg.params[p] }
    paramPending := .replicate 28 none }

/-- Steps 1 and 2 of a tBAL expiry that was due at `due`: the cycle number is raised and the parameters are
taken up; the next expiry falls due tBAL after this one was due (R16, R17, R18). -/
def State.beginInterval (s : State) (due : Count) : State :=
  { s with cycle := s.cycle + 1, tbalEnds := some (due + tBAL) }.takeUpParameters

/-- Steps 3 to 5 of a tBAL expiry: the record is computed from the inputs as they stand and published, and
the held outputs follow it (R18, R22, R29). -/
def State.publish (s : State) : State :=
  { s with record := some s.computeRecord, held := s.heldAfter }

/-- The STATUS_A of the expiry (R31). -/
def State.statusA (s : State) (rec : BalanceRecord) : Frame :=
  .statusA
    { mode := s.mode
      phase := s.seq.phase
      alerts := s.alertSet
      recordValid := rec.valid
      meter := s.meter.state
      deviation := s.meter.freq.map fun f => (f : Int) - (s.fn : Int)
      rocof := s.meter.rocof }

/-- Step 6 of a tBAL expiry: one STATUS_A and one STATUS_B are queued (R31, R32). R18 gives the two no order within the
step; the model queues STATUS_A first (log 42). -/
def State.statusTask (s : State) (rec : BalanceRecord) : State :=
  (s.send (s.statusA rec)).send (.statusB (sat16 rec.sr) (sat16 rec.rr) (sat16 rec.l))

end Sys2Proof.Machine
end

