-- ==== Sys2Proof/Machine/Commitment.lean ====
section
/-! DEFINITION. The Commitment Unit (chapter 3): directives, the moves of one set, the report truth table, the
start and stop rules, and the orders of the Black-Start Sequencer. -/

namespace Sys2Proof.Machine

/-! ## Directives (R48, R49) -/

/-- The directive of a configured set (R48). -/
def directiveOf (mode : Mode) (r : SetRec) : Directive :=
  match mode with
  | .observe => .hold
  | .dispatch | .blackstart =>
    if r.mark then .runDeadbus
    else match r.state with
      | .starting | .online => .run
      | .stopped | .resting | .stopping | .failed | .unavailable | .unknown => .stop

/-- Queue a set's SET_DIRECTIVE as it stands, addressed to its member (R49, R50). -/
def State.sendDirective (s : State) (i : Fin 8) : State :=
  s.send (.setDirective i s.cfg.roster[i].address s.sets[i].directive s.sets[i].dirSeq)

/-- Derive a set's directive again: a changed value raises the sequence and queues a SET_DIRECTIVE (R49). An
empty entry keeps its directive and receives no frames (R34). -/
def State.redirect (s : State) (i : Fin 8) : State :=
  let r := s.sets[i]
  let d := directiveOf s.mode r
  if s.setConfigured i = true ∧ d ≠ r.directive then
    { s with sets := s.sets.set i { r with directive := d, dirSeq := r.dirSeq + 1 } }.sendDirective i
  else s

/-- Change a set's runtime record and derive its directive again (R48). -/
def State.updateSet (s : State) (i : Fin 8) (f : SetRec → SetRec) : State :=
  { s with sets := modifyAt s.sets i f }.redirect i

/-- Derive every directive again (R48, R159). The rules give the SET_DIRECTIVE frames of several sets at one event
no order among themselves; the model takes ascending roster index (log 35). -/
def State.redirectAll (s : State) : State := (indices 8).foldl State.redirect s

/-! ## Moves of one runtime record -/

/-- The start timeout of an entry as a length (R34). -/
def SetEntry.startLength (e : SetEntry) : Count := sec (5 * e.startTimeout)
/-- The minimum run of an entry as a length. -/
def SetEntry.runLength (e : SetEntry) : Count := sec (30 * e.minRun)
/-- The minimum down of an entry as a length. -/
def SetEntry.downLength (e : SetEntry) : Count := sec (30 * e.minDown)

/-- The minimum-run timer started with the entry's minimum run; ELAPSED at entry when that is 0 (R39). -/
def startedMinRun (e : SetEntry) (now : Count) : MinRun :=
  if e.minRun = 0 then .elapsed else .running (now + e.runLength)

/-- Entry into ONLINE (R39). -/
def SetRec.goOnline (r : SetRec) (minRun : MinRun) : SetRec :=
  { r with
    state := .online, cause := .none, attempts := 0, startTimer := none, stopTimer := none
    minRun := minRun, minDown := none, deadBusTimer := none, stale := false, mark := false }

/-- Entry into RESTING with a minimum-down length; a length of 0 passes on to STOPPED (R40). -/
def SetRec.goResting (r : SetRec) (length now : Count) : SetRec :=
  { r with
    state := if length = 0 then .stopped else .resting
    startTimer := none, stopTimer := none, minRun := .absent
    minDown := if length = 0 then none else some (now + length)
    deadBusTimer := none, stale := false, mark := false }

/-- Entry into FAILED (R46); the lost timer, which is only running or expired (R35), runs on (log 13). -/
def SetRec.goFailed (r : SetRec) (cause : FaultCause) : SetRec :=
  { r with
    state := .failed, cause := cause, startTimer := none, stopTimer := none, minRun := .absent
    minDown := none, deadBusTimer := none, stale := false, mark := false }

/-- Entry into UNAVAILABLE: attempts and fault cause are kept (R44). -/
def SetRec.goUnavailable (r : SetRec) : SetRec :=
  { r with
    state := .unavailable, startTimer := none, stopTimer := none, minRun := .absent
    minDown := none, deadBusTimer := none, stale := false, mark := false }

/-- Entry into STOPPED. -/
def SetRec.goStopped (r : SetRec) : SetRec :=
  { r with
    state := .stopped, startTimer := none, stopTimer := none, minRun := .absent
    minDown := none, deadBusTimer := none, stale := false, mark := false }

/-- Entry into STARTING without the dead-bus mark, with the start timer (R42). -/
def SetRec.goStarting (r : SetRec) (e : SetEntry) (now : Count) : SetRec :=
  { r with state := .starting, startTimer := some (now + e.startLength), minDown := none }

/-- Entry into STARTING under the dead-bus start order (R62). -/
def SetRec.goDeadBus (r : SetRec) (length now : Count) : SetRec :=
  { r with state := .starting, minDown := none, deadBusTimer := some (now + length), mark := true }

/-- Entry into STOPPING (R59). -/
def SetRec.goStopping (r : SetRec) (e : SetEntry) (now : Count) : SetRec :=
  { r with state := .stopping, minRun := .absent, stopTimer := some (now + e.startLength), stale := false }

/-- The dead-bus mark is cleared with the set still STARTING: its start timer runs for the remainder of the
dead-bus start timer (R62). -/
def SetRec.unmark (r : SetRec) : SetRec :=
  { r with mark := false, startTimer := r.deadBusTimer, deadBusTimer := none }

/-- Entry into UNKNOWN (R67): timers stop, attempts 0, cause NONE, flags clear, the lost timer restarts; the
directive and its sequence are kept for the derivation that follows. -/
def SetRec.goUnknown (r : SetRec) (now : Count) : SetRec :=
  { r with
    state := .unknown, cause := .none, attempts := 0, startTimer := none, stopTimer := none
    minRun := .absent, minDown := none, deadBusTimer := none, lostTimer := some (now + tLOST)
    stale := false, mark := false }

/-- The record of a failed attempt (R41): attempts raised, then FAILED with START_EXHAUSTED at MAX_ATTEMPTS,
else RESTING for max(RETRY_DELAY, minimum down). -/
def SetRec.failAttempt (r : SetRec) (maxAttempts : Nat) (length now : Count) : SetRec :=
  let r1 := { r with attempts := r.attempts + 1 }
  if maxAttempts ≤ r1.attempts then r1.goFailed .startExhausted else r1.goResting length now

/-! ## Set events -/

/-- A failed attempt of set `i` (R41). -/
def State.failedAttempt (s : State) (i : Fin 8) : State :=
  s.updateSet i fun r => r.failAttempt (s.par MAX_ATTEMPTS)
    (max (sec (s.par RETRY_DELAY)) s.cfg.roster[i].downLength) s.clk

/-- Set `i` enters ONLINE with its minimum-run timer started (R39). -/
def State.setOnline (s : State) (i : Fin 8) : State :=
  s.updateSet i fun r => r.goOnline (startedMinRun s.cfg.roster[i] s.clk)

/-- A set has left the bus: RESTING with its minimum down (R37 note 8, R40). -/
def State.setLeftBus (s : State) (i : Fin 8) : State :=
  s.updateSet i fun r => r.goResting s.cfg.roster[i].downLength s.clk

/-- Set `i` enters STARTING with its start timer: an adoption, a start or a run order (R38, R55, R63). -/
def State.startSet (s : State) (i : Fin 8) : State :=
  s.updateSet i fun r => r.goStarting s.cfg.roster[i] s.clk

/-- The report truth table (R37). -/
def State.reportEvent (s : State) (i : Fin 8) (c : ControllerState) : State :=
  match s.sets[i].state, c with
  | .unknown, .off => s.updateSet i SetRec.goStopped
  | .unknown, .cranking => s.startSet i
  | .unknown, .running => s.startSet i
  | .unknown, .onBus => s.updateSet i fun r => r.goOnline .elapsed
  | .unknown, .tripped => s.updateSet i fun r => r.goFailed .tripped
  | .unknown, .notReady => s.updateSet i SetRec.goUnavailable
  | .stopped, .onBus => s.setOnline i
  | .stopped, .notReady => s.updateSet i SetRec.goUnavailable
  | .starting, .onBus => if s.sets[i].mark then s else s.setOnline i
  | .starting, .tripped =>
    if s.sets[i].mark then s.updateSet i fun r => r.goFailed .bsStartFailed else s.failedAttempt i
  | .starting, .notReady => s.updateSet i SetRec.goUnavailable
  | .online, .off => s.setLeftBus i
  | .online, .cranking => s.setLeftBus i
  | .online, .running => s.setLeftBus i
  | .online, .tripped => s.updateSet i fun r => r.goFailed .tripped
  | .online, .notReady => s.updateSet i SetRec.goUnavailable
  | .stopping, .off => s.setLeftBus i
  | .stopping, .tripped => s.updateSet i fun r => r.goFailed .tripped
  | .stopping, .notReady => s.updateSet i SetRec.goUnavailable
  | .resting, .onBus => s.setOnline i
  | .resting, .notReady => s.updateSet i SetRec.goUnavailable
  | .unavailable, .off => s.updateSet i SetRec.goStopped
  | .unavailable, .onBus => s.setOnline i
  | _, _ => s

/-- A SET_REPORT taken for set `i`: the slot is filled (R184), the lost timer restarts, STALE is cleared, and
the truth table is applied (R36). -/
def State.takeSetReport (s : State) (i : Fin 8) (c : ControllerState) (output : Nat) : State :=
  let s1 := { s with
    setSlots := s.setSlots.set i (some ⟨c, output, s.clk⟩)
    sets := modifyAt s.sets i fun r => { r with lostTimer := some (s.clk + tLOST), stale := false } }
  s1.reportEvent i c

/-- The expiry of the lost timer (R44, R45). -/
def State.lostExpiry (s : State) (i : Fin 8) : State :=
  let s1 := { s with sets := modifyAt s.sets i fun r => { r with lostTimer := none } }
  match s.sets[i].state with
  | .online => { s1 with sets := modifyAt s1.sets i fun r => { r with stale := true } }
  | .unknown | .stopped | .starting | .stopping | .resting => s1.updateSet i SetRec.goUnavailable
  | .failed | .unavailable => s1

/-! ## The start rule (R51 to R55) -/

/-- RR_eff (R52). -/
def State.rrEff (s : State) (rec : BalanceRecord) : Nat :=
  match s.blocked with
  | some b => if s.parOn RESTORE_START then rec.rr + b.eHead else rec.rr
  | none => rec.rr

/-- The island is short (R53): RR_eff − SR − C_start > 0. -/
def State.isShort (s : State) (rec : BalanceRecord) : Bool :=
  decide (rec.sr + rec.cStart < s.rrEff rec)

/-- There is a deep shortfall (R54). -/
def State.isDeepShort (s : State) (rec : BalanceRecord) : Bool :=
  decide (rec.sr < s.rrEff rec / 2)

/-- The start rule is evaluated (R51). -/
def State.startRuns (s : State) : Bool :=
  decide (s.mode = .dispatch ∨ (s.mode = .blackstart ∧ (s.seq.phase = .restore ∨ s.seq.phase = .pvReturn)))

/-- The set of a list with the lowest priority number. -/
def State.lowestPriority (s : State) (xs : List (Fin 8)) : Option (Fin 8) :=
  leastBy (fun i => s.cfg.roster[i].priority) xs

/-- The STOPPING set that a start would redirect (R55). -/
def State.redirectCandidate (s : State) : Option (Fin 8) :=
  s.lowestPriority ((s.setsIn [.stopping]).filter s.reportsOnBus)

/-- The STOPPED set that a start would start, with fewer than two sets STARTING (R54, R55). -/
def State.startCandidate (s : State) : Option (Fin 8) :=
  if (s.setsIn [.starting]).length < 2 then s.lowestPriority (s.setsIn [.stopped]) else none

/-- Make a start or a redirect, if a set for it exists (R55). -/
def State.makeStart (s : State) : Option State :=
  match s.redirectCandidate with
  | some i => some ({ s with shortfall := none }.updateSet i fun r => r.goOnline .elapsed)
  | none =>
    match s.startCandidate with
    | some i => some ({ s with shortfall := none }.startSet i)
    | none => none

/-- The start rule at a publication at which it is evaluated; the flag says whether a start was made. -/
def State.startRule (s : State) (rec : BalanceRecord) : State × Bool :=
  if s.isShort rec then
    let t := s.shortfall.getD ⟨s.clk, sec (s.par START_DELAY)⟩
    let s1 := { s with shortfall := some t }
    if t.length ≤ s.clk - t.start ∨ s.isDeepShort rec = true then
      match s1.makeStart with
      | some s2 => (s2, true)
      | none => (s1, false)
    else (s1, false)
  else ({ s with shortfall := none }, false)

/-! ## The stop rule (R56 to R59) -/

/-- Whether a set carries a stale mark in the published record. -/
def BalanceRecord.staleMark (rec : BalanceRecord) (i : Fin 8) : Bool :=
  rec.sets.any fun e => decide (e.index = i) && e.stale

/-- The stop candidate (R56). -/
def State.stopCandidate (s : State) (rec : BalanceRecord) : Option (Fin 8) :=
  greatestBy (fun i => s.cfg.roster[i].priority)
    ((s.setsIn [.online]).filter fun i =>
      !rec.staleMark i && !s.sets[i].stale && decide (s.sets[i].minRun = .elapsed))

/-- The conditions under which the stop rule is evaluated in DISPATCH, besides the start rule's (R56). -/
def State.stopAllowed (s : State) : Bool :=
  (s.setsIn [.starting, .stopping]).isEmpty && s.queue.isEmpty && decide (2 ≤ (s.setsIn [.online]).length)

/-- The surplus test of R57 and R58 for the candidate `c`. -/
def State.hasSurplus (s : State) (rec : BalanceRecord) (c : Fin 8) : Bool :=
  let cOn := rec.cOn - s.cfg.roster[c].rating
  let dmin := ceilDiv (cOn * s.par MINLOAD) 100
  let q := min rec.a (rec.l - dmin)
  let d := rec.l - q
  let rest := (s.setsIn [.online]).filter fun i => decide (i ≠ c)
  let cMax := (rest.map fun i => s.cfg.roster[i].rating).foldl max 0
  let n1 := if s.parOn N1_COVER = true ∧ 2 ≤ rest.length then ceilDiv (d * cMax) cOn else 0
  let rr := max (ceilDiv (s.par PVLOSS * q) 100) n1 + s.par RES_MARGIN
  decide (d ≤ cOn ∧ rr + s.par STOP_HYST ≤ cOn - d)

/-- The stop of the candidate (R59). -/
def State.stopSet (s : State) (c : Fin 8) : State :=
  { s with surplus := none }.updateSet c fun r => r.goStopping s.cfg.roster[c] s.clk

/-- The stop rule at a publication at which it is evaluated (R58). -/
def State.stopRule (s : State) (rec : BalanceRecord) : State :=
  match s.stopCandidate rec with
  | none => { s with surplus := none }
  | some c =>
    if s.hasSurplus rec c then
      match s.surplus with
      | some t =>
        if t.candidate = c then
          if t.length ≤ s.clk - t.start then s.stopSet c else s
        else { s with surplus := some ⟨s.clk, sec (s.par STOP_DELAY), c⟩ }
      | none => { s with surplus := some ⟨s.clk, sec (s.par STOP_DELAY), c⟩ }
    else { s with surplus := none }

/-- The unit's work at a publication: the start rule, the stop rule, and one SET_DIRECTIVE for each configured
set in ascending roster index (R50, R51, R56). -/
def State.commitmentTask (s : State) (rec : BalanceRecord) : State :=
  let short := s.isShort rec
  let (s1, made) := if s.startRuns then s.startRule rec else ({ s with shortfall := none }, false)
  let s2 :=
    if s.mode = .dispatch ∧ short = false ∧ made = false ∧ s1.stopAllowed = true then s1.stopRule rec
    else { s1 with surplus := none }
  ((indices 8).filter s2.setConfigured).foldl State.sendDirective s2

/-! ## Orders from the Black-Start Sequencer (R61 to R63) -/

/-- The stop-all order on one set (R61). -/
def State.stopOne (s : State) (i : Fin 8) : State :=
  match s.sets[i].state with
  | .starting => s.updateSet i SetRec.goStopped
  | .online => s.setLeftBus i
  | .unknown | .stopped | .stopping | .resting | .failed | .unavailable => s

/-- The stop-all order (R61). -/
def State.stopAll (s : State) : State :=
  (s.setsIn [.starting, .online]).foldl State.stopOne { s with shortfall := none, surplus := none }

/-- The dead-bus start order (R62). -/
def State.deadBusOrder (s : State) (i : Fin 8) : State :=
  s.updateSet i fun r => r.goDeadBus (sec (s.par BS_START_TIMEOUT)) s.clk

/-- The dead-bus mark of a set is cleared without the set-established order; a set whose latest report is
ON_BUS enters ONLINE at once (R62). -/
def State.clearMark (s : State) (i : Fin 8) : State :=
  if s.sets[i].mark then
    let s1 := s.updateSet i SetRec.unmark
    if s1.reportsOnBus i then s1.setOnline i else s1
  else s

/-- Every standing dead-bus mark is cleared (R151, R152). -/
def State.clearMarks (s : State) : State := (indices 8).foldl State.clearMark s

/-! ## Clear Set Fault and resets (R64, R66, R67) -/

/-- A FAILED set re-derived from the latest report in its slot (R64). -/
def State.rederiveSet (s : State) (i : Fin 8) : State :=
  s.updateSet i fun r =>
    let fresh := r.goUnknown s.clk
    match s.setSlots[i] with
    | some slot =>
      match slot.state with
      | .off => fresh.goStopped
      | .onBus => fresh.goOnline .elapsed
      | .cranking | .running | .tripped | .notReady => fresh
    | none => fresh

/-- Soft Reset of one runtime record (R35, R66). -/
def SetRec.softReset (r : SetRec) (configured : Bool) (now : Count) : SetRec :=
  let r1 := if r.state = .failed then { r with lostTimer := some (now + tLOST) } else r.goUnknown now
  { r1 with
    directive := if configured then .hold else .stop
    dirSeq := 0
    lostTimer := if configured then r1.lostTimer else none }

/-- Soft Reset of the Commitment Unit: no directive sequence is raised and no frame queued (R66). -/
def State.softResetSets (s : State) : State :=
  { s with
    sets := tabulate fun i => s.sets[i].softReset (s.setConfigured i) s.clk
    shortfall := none
    surplus := none }

end Sys2Proof.Machine
end

