-- ==== Sys2Proof/Machine/Curtailment.lean ====
section
/-! DEFINITION. The Curtailment Unit (chapter 4): the aggregate ceiling, its distribution, the fast
over-frequency limit, the sent ceilings and their frames, and the black-start forcing. -/

namespace Sys2Proof.Machine

/-- Queue a plant's PV_CEILING as it stands; its last queued ceiling is the value queued (R79). -/
def State.sendCeiling (s : State) (p : Fin 4) : State :=
  { s with plants := modifyAt s.plants p fun r => { r with lastQueued := r.sent } }.send
    (.pvCeiling p s.cfg.pv[p].address s.plants[p].sent s.plants[p].sentCause)

/-- One PV_CEILING for each configured plant, in ascending PV index (R79). -/
def State.sendCeilings (s : State) : State := s.configuredPlants.foldl State.sendCeiling s

/-! ## The aggregate ceiling (R72, R73) -/

/-- Σ of the sent ceilings of the configured plants. -/
def State.sumSent (s : State) : Nat := sumOver s.plantConfigured fun p => s.plants[p].sent

/-- The basis U_prev (R72). -/
def State.basis (s : State) (rec : BalanceRecord) : Nat :=
  if s.freshStart then rec.q else min s.aggU s.sumSent

/-- The aggregate ceiling from its basis (R73). -/
def nextU (uTarget basis rampUp : Nat) : Nat :=
  if basis < uTarget then min uTarget (basis + rampUp) else uTarget

/-! ## Distribution (R74) -/

/-- A plant's available power in the record. -/
def BalanceRecord.available (rec : BalanceRecord) (p : Fin 4) : Nat :=
  match rec.plants.find? fun e => decide (e.index = p) with
  | some e => e.available
  | none => 0

/-- A plant's share of U before the remainder. -/
def BalanceRecord.share (rec : BalanceRecord) (u : Nat) (p : Fin 4) : Nat := u * rec.available p / rec.a

/-- The allotment of a configured plant (R74): its rating when U is not below A, else its share and one
kilowatt of the remainder while it lasts, in ascending PV index. -/
def State.allot (s : State) (rec : BalanceRecord) (u : Nat) (p : Fin 4) : Nat :=
  let r := s.cfg.pv[p].rating
  if rec.a ≤ u then r
  else
    let remainder := u - sumOver s.plantConfigured (rec.share u)
    let before := (s.configuredPlants.filter fun k => decide (0 < rec.available k ∧ k < p)).length
    min r (rec.share u p + if 0 < rec.available p ∧ before < remainder then 1 else 0)

/-- Replace the allotments of the configured plants. -/
def State.setAllotments (s : State) (f : Fin 4 → Nat) : State :=
  { s with plants := tabulate fun (p : Fin 4) =>
      if s.plantConfigured p then { s.plants[p] with allotment := f p, allotCause := .balance }
      else s.plants[p] }

/-! ## Sent ceilings (R77) -/

/-- The cause of a ceiling that is formed or lowered now (R77). -/
def PlantRec.causeNow (r : PlantRec) : CeilingCause :=
  match r.lim with
  | some lim => if lim < r.allotment then .fastOf else r.allotCause
  | none => r.allotCause

/-- The sent ceiling formed at a publication: the lower of the allotment and the limit (R77). -/
def PlantRec.form (r : PlantRec) : PlantRec :=
  { r with
    sent := match r.lim with
      | some lim => min r.allotment lim
      | none => r.allotment
    sentCause := r.causeNow }

/-- The sent ceilings of the configured plants are formed. -/
def State.formCeilings (s : State) : State :=
  { s with plants := tabulate fun (p : Fin 4) =>
      if s.plantConfigured p then s.plants[p].form else s.plants[p] }

/-- A computing publication (R71, R72 to R74, R77): U, the allotments and the sent ceilings. -/
def State.computeCeilings (s : State) (rec : BalanceRecord) : State :=
  let u := nextU rec.uTarget (s.basis rec) (s.par RAMP_UP)
  ({ s with aggU := u, freshStart := false }.setAllotments (s.allot rec u)).formCeilings

/-! ## The fast over-frequency limit (R75, R76, R80) -/

/-- The start point fs (R75). -/
def State.overStart (s : State) : Nat := s.fn + s.par OF_START

/-- The reference a plant latches: the output of its latest report clamped to its rating, or 0 (R75). -/
def State.latchValue (s : State) (p : Fin 4) : Nat :=
  match s.pvSlots[p] with
  | some slot => min slot.output s.cfg.pv[p].rating
  | none => 0

/-- The limit at an excess of `excess` mHz above fs (R76). -/
def limitAt (ref grad excess : Nat) : Nat := ref - ceilDiv (ref * grad * excess) 100000

/-- The plant records at a frequency value: references and limits (R75, R76). -/
def State.limitPlants (s : State) (f : Nat) : State :=
  { s with plants := tabulate fun (p : Fin 4) =>
      let r := s.plants[p]
      if s.plantConfigured p then
        if s.overStart < f then
          let ref := r.ref.getD (s.latchValue p)
          { r with ref := some ref, lim := some (limitAt ref (s.par OF_GRAD) (f - s.overStart)) }
        else { r with ref := none, lim := none }
      else r }

/-- The margin of an extra PV_CEILING (R80). -/
def extraMargin (rating : Nat) : Nat := 2 * rating / 100

/-- A limit below the sent ceiling lowers it, and a drop of at least the margin from the last queued ceiling
queues an extra PV_CEILING (R77, R80). -/
def State.lowerCeiling (s : State) (p : Fin 4) : State :=
  let r := s.plants[p]
  match r.lim with
  | some lim =>
    if lim < r.sent then
      let s1 := { s with plants := s.plants.set p { r with sent := lim, sentCause := r.causeNow } }
      if lim + extraMargin s.cfg.pv[p].rating ≤ r.lastQueued then s1.sendCeiling p else s1
    else s
  | none => s

/-- The unit's work at a meter event (R75 to R77, R80): the limits at a frequency value, or their withdrawal
when the meter is not VALID. The extra frames of several plants are queued in ascending PV index, an order that
R80 does not give (log 35). -/
def State.curtailmentMeter (s : State) (ev : MeterEvent) : State :=
  match ev.freq with
  | some f =>
    let s1 := s.limitPlants f
    s1.configuredPlants.foldl State.lowerCeiling s1
  | none => { s with plants := tabulate fun (p : Fin 4) => { s.plants[p] with lim := none } }

/-! ## Black start (R83, R84) -/

/-- The forced-zero order (R83). The frames of several plants are queued in ascending PV index, an order that R83
does not give (log 35). -/
def State.forceZero (s : State) : State :=
  let above := s.configuredPlants.filter fun p => decide (0 < s.plants[p].lastQueued)
  let s1 := { s with
    forcedZero := true
    freshStart := false
    pvReached := false
    aggU := 0
    plants := tabulate fun (p : Fin 4) =>
      if s.plantConfigured p then
        { s.plants[p] with allotment := 0, allotCause := .blackstart, sent := 0, sentCause := .blackstart }
      else s.plants[p] }
  above.foldl State.sendCeiling s1

/-- The unit's work at a publication by mode and phase (R71), but for the completion of a black start that
follows an indication reached (R84, R149). With a frequency value at the same count it acts in the order of the
commands, on the ceilings it finds: the two bullets of R81. Its words that both orders end with the same sent ceilings
where the value lowers a limit do not always follow from them (log 44). -/
def State.curtailmentWork (s : State) (rec : BalanceRecord) : State :=
  match s.mode with
  | .dispatch => (s.computeCeilings rec).sendCeilings
  | .observe => s.formCeilings.sendCeilings
  | .blackstart =>
    if s.seq.phase = .pvReturn then
      let s1 := (s.computeCeilings rec).sendCeilings
      { s1 with pvReached := decide (s1.aggU = rec.uTarget) }
    else s.sendCeilings

end Sys2Proof.Machine
end

