-- ==== Sys2Proof/Machine/Restoration.lean ====
section
/-! DEFINITION. The Restoration Unit's answers to the Shed Ladder's notices (R93, R120 to R122, R126 to R128,
R133), its hold record (R131 to R135) and the queue rebuild order (R121). -/

namespace Sys2Proof.Machine

/-- A feeder's ladder position in the live Feeder Table. -/
def State.position (s : State) (i : Fin 16) : Nat := s.cfg.feeders[i].position

/-- `a` stands before `b` in descending ladder position. -/
abbrev State.higher (s : State) (a b : Fin 16) : Prop := s.position b ≤ s.position a

/-! ## Placing and removing (R120 to R122) -/

/-- Place a feeder that has entered OPEN_SHED: by descending position while the ordering mark is set (R121),
else at the head when it was reverted or RESTORE_ORDER is LIFO, and at the tail under FIFO (R120). -/
def State.placeShed (s : State) (i : Fin 16) (reverted : Bool) : State :=
  { s with queue :=
      if s.ordering then s.queue.orderedInsert s.higher i
      else if reverted || !s.parOn RESTORE_ORDER then i :: s.queue
      else s.queue ++ [i] }

/-- The left-the-queue notice (R122). -/
def State.handLeft (s : State) (i : Fin 16) : State := { s with queue := s.queue.erase i }

/-! ## Settle timer and holds -/

/-- A RUNNING settle timer becomes PAUSED with its remaining time; a STOPPED one stays STOPPED (R127, R133). -/
def Settle.pause (t : Settle) (now : Count) : Settle :=
  match t with
  | .running ends => .paused (ends - now)
  | .stopped => .stopped
  | .paused left => .paused left

/-- A PAUSED settle timer becomes RUNNING for the kept remaining time (R127, R135). -/
def Settle.resume (t : Settle) (now : Count) : Settle :=
  match t with
  | .paused left => .running (now + left)
  | .stopped => .stopped
  | .running ends => .running ends

/-- A hold takes effect: the settle timer is paused (R133). -/
def State.holdTakesEffect (s : State) : State :=
  { s with hold := { s.hold with state := .inEffect }, settle := s.settle.pause s.clk }

/-- At a notice that ends a closing: a PENDING hold becomes IN_EFFECT when no feeder is CLOSING (R133). -/
def State.closingEnded (s : State) : State :=
  if s.hold.state = .pending ∧ s.anyFeeder .closing = false then s.holdTakesEffect else s

/-- The end of a hold, by resume or by tHOLDMAX (R135). -/
def State.endHold (s : State) : State :=
  { s with
    hold := ⟨.none, none, none, some (s.clk + tHOLDGAP)⟩
    settle := s.settle.resume s.clk }

/-! ## Notices -/

/-- The newly shed and black-start shed notices (R93, R120, R121). -/
def State.handNewlyShed (s : State) (i : Fin 16) : State := s.placeShed i false

/-- The reverted notice (R120, R126). -/
def State.handReverted (s : State) (i : Fin 16) : State := (s.placeShed i true).closingEnded

/-- The settle timer starts with its full length, PAUSED while a hold is in effect (R127). -/
def State.startSettle (s : State) : State :=
  { s with
    settle :=
      if s.hold.state = .inEffect then .paused (sec (s.par RESTORE_SETTLE))
      else .running (s.clk + sec (s.par RESTORE_SETTLE)) }

/-- The closed notice: the settle timer starts with RESTORE_SETTLE, PAUSED while a hold is in effect (R127),
and a pending hold is examined (R133). -/
def State.handClosed (s : State) : State :=
  s.startSettle.closingEnded

/-- The failed-to-close notice (R126). -/
def State.handFailedToClose (s : State) : State := s.closingEnded

/-- The stage action notice: the settle timer becomes STOPPED (R127). -/
def State.handStageAction (s : State) : State := { s with settle := .stopped }

/-- The stage reset notice with the edge time of its value (R128). -/
def State.handStageReset (s : State) (time : Count) : State :=
  { s with restoreDelay := some (time + sec (s.par RESTORE_DELAY)) }

/-- The queue rebuild order (R121). -/
def State.rebuildQueue (s : State) : State :=
  { s with
    queue := s.queue.insertionSort s.higher
    ordering := true
    hold := .none
    settle := .stopped
    blocked := none }

/-- The step load of a feeder: its nominal load, times CLP percent while the mode is BLACKSTART (R124). -/
def State.stepLoad (s : State) (i : Fin 16) : Nat :=
  ceilDiv (s.cfg.feeders[i].load * (if s.mode = .blackstart then s.par CLP else 100)) 100

/-- The unit's values after Soft Reset, but for the queue, which the left-the-queue notices empty (R137). -/
def State.softResetRestoration (s : State) : State :=
  { s with settle := .stopped, restoreDelay := none, blocked := none, hold := .none, ordering := false }

end Sys2Proof.Machine
end

