-- ==== Sys2Proof/Machine/Ladder.lean ====
section
/-! DEFINITION. The Shed Ladder (chapter 5): feeder transitions, breaker events, the ladder walk and shed
actions, the underfrequency stages, the reserve shed, and feeder reports. -/

namespace Sys2Proof.Machine

/-! ## Feeder transitions (R89, R90) -/

/-- FEED is asserted in OPENING, OPEN_SHED, OPEN_HELD and STUCK_CLOSED (R90). -/
def FeederState.feedAsserted : FeederState → Bool
  | .opening | .openShed | .openHeld | .stuckClosed => true
  | .disabled | .closed | .openExt | .closing | .stuckOpen => false

/-- The breaker timer runs in OPENING and CLOSING (R89, R92). -/
def FeederState.timed : FeederState → Bool
  | .opening | .closing => true
  | .disabled | .closed | .openShed | .openHeld | .openExt | .stuckClosed | .stuckOpen => false

/-- The cause is set to NONE at every entry into CLOSED, OPEN_EXT and DISABLED (R89). -/
def FeederState.dropsCause : FeederState → Bool
  | .disabled | .closed | .openExt => true
  | .opening | .openShed | .openHeld | .closing | .stuckClosed | .stuckOpen => false

/-- The record of a feeder that enters `st`: FEED driven from the state (R90), the breaker timer started at
an entry into OPENING or CLOSING and stopped otherwise (R92), the cause dropped where R89 says so. -/
def FeederRec.enter (r : FeederRec) (st : FeederState) (now : Count) : FeederRec where
  state := st
  cause := if st.dropsCause then .none else r.cause
  timer := if st.timed then some (now + tBRK) else none
  origin := r.origin
  feed := st.feedAsserted

/-- The record of a feeder that the part trips: OPENING with its cause and opening origin (R89, R96). -/
def FeederRec.trip (r : FeederRec) (cause : FeederCause) (origin : Option Reach) (now : Count) : FeederRec :=
  { r.enter .opening now with cause := cause, origin := origin }

/-- Replace a feeder's record. -/
def State.putFeeder (s : State) (i : Fin 16) (r : FeederRec) : State :=
  { s with feeders := s.feeders.set i r }

/-- The feeder enters `st`. -/
def State.moveFeeder (s : State) (i : Fin 16) (st : FeederState) : State :=
  s.putFeeder i (s.feeders[i].enter st s.clk)

/-- The feeder enters OPEN_SHED with a new cause, before its notice. -/
def State.shedFeeder (s : State) (i : Fin 16) (cause : FeederCause) : State :=
  s.putFeeder i { s.feeders[i].enter .openShed s.clk with cause := cause }

/-- The part trips a feeder. -/
def State.tripFeeder (s : State) (i : Fin 16) (cause : FeederCause) (origin : Option Reach) : State :=
  s.putFeeder i (s.feeders[i].trip cause origin s.clk)

/-! ## Breaker events (R91) -/

/-- A change of the FSTAT line of feeder `i` to `level` (R91). -/
def State.breakerEvent (s : State) (i : Fin 16) (level : Bool) : State :=
  match s.feeders[i].state, level with
  | .closed, false => s.moveFeeder i .openExt
  | .opening, false => (s.moveFeeder i .openShed).handNewlyShed i
  | .openShed, true => (s.moveFeeder i .stuckClosed).handLeft i
  | .openHeld, true => s.moveFeeder i .stuckClosed
  | .openExt, true => s.moveFeeder i .closed
  | .closing, true => (s.moveFeeder i .closed).handClosed
  | .stuckClosed, false => (s.moveFeeder i .openShed).handNewlyShed i
  | .stuckOpen, true => s.moveFeeder i .closed
  | _, _ => s

/-! ## Close orders (R94) -/

/-- A performed close order: FEED released, CLOSING, breaker timer started; the left-the-queue notice when
the feeder was OPEN_SHED (R94). -/
def State.closeFeeder (s : State) (i : Fin 16) : State :=
  if s.feeders[i].state = .openShed then (s.moveFeeder i .closing).handLeft i
  else s.moveFeeder i .closing

/-- The Restoration Unit's close order: performed for an OPEN_SHED feeder with every stage IDLE and the last
meter event VALID, else not possible (R94). -/
def State.restorationClose (s : State) (i : Fin 16) : State :=
  if s.feeders[i].state = .openShed ∧ s.stagesIdle = true ∧ s.notedMeter = .valid then s.closeFeeder i else s

/-! ## The ladder walk (R88, R95, R96) -/

/-- The ladder: the enabled feeders in ascending ladder position (R88). -/
def State.ladder (s : State) : List (Fin 16) :=
  ((indices 16).filter fun i => s.cfg.feeders[i].enabled).insertionSort fun a b => s.position a ≤ s.position b

/-- Whether a ladder position lies in the protected region (R95). -/
def State.isProtected (s : State) (position : Nat) : Bool :=
  if s.parOn PROTECT_INV then decide (position < s.par PROTECT_FROM)
  else decide (s.par PROTECT_FROM ≤ position)

/-- Whether a walk of this reach may choose the feeder (R96). -/
def State.eligible (s : State) (reach : Reach) (i : Fin 16) : Bool :=
  decide (s.feeders[i].state = .closed) && (decide (reach = .deep) || !s.isProtected (s.position i))

/-- The feeders a walk of the given width and reach chooses, in ascending position (R96). -/
def State.chosen (s : State) (reach : Reach) (width : Nat) : List (Fin 16) :=
  (s.ladder.filter (s.eligible reach)).take width

/-- A walk: one feeder for each cause of the list, in order (R96, R107). -/
def State.walk (s : State) (reach : Reach) (causes : List FeederCause) : State :=
  ((s.chosen reach causes.length).zip causes).foldl
    (fun s x => s.tripFeeder x.1 x.2 (some reach)) s

/-- Whether a walk found its full width (R96, R99). -/
def State.walkFull (s : State) (reach : Reach) (width : Nat) : Bool :=
  decide ((s.chosen reach width).length = width)

/-- A SHALLOW shed action of width 1 (R108, R109, R110): it sets SHED_EXHAUSTED when it finds no feeder and
clears it when it finds one (R99). -/
def State.shedOne (s : State) (cause : FeederCause) : State :=
  { s.walk .shallow [cause] with exhausted := !s.walkFull .shallow 1 }

/-- The substitute for a stuck opening: a walk of width 1 that sets SHED_EXHAUSTED when it finds nothing and
does not clear it (R98, R99). -/
def State.substitute (s : State) (reach : Reach) (cause : FeederCause) : State :=
  { s.walk reach [cause] with exhausted := s.exhausted || !s.walkFull reach 1 }

/-! ## Reversion and combined actions (R97, R107) -/

/-- A CLOSING feeder is reverted: FEED asserted, OPEN_SHED, handed as reverted (R97). -/
def State.revert (s : State) (i : Fin 16) (cause : FeederCause) : State :=
  (s.shedFeeder i cause).handReverted i

/-- The CLOSING feeders a stage action reverts: all with a DEEP part, else those outside the protected region
(R97); in ladder order (log 21). -/
def State.toRevert (s : State) (deep : Bool) : List (Fin 16) :=
  s.ladder.filter fun i =>
    decide (s.feeders[i].state = .closing) && (deep || !s.isProtected (s.position i))

/-- The causes of one part of a combined action: each firing stage of that reach, in ascending index, as many
times as its width (R107). -/
def State.partCauses (s : State) (firing : List (Fin 8)) (reach : Reach) : List FeederCause :=
  (firing.filter fun k => decide (s.cfg.stages[k].reach = reach)).flatMap fun k =>
    List.replicate s.cfg.stages[k].width (.stage k)

/-- The combined action of the stages that fire at one value (R107): the reversions, the SHALLOW part, the
DEEP part, SHED_EXHAUSTED judged part by part (R99), and the stage action notice (R93). -/
def State.combinedAction (s : State) (firing : List (Fin 8)) : State :=
  match firing with
  | [] => s
  | lowest :: _ =>
    let shallow := s.partCauses firing .shallow
    let deep := s.partCauses firing .deep
    let s1 := (s.toRevert (!deep.isEmpty)).foldl (fun s i => s.revert i (.stage lowest)) s
    let s2 := s1.walk .shallow shallow
    let s3 := s2.walk .deep deep
    let full := s1.walkFull .shallow shallow.length && s2.walkFull .deep deep.length
    { s3 with exhausted := !full }.handStageAction

/-! ## Stages (R103 to R106) -/

/-- How one stage moves at one frequency value. -/
structure StageMove where
  next : StageRec
  fires : Bool
  resets : Bool
  returns : Bool
  deriving DecidableEq, Repr

/-- A stage under test fires when its delay has run or by ROCOF (R103, R104). -/
def StageEntry.fires (e : StageEntry) (start time : Count) (rocof : Option Int) : Bool :=
  decide (e.delay * 100000 ≤ time - start) ||
    match rocof with
    | some r => decide (0 < e.rocofLimit) && decide (r ≤ -(e.rocofLimit : Int))
    | none => false

/-- A stage at or below its threshold is tested for firing; one that does not fire times on (R103). -/
def StageEntry.test (e : StageEntry) (start time : Count) (rocof : Option Int) : StageMove :=
  if e.fires start time rocof then ⟨⟨.fired, none⟩, true, false, false⟩
  else ⟨⟨.timing, some start⟩, false, false, false⟩

/-- The move of one stage at a frequency value `f` with edge time `time` (R103, R105): its threshold is
`fn - offset`, and a FIRED stage resets at 200 mHz above it. A disabled stage is not evaluated (R101). -/
def StageEntry.move (e : StageEntry) (r : StageRec) (fn f : Nat) (time : Count) (rocof : Option Int) :
    StageMove :=
  if e.enabled then
    match r.state with
    | .idle =>
      if f + e.offset ≤ fn then e.test time time rocof else ⟨r, false, false, false⟩
    | .timing =>
      if f + e.offset ≤ fn then e.test (r.start.getD time) time rocof
      else ⟨.idle, false, false, true⟩
    | .fired =>
      if fn + 200 ≤ f + e.offset then ⟨.idle, false, true, true⟩ else ⟨r, false, false, false⟩
  else ⟨r, false, false, false⟩

/-- How every stage moves at a value. -/
def State.stageMoves (s : State) (f : Nat) (time : Count) (rocof : Option Int) : Vector StageMove 8 :=
  tabulate fun k => s.cfg.stages[k].move s.stages[k] s.fn f time rocof

/-- When a return to IDLE leaves every stage IDLE, SHED_EXHAUSTED is cleared (R99, R105, R106). -/
def State.clearExhaustedIfIdle (s : State) (returned : Bool) : State :=
  if returned = true ∧ s.stagesIdle = true then { s with exhausted := false } else s

/-- Every enabled stage moves, the stage resets are handed over, and then the stages that fired take their
combined action (R103, R105, R107). -/
def State.evaluateStages (s : State) (f : Nat) (time : Count) (rocof : Option Int) : State :=
  let moves := s.stageMoves f time rocof
  let firing := (indices 8).filter fun k => moves[k].fires
  let anyReset := (indices 8).any fun k => moves[k].resets
  let anyReturn := (indices 8).any fun k => moves[k].returns
  let s1 := { s with stages := tabulate fun k => moves[k].next }
  let s2 := if anyReset then s1.handStageReset time else s1
  (s2.clearExhaustedIfIdle anyReturn).combinedAction firing

/-- A meter event without a frequency returns every TIMING stage to IDLE (R106). -/
def State.returnTiming (s : State) : State :=
  let anyTiming := (indices 8).any fun k => decide (s.stages[k].state = .timing)
  let s1 := { s with
    stages := tabulate fun (k : Fin 8) => if s.stages[k].state = StageState.timing then StageRec.idle else s.stages[k] }
  s1.clearExhaustedIfIdle anyTiming

/-- The Ladder's work at a meter event (R103, R106): the meter state is noted, the stages are evaluated on a
frequency value, or the TIMING stages return. -/
def State.ladderMeter (s : State) (ev : MeterEvent) : State :=
  let s := { s with notedMeter := ev.state }
  match ev.freq with
  | some f => s.evaluateStages f ev.time ev.rocof
  | none => s.returnTiming

/-! ## Feeder reports (R113, R114) -/

/-- Put index `i` in state `st` before the runs of the higher indices (R113). -/
def addRun (i : Nat) (st : FeederState) : List Run → List Run
  | [] => [⟨i, 1, st⟩]
  | r :: rs => if r.state = st then ⟨i, r.count + 1, st⟩ :: rs else ⟨i, 1, st⟩ :: r :: rs

/-- The states of the sixteen feeders as runs (R113). -/
def State.runs (s : State) : List Run :=
  (indices 16).foldr (fun i rs => addRun i.val s.feeders[i].state rs) []

/-- Parts of up to three runs each (R113). -/
def partsOf : List Run → List (List Run)
  | [] => []
  | a :: b :: c :: rest => [a, b, c] :: partsOf rest
  | [a, b] => [[a, b]]
  | [a] => [[a]]

/-- Queue a feeder report of the states as they stand; the report count becomes 0 (R114). -/
def State.queueReport (s : State) : State :=
  { s.send (.feederReport (partsOf s.runs) 0) with reportCount := 0 }

/-- The states of the sixteen feeders. -/
def State.feederStates (s : State) : List FeederState := (indices 16).map fun i => s.feeders[i].state

/-! ## Work at a publication (R108, R114) -/

/-- The condition of the reserve shed at a publication (R108). -/
def State.reserveShort (s : State) (rec : BalanceRecord) : Bool :=
  decide (rec.sr < s.par SHED_FLOOR) && !(s.setsIn [.online]).isEmpty
    && (s.setsIn [.starting]).isEmpty && (s.setsIn [.stopped]).isEmpty

/-- The reserve shed (R108). -/
def State.reserveShedStep (s : State) (rec : BalanceRecord) : State :=
  if s.mode = .dispatch ∧ s.reserveShort rec = true then
    match s.reserveShed with
    | none => { s with reserveShed := some ⟨s.clk, sec (s.par RES_SHED_DELAY)⟩ }
    | some t =>
      if t.length ≤ s.clk - t.start then
        { s.shedOne .reserve with reserveShed := some ⟨s.clk, sec (s.par RES_SHED_DELAY)⟩ }
      else s
  else { s with reserveShed := none }

/-- The periodic feeder report: at the publication at which the count reaches 25, and at the first publication
after start-up (R114). -/
def State.countReport (s : State) : State :=
  let s1 := { s with reportCount := s.reportCount + 1, firstReport := false }
  if s.firstReport = true ∨ 25 ≤ s1.reportCount then s1.queueReport else s1

/-- The Ladder's work at a publication. -/
def State.ladderTask (s : State) (rec : BalanceRecord) : State := (s.reserveShedStep rec).countReport

/-! ## Orders and requests -/

/-- The effect of Open Feeder on the feeder it names (R111). -/
def State.openByRequest (s : State) (i : Fin 16) : State :=
  match s.feeders[i].state with
  | .closed => s.tripFeeder i .manual none
  | .closing => s.revert i .manual
  | .openExt => (s.shedFeeder i .manual).handNewlyShed i
  | .disabled | .opening | .openShed | .openHeld | .stuckClosed | .stuckOpen => s

/-- The effect of the open-all order on one enabled feeder (R112). -/
def State.openForBlackStart (s : State) (i : Fin 16) : State :=
  match s.feeders[i].state with
  | .closed => s.tripFeeder i .blackstart none
  | .closing => s.revert i .blackstart
  | .openExt | .openHeld => (s.shedFeeder i .blackstart).handNewlyShed i
  | .disabled | .openShed | .opening | .stuckClosed | .stuckOpen => s

/-- The open-all order: every enabled feeder, in ascending ladder position (R112). -/
def State.openAll (s : State) : State := s.ladder.foldl State.openForBlackStart s

/-- A stuck feeder's state is derived again from its FSTAT level as the device has taken it (R130). A Clear Feeder Fault
taken before the fall of the line therefore finds a STUCK_CLOSED feeder's old level and makes it CLOSED, and the
fall then makes it OPEN_EXT; the last sentence of R130 says otherwise of this order (log 38). -/
def State.rederiveFeeder (s : State) (i : Fin 16) : State :=
  match s.feeders[i].state, s.pins.fstat[i] with
  | .stuckClosed, false => (s.moveFeeder i .openShed).handNewlyShed i
  | .stuckClosed, true => s.moveFeeder i .closed
  | .stuckOpen, true => s.moveFeeder i .closed
  | .stuckOpen, false => s.moveFeeder i .openExt
  | _, _ => s

/-- The expiry of a breaker timer (R92): a stuck opening that came from a walk takes its substitute, but not
while PREPARE lasts (R98, R112). -/
def State.breakerExpiry (s : State) (i : Fin 16) : State :=
  let r := s.feeders[i]
  match r.state with
  | .opening =>
    let s1 := s.moveFeeder i .stuckClosed
    match r.origin with
    | some reach => if s.seq.phase = .prepare then s1 else s1.substitute reach r.cause
    | none => s1
  | .closing => (s.moveFeeder i .stuckOpen).handFailedToClose
  | .disabled | .closed | .openShed | .openHeld | .openExt | .stuckClosed | .stuckOpen => s

/-- Soft Reset of one feeder: OPEN_SHED becomes OPEN_HELD and leaves the queue (R116). -/
def State.holdOpen (s : State) (i : Fin 16) : State :=
  if s.feeders[i].state = .openShed then (s.moveFeeder i .openHeld).handLeft i else s

/-- Soft Reset of the Shed Ladder, but for the report that is queued afterwards (R116). -/
def State.softResetLadder (s : State) : State :=
  { (indices 16).foldl State.holdOpen s with
    stages := .replicate 8 .idle
    exhausted := false
    reserveShed := none
    reportCount := 0 }

/-- The record of a feeder found from its entry and its FSTAT level (R115), and of one that a commit enables or
disables (R117). R117 names its state and its cause only; the model sets the opening origin to none (log 36). -/
def foundFeeder (enabled level : Bool) : FeederRec :=
  ⟨if enabled then (if level then .closed else .openExt) else .disabled, .none, none, none, false⟩

end Sys2Proof.Machine
end

