-- ==== Sys2Proof/Machine/BlackStart.lean ====
section
/-! DEFINITION. The mode and its changes (R158, R159) and the Black-Start Sequencer (chapter 7). -/

namespace Sys2Proof.Machine

/-! ## Changes of mode (R159) -/

/-- A change of mode: every directive is derived again, the shortfall, surplus and reserve-shed timers are
cleared, and the trigger timer is cleared when the mode is not DISPATCH (R159). Setting the mode that stands
changes nothing. -/
def State.setMode (s : State) (m : Mode) : State :=
  if s.mode = m then s
  else
    { s with
      mode := m
      shortfall := none
      surplus := none
      reserveShed := none
      seq := { s.seq with trigger := if m = Mode.dispatch then s.seq.trigger else none } }.redirectAll

/-! ## Conditions (R139, R145) -/

/-- The configured sets with the black-start-capable flag. -/
def State.capableSets (s : State) : List (Fin 8) :=
  (indices 8).filter fun i => s.setConfigured i && s.cfg.roster[i].capable

/-- Whether some capable set is in a runtime state other than FAILED and UNAVAILABLE (R139). -/
def State.capableRemains (s : State) : Bool :=
  s.capableSets.any fun i => decide (s.sets[i].state ≠ .failed ∧ s.sets[i].state ≠ .unavailable)

/-- No configured set is ONLINE. -/
def State.noneOnline (s : State) : Bool := (s.setsIn [.online]).isEmpty

/-- The black-start conditions (R139). -/
def State.blackStartConditions (s : State) : Bool :=
  decide (s.meter.state = .dead) && s.noneOnline && !s.seq.abortLevel && !s.storeBad && s.capableRemains

/-! ## Ends of a sequence (R149, R151, R152) -/

/-- The record outside a sequence (R138). -/
def Sequencer.ended (q : Sequencer) (failed : Bool) : Sequencer :=
  { q with
    phase := .none, attempts := 0, candidate := none, passedOver := [], block := none
    runOrder := none, failed := failed }

/-- The sequence ends in OBSERVE: the record is cleared, the ordering mark and forced zero with it, the mode
becomes OBSERVE, and a standing dead-bus mark is cleared after it (R84, R151, R152; log 18). -/
def State.endInObserve (s : State) (failed : Bool) : State :=
  ({ s with seq := s.seq.ended failed, ordering := false, forcedZero := false }.setMode .observe).clearMarks

/-- The black start fails (R151). -/
def State.failBlackStart (s : State) : State := s.endInObserve true

/-- BSABORT ends the sequence; BS_FAILED is kept (R152). -/
def State.abortBlackStart (s : State) : State := s.endInObserve s.seq.failed

/-- Completion: phase NONE, attempts 0, BS_FAILED cleared, mode DISPATCH (R149). -/
def State.completeBlackStart (s : State) : State :=
  { s with seq := s.seq.ended false }.setMode .dispatch

/-! ## RESTORE and PV_RETURN (R147 to R149) -/

/-- Entry into RESTORE. -/
def State.enterRestore (s : State) : State :=
  { s with seq := { s.seq with phase := .restore, runOrder := none } }

/-- Entry into PV_RETURN: the block timer is cleared and the release order clears forced zero (R83, R149). -/
def State.enterPvReturn (s : State) : State :=
  { s with seq := { s.seq with phase := .pvReturn, block := none }, forcedZero := false }

/-- The check at a publication in RESTORE (R148). -/
def State.restoreCheck (s : State) : State :=
  if s.seq.phase = .restore then
    if s.queue.isEmpty = true ∧ s.anyFeeder .closing = false then s.enterPvReturn
    else
      match s.blocked with
      | some b =>
        let fresh : BlockTimer := ⟨b.since, sec (s.par BS_BLOCK_MAX)⟩
        let t := match s.seq.block with
          | some t => if t.since = b.since then t else fresh
          | none => fresh
        if t.length ≤ s.clk - t.since then s.enterPvReturn
        else { s with seq := { s.seq with block := some t } }
      | none => { s with seq := { s.seq with block := none } }
  else s

/-! ## ADD_SETS (R147) -/

/-- The look at the runtime records in ADD_SETS: enough sets online, a set to add, or none left (R147). -/
def State.lookAddSets (s : State) : State :=
  if s.par BS_SETS ≤ (s.setsIn [.online]).length then s.enterRestore
  else
    match s.lowestPriority ((s.setsIn [.stopped]).filter fun i => !s.seq.passedOver.contains i) with
    | some i => { s with seq := { s.seq with runOrder := some i } }.startSet i
    | none => s.enterRestore

/-- Entry into ADD_SETS (R146, R147). -/
def State.enterAddSets (s : State) : State :=
  { s with
    seq := { s.seq with phase := .addSets, candidate := none, passedOver := [], runOrder := none }
  }.lookAddSets

/-- The set under the run order has left STARTING: a set that is not ONLINE is passed over, and the sequencer
looks again (R147). -/
def State.addSetsCheck (s : State) : State :=
  if s.seq.phase = .addSets then
    match s.seq.runOrder with
    | some i =>
      if s.sets[i].state = .starting then s
      else
        let passed := if s.sets[i].state = .online then s.seq.passedOver else s.seq.passedOver ++ [i]
        { s with seq := { s.seq with runOrder := none, passedOver := passed } }.lookAddSets
    | none => s
  else s

/-! ## FIRST_SET (R145, R146) -/

/-- A configured set other than `c` is ONLINE. -/
def State.otherOnline (s : State) (c : Option (Fin 8)) : Bool :=
  (s.setsIn [.online]).any fun i => decide (some i ≠ c)

/-- The first-set candidates: capable sets in STOPPED or RESTING (R145). -/
def State.firstSetCandidates (s : State) : List (Fin 8) :=
  s.capableSets.filter fun i => decide (s.sets[i].state ∈ [SetState.stopped, SetState.resting])

/-- The look at the entry into FIRST_SET and at the loss of the candidate (R145). A capable set that is
neither a candidate nor FAILED or UNAVAILABLE makes the sequencer wait (log 22). -/
def State.lookFirstSet (s : State) : State :=
  if s.meter.state = .valid ∧ s.otherOnline none = true then s.enterAddSets
  else
    match s.lowestPriority s.firstSetCandidates with
    | some i => { s with seq := { s.seq with candidate := some i } }.deadBusOrder i
    | none => if s.capableRemains then s else s.failBlackStart

/-- A candidate in FAILED or UNAVAILABLE is lost (R146); with no candidate the sequencer looks again (R145). -/
def State.candidateCheck (s : State) : State :=
  match s.seq.candidate with
  | some c =>
    if s.sets[c].state = .failed ∨ s.sets[c].state = .unavailable then
      { s with seq := { s.seq with candidate := none } }.lookFirstSet
    else s
  | none => s.lookFirstSet

/-- The bus is formed by the candidate, or by another set (R146). -/
def State.formedCheck (s : State) : State :=
  match s.seq.candidate with
  | some c =>
    if s.meter.state = .valid then
      if s.reportsOnBus c = true ∧ s.sets[c].mark = true then (s.setOnline c).enterAddSets
      else if s.otherOnline (some c) then (s.clearMark c).enterAddSets
      else s
    else s
  | none => s

/-- The sequencer's watch in FIRST_SET (R145, R146). -/
def State.firstSetCheck (s : State) : State :=
  if s.seq.phase = .firstSet then
    let s1 := s.candidateCheck
    if s1.seq.phase = .firstSet then s1.formedCheck else s1
  else s

/-! ## PREPARE (R142 to R144, R150) -/

/-- Entry into PREPARE with its four orders (R143): queue rebuild, open-all, forced zero and stop-all. -/
def State.enterPrepare (s : State) : State :=
  let s1 := { s with
    seq := { s.seq with
      phase := .prepare, candidate := none, passedOver := [], block := none, runOrder := none } }
  s1.rebuildQueue.openAll.forceZero.stopAll

/-- PREPARE ends at the first event at which no feeder is OPENING: the ordering mark is cleared and FIRST_SET
is entered (R144). -/
def State.prepareCheck (s : State) : State :=
  if s.seq.phase = .prepare ∧ s.anyFeeder .opening = false then
    { s with seq := { s.seq with phase := .firstSet, candidate := none }, ordering := false }
  else s

/-- A trigger: attempts 1, the trigger timer cleared, the mode BLACKSTART, PREPARE (R142). -/
def State.beginSequence (s : State) : State :=
  ({ s with seq := { s.seq with attempts := 1, trigger := none } }.setMode .blackstart).enterPrepare

/-- The loss of the bus (R150). -/
def State.lossOfBus (s : State) : State :=
  let s1 := { s with seq := { s.seq with attempts := s.seq.attempts + 1 } }
  if 3 ≤ s1.seq.attempts then s1.failBlackStart else s1.enterPrepare

/-- The sequencer's work at a meter event: a DEAD in ADD_SETS, RESTORE or PV_RETURN is a loss of the bus
(R150). -/
def State.sequencerMeter (s : State) (ev : MeterEvent) : State :=
  if ev.state = .dead ∧ s.seq.phase ∈ [Phase.addSets, Phase.restore, Phase.pvReturn] then s.lossOfBus else s

/-! ## The trigger timer (R140) and the sequencer's looks -/

/-- The trigger timer runs while the mode is DISPATCH, AUTO_BS is on and the conditions hold (R140). -/
def State.triggerCheck (s : State) : State :=
  if s.mode = .dispatch ∧ s.parOn AUTO_BS = true ∧ s.blackStartConditions = true then
    match s.seq.trigger with
    | some _ => s
    | none =>
      if s.par BS_DELAY = 0 then s.beginSequence
      else { s with seq := { s.seq with trigger := some (s.clk + sec (s.par BS_DELAY)) } }
  else { s with seq := { s.seq with trigger := none } }

/-- What the sequencer does at the end of every event (log 7): the trigger timer, the end of PREPARE, the
watch in FIRST_SET and the looks of ADD_SETS. -/
def State.sequencerReact (s : State) : State :=
  s.triggerCheck.prepareCheck.firstSetCheck.addSetsCheck

/-! ## Meter events (R13) -/

/-- A meter event reaches the Shed Ladder, the Curtailment Unit and the sequencer (R13; log 6). -/
def State.meterEvent (s : State) (ev : MeterEvent) : State :=
  ((s.ladderMeter ev).curtailmentMeter ev).sequencerMeter ev

end Sys2Proof.Machine
end

