-- ==== Sys2Proof/Machine/Publication.lean ====
section
/-! DEFINITION. The Restoration Unit's examination (R123 to R125) and the work of the blocks at a publication
(R30), taken in a free order (log 5). -/

namespace Sys2Proof.Machine

/-! ## The examination (R123 to R125) -/

/-- The restore-delay timer is ELAPSED at the first examination at or after its end time (R128). -/
def State.lapseRestoreDelay (s : State) : State :=
  if s.due s.restoreDelay then { s with restoreDelay := none } else s

/-- The frequency is near nominal: the meter is VALID with f ≥ fn − RESTORE_FREQ (R123 condition 7). -/
def State.frequencyAllows (s : State) : Bool :=
  decide (s.meter.state = .valid) &&
    match s.meter.freq with
    | some f => decide (s.fn ≤ f + s.par RESTORE_FREQ)
    | none => false

/-- Conditions 2 to 7 of R123. -/
def State.examinationAllows (s : State) : Bool :=
  decide (s.mode = .dispatch ∨ (s.mode = .blackstart ∧ s.seq.phase = .restore))
    && decide (s.hold.state = .none)
    && decide (s.settle = .stopped)
    && !s.anyFeeder .closing
    && (s.stagesIdle && s.restoreDelay.isNone)
    && s.frequencyAllows

/-- The examination of the queue head (R123, R124, R125). -/
def State.examine (s : State) (rec : BalanceRecord) : State :=
  let s := s.lapseRestoreDelay
  match s.queue with
  | [] => { s with blocked := none }
  | head :: _ =>
    if s.examinationAllows then
      if s.stepLoad head + rec.rr ≤ rec.sr then { s with blocked := none }.restorationClose head
      else
        { s with blocked := some ⟨s.stepLoad head, (s.blocked.map Blocked.since).getD s.clk⟩ }
    else { s with blocked := none }

/-! ## The blocks at a publication (R30) -/

/-- The Curtailment Unit at a publication; in PV_RETURN an indication reached completes the black start (R71,
R84, R149). -/
def State.curtailmentTask (s : State) (rec : BalanceRecord) : State :=
  let s1 := s.curtailmentWork rec
  if s.mode = .blackstart ∧ s.seq.phase = .pvReturn ∧ s1.pvReached = true then s1.completeBlackStart else s1

/-- What is done at a publication: step 6 of the expiry and the work of the five blocks that act on it. -/
inductive Task
  | status
  | commitment
  | curtailment
  | ladder
  | restoration
  | sequencer
  deriving DecidableEq, Repr

/-- Every task, with its number. -/
def allTasks : List Task := [.status, .commitment, .curtailment, .ladder, .restoration, .sequencer]

def Task.number : Task → Nat
  | .status => 0 | .commitment => 1 | .curtailment => 2 | .ladder => 3 | .restoration => 4 | .sequencer => 5

/-- One task. -/
def State.runTask (s : State) (rec : BalanceRecord) : Task → State
  | .status => s.statusTask rec
  | .commitment => s.commitmentTask rec
  | .curtailment => s.curtailmentTask rec
  | .ladder => s.ladderTask rec
  | .restoration => s.examine rec
  | .sequencer => s.restoreCheck

/-- The order of the tasks at the publication with this free index: any order, a free value (R30; log 5). -/
def taskOrder (index : Nat) : List Task :=
  allTasks.insertionSort fun a b => Config.taskRank index a.number ≤ Config.taskRank index b.number

/-- The tasks in the given order. -/
def State.runTasks (s : State) (rec : BalanceRecord) (order : List Task) : State :=
  order.foldl (fun s t => s.runTask rec t) s

/-- A tBAL expiry that was due at `due` (R18): steps 1 to 5, then step 6 and the publication's events. -/
def State.balanceExpiry (s : State) (due : Count) : State :=
  let s1 := s.beginInterval due
  s1.publish.useFree.runTasks s1.computeRecord (taskOrder s1.freeCount)

/-! ## The end of an event -/

/-- The feeder report at the end of an event at which feeder states changed (R114). -/
def State.reportChanges (s before : State) : State :=
  if s.feederStates = before.feederStates then s else s.queueReport

/-- The end of every event: the sequencer's looks (log 7), the feeder report of R114, and ALERT (R168). The frames that
the looks queue, those of an automatic entry into PREPARE among them, so come after the reply of a request and before
the feeder report, an order that no rule gives (log 26). A whole tBAL expiry is one event here: feeder moves at a
publication are reported once, after the work of all the blocks, and the report count is left at 0 (log 37). -/
def State.finish (s before : State) : State := (s.sequencerReact.reportChanges before).refreshAlert

/-- An event acts, and then it ends. -/
def State.ending (s : State) (f : State → State) : State := (f s).finish s

/-- `dt` counts pass, and then the running device acts; outside running, time passes and nothing is taken
(R181). -/
def State.quiet (s : State) (dt : Nat) (f : State → State) : State :=
  let s1 := s.elapse dt
  if s1.power = .running then f s1 else s1

/-- One event at the running device that can move sets, feeders or the sequencer: `dt` counts pass, the event
acts, and the event ends. -/
def State.event (s : State) (dt : Nat) (f : State → State) : State := s.quiet dt fun s => s.ending f

/-- A frame received whole is one event at the running device when it came on the selected lane; frames on the
other lane are not taken (R182, R183). -/
def State.frameEvent (s : State) (rx : Rx) (f : State → State) : State :=
  s.quiet rx.dt fun s => if rx.lane = s.lane then f s else s

end Sys2Proof.Machine
end

