-- ==== Sys2Proof/Machine/Tables.lean ====
section
/-! DEFINITION. The validation of the four tables (R173, R174), the Table Window's staging copy (R169, R171),
and what a successful commit does to the blocks (R67, R87, R117, R184, R185). -/

namespace Sys2Proof.Machine

/-! ## Checks (R173) -/

/-- A roster entry with a rating above 0 is in range (R34, R173). -/
def SetEntry.inRange (e : SetEntry) : Bool :=
  decide (0x10 ≤ e.address ∧ e.address ≤ 0x1F ∧ e.rating ≤ 8000 ∧ 1 ≤ e.priority ∧ e.priority ≤ 8
    ∧ e.minRun ≤ 240 ∧ e.minDown ≤ 120 ∧ 2 ≤ e.startTimeout ∧ e.startTimeout ≤ 120)

/-- A PV entry with a rating above 0 is in range (R68, R173). -/
def PvEntry.inRange (e : PvEntry) : Bool :=
  decide (0x20 ≤ e.address ∧ e.address ≤ 0x27 ∧ e.rating ≤ 8000)

/-- A feeder entry is in range (R88, R173). -/
def FeederEntry.inRange (e : FeederEntry) : Bool :=
  decide (e.load ≤ 8000) && (!e.enabled || decide (1 ≤ e.position ∧ e.position ≤ 16))

/-- An enabled stage is in range (R101, R173). -/
def StageEntry.inRange (e : StageEntry) : Bool :=
  decide (1 ≤ e.width ∧ e.width ≤ 4 ∧ 100 ≤ e.offset ∧ e.offset ≤ 5000 ∧ e.delay ≤ 1000
    ∧ e.rocofLimit ≤ 10000)

/-- Some entry of a lower index satisfies `p`. -/
def lowerAny {n : Nat} (i : Fin n) (p : Fin n → Bool) : Bool :=
  (indices n).any fun j => decide (j < i) && p j

/-- RANGE and DUPLICATE for a roster entry. -/
def checkSetEntry (t : Vector SetEntry 8) (i : Fin 8) : Option Reason :=
  let e := t[i]
  if e.rating = 0 then none
  else if !e.inRange then some .range
  else if lowerAny i fun j =>
      decide (0 < t[j].rating ∧ (t[j].priority = e.priority ∨ t[j].address = e.address))
    then some .duplicate else none

/-- RANGE and DUPLICATE for a PV entry. -/
def checkPvEntry (t : Vector PvEntry 4) (i : Fin 4) : Option Reason :=
  let e := t[i]
  if e.rating = 0 then none
  else if !e.inRange then some .range
  else if lowerAny i fun j => decide (0 < t[j].rating ∧ t[j].address = e.address)
    then some .duplicate else none

/-- RANGE and DUPLICATE for a feeder entry. -/
def checkFeederEntry (t : Vector FeederEntry 16) (i : Fin 16) : Option Reason :=
  let e := t[i]
  if !e.inRange then some .range
  else if e.enabled && lowerAny i fun j => t[j].enabled && decide (t[j].position = e.position)
    then some .duplicate else none

/-- The nearest enabled stage of a lower index. -/
def lowerStage (t : Vector StageEntry 8) (i : Fin 8) : Option (Fin 8) :=
  ((indices 8).filter fun j => decide (j < i) && t[j].enabled).getLast?

/-- RANGE and ORDER for a stage entry. -/
def checkStageEntry (t : Vector StageEntry 8) (i : Fin 8) : Option Reason :=
  let e := t[i]
  if !e.enabled then none
  else if !e.inRange then some .range
  else match lowerStage t i with
    | some j => if e.offset ≤ t[j].offset then some .order else none
    | none => none

/-- The content of a store image passes the checks of R178. -/
def Settings.contentOk (c : Settings) : Bool :=
  ((indices 8).all fun i => (checkSetEntry c.roster i).isNone)
    && ((indices 4).all fun i => (checkPvEntry c.pv i).isNone)
    && ((indices 16).all fun i => (checkFeederEntry c.feeders i).isNone)
    && ((indices 8).all fun i => (checkStageEntry c.stages i).isNone)
    && ((indices 28).all fun p =>
      decide (paramRows[p].lo ≤ c.params[p] ∧ c.params[p] ≤ paramRows[p].hi))

/-! ## IN_USE (R174) -/

/-- A roster entry in use: its set is STARTING, ONLINE or STOPPING and its staged address or rating differs. -/
def State.setInUse (s : State) (t : Vector SetEntry 8) (i : Fin 8) : Bool :=
  decide (s.sets[i].state ∈ [SetState.starting, SetState.online, SetState.stopping]
    ∧ (t[i].address ≠ s.cfg.roster[i].address ∨ t[i].rating ≠ s.cfg.roster[i].rating))

/-- A feeder entry in use: its feeder is in a state other than DISABLED, CLOSED and OPEN_EXT, and it is
staged as disabled or at another position. -/
def State.feederInUse (s : State) (t : Vector FeederEntry 16) (i : Fin 16) : Bool :=
  decide (s.feeders[i].state ∉ [FeederState.disabled, FeederState.closed, FeederState.openExt]
    ∧ (t[i].enabled = false ∨ t[i].position ≠ s.cfg.feeders[i].position))

/-- The first entry of the staging copy that fails a check, and its reason (R173, R174). A Stage Table is in use at the
index of each stage that is not IDLE; where an entry fails RANGE or ORDER at a lower index, or at the same one, the
model follows R173 and not R174's words 'whatever was staged' (log 40). -/
def State.validate (s : State) : Staging → Option (Nat × Reason)
  | .roster t => (indices 8).findSome? fun i =>
      ((checkSetEntry t i).or (if s.setInUse t i then some .inUse else none)).map fun r => (i.val, r)
  | .pv t => (indices 4).findSome? fun i => (checkPvEntry t i).map fun r => (i.val, r)
  | .feeder t => (indices 16).findSome? fun i =>
      ((checkFeederEntry t i).or (if s.feederInUse t i then some .inUse else none)).map fun r => (i.val, r)
  | .stage t => (indices 8).findSome? fun i =>
      ((checkStageEntry t i).or (if s.stages[i].state = .idle then none else some .inUse)).map
        fun r => (i.val, r)

/-! ## The staging copy (R169 to R171) -/

def Staging.table : Staging → TableId
  | .roster _ => .roster | .pv _ => .pv | .feeder _ => .feeder | .stage _ => .stage

/-- A whole copy of a live table (R170). -/
def Settings.stage (c : Settings) : TableId → Staging
  | .roster => .roster c.roster | .pv => .pv c.pv | .feeder => .feeder c.feeders | .stage => .stage c.stages

/-- Replace the entry at an index of the table, if it has one. -/
def setEntry {α : Type} {n : Nat} (t : Vector α n) (i : Nat) (x : α) : Vector α n :=
  if h : i < n then t.set i x else t

/-- The fields of an entry frame written at the pointer (R171). -/
def Staging.write (st : Staging) (pointer : Nat) (fields : List Byte) : Staging :=
  match st with
  | .roster t => .roster (setEntry t pointer (.ofBytes fields))
  | .pv t => .pv (setEntry t pointer (.ofBytes fields))
  | .feeder t => .feeder (setEntry t pointer (.ofBytes fields))
  | .stage t => .stage (setEntry t pointer (.ofBytes fields))

/-! ## Commits -/

/-- The member address or the rating of a roster entry changes (R67). -/
def State.setReplaced (s : State) (t : Vector SetEntry 8) (i : Fin 8) : Bool :=
  decide (t[i].address ≠ s.cfg.roster[i].address ∨ t[i].rating ≠ s.cfg.roster[i].rating)

/-- The directive of an entry that a commit has emptied: STOP (R34), with its sequence raised when that changes the value
(R67), and no frame (log 12). -/
def SetRec.emptied (r : SetRec) : SetRec :=
  { r with
    directive := .stop, dirSeq := r.dirSeq + if r.directive = Directive.stop then 0 else 1, lostTimer := none }

/-- The runtime record of a roster entry after a commit (R67): UNKNOWN when its address or rating changed; an
empty entry has the directive STOP (R34) and runs no lost timer (R44; log 14). -/
def SetRec.recommit (r : SetRec) (replaced configured : Bool) (now : Count) : SetRec :=
  if replaced then
    let r1 := r.goUnknown now
    if configured then r1 else r1.emptied
  else r

/-- A waiting frame that a roster commit leaves in the queue (R185). -/
def State.keepsSetFrame (s : State) (t : Vector SetEntry 8) : Frame → Bool
  | .setDirective i _ _ _ => decide (t[i].address = s.cfg.roster[i].address) && decide (0 < t[i].rating)
  | .reply dest _ _ _ =>
    decide (dest = 1 ∨ dest = 2)
      || (indices 8).any fun i => decide (0 < t[i].rating ∧ t[i].address = dest)
  | .statusA _ | .statusB .. | .pvCeiling .. | .feederReport .. => true

/-- The commit of the Set Roster (R67, R184, R185). -/
def State.commitRoster (s : State) (t : Vector SetEntry 8) : State :=
  let s1 := { s with
    cfg := { s.cfg with roster := t }
    sets := tabulate fun (i : Fin 8) =>
      s.sets[i].recommit (s.setReplaced t i) (decide (0 < t[i].rating)) s.clk
    setSlots := tabulate fun (i : Fin 8) =>
      if t[i].address = s.cfg.roster[i].address ∧ 0 < t[i].rating ∧ 0 < s.cfg.roster[i].rating
      then s.setSlots[i] else none
    txQueue := s.txQueue.filter (s.keepsSetFrame t) }
  s1.redirectAll

/-- The plant record of a PV entry after a commit (R87). -/
def PlantRec.recommit (r : PlantRec) (old new : PvEntry) : PlantRec :=
  if new.rating = 0 then .default 0
  else if old.rating = 0 then .default new.rating
  else
    let b := min r.allotment new.rating
    let c := min r.sent new.rating
    if new.address ≠ old.address then
      { r with allotment := b, sent := c, ref := none, lim := none, lastQueued := c }
    else
      { r with
        allotment := b, sent := c, ref := r.ref.map (min · new.rating), lim := r.lim.map (min · new.rating)
        lastQueued := min r.lastQueued new.rating }

/-- A waiting frame that a PV commit leaves in the queue (R185). A PV_CEILING of an entry whose rating alone is lowered
stays as it was queued, with a figure that can lie above the new rating (R78; log 46). -/
def State.keepsPvFrame (s : State) (t : Vector PvEntry 4) : Frame → Bool
  | .pvCeiling p _ _ _ => decide (t[p].address = s.cfg.pv[p].address) && decide (0 < t[p].rating)
  | .statusA _ | .statusB .. | .setDirective .. | .feederReport .. | .reply .. => true

/-- The commit of the PV Table (R33, R87, R184, R185). -/
def State.commitPv (s : State) (t : Vector PvEntry 4) : State :=
  { s with
    cfg := { s.cfg with pv := t }
    plants := tabulate fun (p : Fin 4) => s.plants[p].recommit s.cfg.pv[p] t[p]
    held := tabulate fun (p : Fin 4) =>
      if t[p].address = s.cfg.pv[p].address ∧ 0 < t[p].rating then s.held[p] else 0
    pvSlots := tabulate fun (p : Fin 4) =>
      if t[p].address = s.cfg.pv[p].address ∧ 0 < t[p].rating ∧ 0 < s.cfg.pv[p].rating
      then s.pvSlots[p] else none
    txQueue := s.txQueue.filter (s.keepsPvFrame t) }

/-- The commit of the Feeder Table (R117). -/
def State.commitFeeders (s : State) (t : Vector FeederEntry 16) : State :=
  { s with
    cfg := { s.cfg with feeders := t }
    feeders := tabulate fun (i : Fin 16) =>
      if t[i].enabled = s.cfg.feeders[i].enabled then s.feeders[i]
      else foundFeeder t[i].enabled s.pins.fstat[i] }

/-- The commit of the Stage Table (R117). -/
def State.commitStages (s : State) (t : Vector StageEntry 8) : State :=
  { s with cfg := { s.cfg with stages := t } }

/-- A valid staging copy replaces its live table, and the owning block applies the change (R175). -/
def State.commitTable (s : State) : Staging → State
  | .roster t => s.commitRoster t
  | .pv t => s.commitPv t
  | .feeder t => s.commitFeeders t
  | .stage t => s.commitStages t

end Sys2Proof.Machine
end

