-- ==== Sys2Proof/Machine/StartUp.lean ====
section
/-! DEFINITION. Reset and start-up (R181): POWER_ON_RESET, RESETN_ASSERT, RESETN_RELEASE and
END_OF_START_UP. -/

namespace Sys2Proof.Machine

/-- The nominal frequency an FSEL level selects (R1). -/
def nominalOf (fsel : Bool) : Nat := if fsel then 60000 else 50000

/-- The device at the start of start-up: everything at its power-on value but for what a reset does not reach
— the commands that wait, the count, the pins and the non-volatile image; a running save is abandoned with its
image marked invalid (R180, R181). A STORE_BAD that stands at the reset is cleared here, and the load sets it anew at the
end of start-up; R178 and R168 leave open whether it stands through start-up (log 45). -/
def State.restart (s : State) (power : Power) (fn : Nat) : State :=
  { State.reset with
    pending := s.pending
    clk := s.clk
    freeCount := s.freeCount
    pins := s.pins
    store := s.store
    startBegan := s.clk
    power := power
    fn := fn }

/-- The settings the load takes, and whether the store is bad (R178). -/
def StoreImage.load (image : StoreImage) : Settings × Bool :=
  match image.checked with
  | some content =>
    let c := Settings.ofContent content
    if c.contentOk then (c, false) else (.defaults, true)
  | none => (.defaults, true)

/-- The mode at the end of start-up (R157). -/
def Settings.startMode (c : Settings) : Mode := if c.params[START_MODE] = 1 then .dispatch else .observe

/-- The runtime record of an entry at the end of start-up (R35, R65). -/
def SetRec.started (e : SetEntry) (mode : Mode) (now : Count) : SetRec :=
  if 0 < e.rating then
    { SetRec.reset with directive := directiveOf mode .reset, lostTimer := some (now + tLOST) }
  else .reset

/-- The end of start-up: the configuration is taken, and every block takes its starting state (R181). -/
def State.finishStartUp (s : State) : State :=
  let loaded := s.store.load
  let c := loaded.1
  let s1 := s.restart .running s.fn
  { s1 with
    cfg := c
    storeBad := loaded.2
    mode := c.startMode
    meter := { Meter.reset with waitFrom := some s.clk }
    tbalEnds := some (s.clk + tBAL)
    lane := laneOf s.pins.lane
    sets := tabulate fun (i : Fin 8) => .started c.roster[i] c.startMode s.clk
    plants := tabulate fun (p : Fin 4) => .default c.pv[p].rating
    aggU := sumOver (fun (_ : Fin 4) => true) fun p => c.pv[p].rating
    feeders := tabulate fun (i : Fin 16) => foundFeeder c.feeders[i].enabled s.pins.fstat[i]
    mshedLevel := s.pins.mshed
    firstReport := true
    cfglockLevel := s.pins.cfglock
    seq := { Sequencer.reset with abortLevel := s.pins.bsabort } }.refreshAlert

/-- POWER_ON_RESET: the supply rises, FSEL is sampled, and start-up begins unless RESETn is held low (R181). -/
def execPowerOnReset (fsel : Bool) (dt : Nat) (s : State) : Host.Outcome State Fault Refusal :=
  let s1 := s.elapse dt
  .next (s1.restart (if s1.pins.resetn then .startUp else .held) (nominalOf fsel))

/-- RESETN_ASSERT: the device is held at the start of start-up (R181). -/
def execResetnAssert (dt : Nat) (s : State) : Host.Outcome State Fault Refusal :=
  let s1 := s.elapse dt
  .next (if s1.pins.resetn then
    { s1 with pins := { s1.pins with resetn := false } }.restart .held s1.fn else s1)

/-- RESETN_RELEASE: start-up begins, with FSEL sampled (R1, R181). -/
def execResetnRelease (fsel : Bool) (dt : Nat) (s : State) : Host.Outcome State Fault Refusal :=
  let s1 := s.elapse dt
  .next (if s1.pins.resetn then s1
    else { s1 with pins := { s1.pins with resetn := true } }.restart .startUp (nominalOf fsel))

/-- END_OF_START_UP: the load ends while start-up runs (R178, R181). -/
def execEndOfStartUp (dt : Nat) (s : State) : Host.Outcome State Fault Refusal :=
  let s1 := s.elapse dt
  .next (if s1.power = .startUp then s1.finishStartUp else s1)

end Sys2Proof.Machine
end

