-- ==== Sys2Proof/Machine/Pins.lean ====
section
/-! DEFINITION. The pin commands (R91, R109, R152, R177, R182) and the breaker timers (R92): FSTAT_CHANGE,
BREAKER_TIMER_EXPIRY, MSHED_EDGE, BSABORT_EDGE, CFGLOCK_CHANGE and LANE_CHANGE. A command that names the level
a line already has is no change of it, and only its time passes (log 2). -/

namespace Sys2Proof.Machine

/-- A pin takes a new level: the level is there in every power state, and the running device acts on it. -/
def State.pinChange (s : State) (dt : Nat) (changes : Bool) (set : Pins → Pins) (act : State → State) :
    State :=
  let s1 := s.elapse dt
  if changes then
    let s2 := { s1 with pins := set s1.pins }
    if s2.power = .running then act s2 else s2
  else s1

/-- The order in which changes on several FSTAT lines are taken: ascending ladder position (R93), and after them
the lines of the feeders that are not in the ladder, which no change moves (R88). -/
def State.fstatOrder (s : State) : List (Fin 16) :=
  s.ladder ++ (indices 16).filter fun i => !s.cfg.feeders[i].enabled

/-- The lines whose level differs between `old` and `new`, in the order in which they are taken (R93). -/
def State.changedLines (s : State) (old new : Vector Bool 16) : List (Fin 16) :=
  s.fstatOrder.filter fun i => old[i] != new[i]

/-- Changes on FSTAT lines that reach the Ladder together: each is one event at its feeder, taken one by one
(R91, R93; log 41). -/
def State.fstatChanges (s : State) (old new : Vector Bool 16) : State :=
  (s.changedLines old new).foldl (fun s i => s.ending fun s => s.breakerEvent i new[i]) s

/-- The levels of the sixteen lines once those in `lines` have taken theirs of `levels`. -/
def State.fstatAfter (s : State) (lines levels : Vector Bool 16) : Vector Bool 16 :=
  tabulate fun (i : Fin 16) => if lines[i] then levels[i] else s.pins.fstat[i]

/-- FSTAT_CHANGE (R91, R93). -/
def execFstatChange (lines levels : Vector Bool 16) (dt : Nat) (s : State) : Host.Outcome State Fault Refusal :=
  let new := s.fstatAfter lines levels
  .next (s.pinChange dt (decide (s.pins.fstat ≠ new)) (fun p => { p with fstat := new })
    fun t => t.fstatChanges s.pins.fstat new)

/-- BREAKER_TIMER_EXPIRY (R92): taken when the timer is due (log 2). -/
def execBreakerTimerExpiry (i : Fin 16) (dt : Nat) (s : State) : Host.Outcome State Fault Refusal :=
  .next (s.event dt fun s => if s.due s.feeders[i].timer then s.breakerExpiry i else s)

/-- The MSHED detector takes a level; a rising edge is one shed action (R109). -/
def State.mshedEdge (s : State) (level : Bool) : State :=
  let s1 := { s with mshedLevel := level }
  if level = true ∧ s.mshedLevel = false then s1.shedOne .manual else s1

/-- MSHED_EDGE (R109). -/
def execMshedEdge (level : Bool) (dt : Nat) (s : State) : Host.Outcome State Fault Refusal :=
  .next (s.pinChange dt (s.pins.mshed != level) (fun p => { p with mshed := level })
    fun s => s.ending fun s => s.mshedEdge level)

/-- The sequencer records the BSABORT level; a rising edge ends a running sequence (R152). -/
def State.bsabortEdge (s : State) (level : Bool) : State :=
  let s1 := { s with seq := { s.seq with abortLevel := level } }
  if level = true ∧ s.seq.abortLevel = false ∧ s.seq.phase ≠ .none then s1.abortBlackStart else s1

/-- BSABORT_EDGE (R152). -/
def execBsabortEdge (level : Bool) (dt : Nat) (s : State) : Host.Outcome State Fault Refusal :=
  .next (s.pinChange dt (s.pins.bsabort != level) (fun p => { p with bsabort := level })
    fun s => s.ending fun s => s.bsabortEdge level)

/-- CFGLOCK_CHANGE (R177): the level is taken, and nothing else changes. -/
def execCfglockChange (level : Bool) (dt : Nat) (s : State) : Host.Outcome State Fault Refusal :=
  .next (s.pinChange dt (s.pins.cfglock != level) (fun p => { p with cfglock := level })
    fun s => { s with cfglockLevel := level })

/-- The lane becomes the one the LANE level names, and a buffered frame goes with it (R182, R186). -/
def State.switchLane (s : State) : State :=
  { s with
    lane := laneOf s.pins.lane
    laneWaiting := false
    txBuffer := s.txBuffer.map fun b => { b with lane := laneOf s.pins.lane } }

/-- A change of the LANE level: it waits for the end of a transmission of the device's own, and takes effect at
once otherwise; a frame in reception is then never taken (R182; log 24). -/
def State.laneChange (s : State) (wire : Wire) : State :=
  if wire = .sending ∧ s.txBuffer.isSome = true then { s with laneWaiting := true } else s.switchLane

/-- LANE_CHANGE (R182). -/
def execLaneChange (level : Bool) (wire : Wire) (dt : Nat) (s : State) : Host.Outcome State Fault Refusal :=
  .next (s.pinChange dt (s.pins.lane != level) (fun p => { p with lane := level })
    fun s => s.laneChange wire)

end Sys2Proof.Machine
end

