-- ==== Sys2Proof/Machine/Bus.lean ====
section
/-! DEFINITION. The Station Bus Interface at the wire: the reception of a frame (R183, R188), and the transmit side
(R186, R187): TAKE, FRAME_SENT and OFFERED_AGAIN. -/

namespace Sys2Proof.Machine

/-- A frame received whole on a lane, `dt` counts after the command before it: the command it spells joins the waiting
commands (R183, R188). -/
def State.receive (s : State) (dt : Nat) (lane : Lane) (ident : BitVec 11) (data : List Byte) : State :=
  { s with pending := s.pending ++ [decodeFrame dt lane ident data] }

/-- The part of a frame that is sent next: the one a feeder report has come to, and 0 for every other frame
(R187). -/
def Frame.nextPart : Frame → Nat
  | .feederReport _ next => next
  | .statusA _ | .statusB .. | .setDirective .. | .pvCeiling .. | .reply .. => 0

/-- The buffer filled from a frame at the take: the cycle number, the lane and U as they stand (R17, R32, R186),
and the part that is sent next (R187). -/
def State.buffered (s : State) (f : Frame) : TxBuffer :=
  ⟨f, s.cycle, s.lane, s.aggU, f.nextPart⟩

/-- What stays in the queue of the frame taken: a feeder report keeps its place until its last part has been
sent (R187); every other frame leaves. -/
def Frame.leaves : Frame → List Frame
  | .feederReport parts next => [.feederReport parts (next + 1)]
  | .statusA _ | .statusB .. | .setDirective .. | .pvCeiling .. | .reply .. => []

/-- The take of the head frame into an empty buffer (R186). -/
def State.takeHead (s : State) : State :=
  match s.txBuffer, s.txQueue with
  | none, f :: rest => { s with txBuffer := some (s.buffered f), txQueue := f.leaves ++ rest }
  | _, _ => s

/-- TAKE (R186). -/
def execTake (dt : Nat) (s : State) : Host.Outcome State Fault Refusal := .next (s.quiet dt State.takeHead)

/-- A feeder report at the head, all of whose parts have been taken, leaves when the last of them has been sent
(R187). -/
def dropSentReport : List Frame → List Frame
  | .feederReport parts next :: rest =>
    if parts.length ≤ next then rest else .feederReport parts next :: rest
  | q => q

/-- The lane change that waits takes effect at the boundary (R182). -/
def State.boundary (s : State) : State := if s.laneWaiting then s.switchLane else s

/-- The buffered frame has been sent: the buffer frees, and a waiting lane change takes effect (R182, R186). -/
def State.frameSent (s : State) : State :=
  match s.txBuffer with
  | some _ => { s with txBuffer := none, txQueue := dropSentReport s.txQueue }.boundary
  | none => s

/-- FRAME_SENT (R186). -/
def execFrameSent (dt : Nat) (s : State) : Host.Outcome State Fault Refusal := .next (s.quiet dt State.frameSent)

/-- OFFERED_AGAIN (R186): the frame stays in the buffer, its fields as they were filled in; a waiting lane change
takes effect, and the frame is offered on the new lane (R182; log 25). -/
def execOfferedAgain (dt : Nat) (s : State) : Host.Outcome State Fault Refusal :=
  .next (s.quiet dt State.boundary)

end Sys2Proof.Machine
end

