-- ==== Sys2Proof/Machine/Requests.lean ====
section
/-! DEFINITION. How requests and entry frames are taken (R161, R162, R171, R183): the checks every request goes
through, ENTRY_DATA, FRAME_OF_OTHER_KIND and UNKNOWN_REQUEST_CODE. -/

namespace Sys2Proof.Machine

/-- Queue the reply to a request of this sender (R162). -/
def State.answer (s : State) (rx : Rx) (code : BitVec 5) (result : Result) (data : List Byte) : State :=
  s.reply rx.src.toNat code result data

/-- A request that passes the filter of R161 is checked in the order of that rule, and its own cases are taken
when no check fails; a stranger's frame and a PV controller's are discarded (R161, R183). -/
def State.request (s : State) (rx : Rx) (code : BitVec 5) (gate : Gate) (own : State → State) : State :=
  match s.roleOf rx.src.toNat with
  | .stranger | .pvController => s
  | .supervisor =>
    match s.refusal .supervisor gate with
    | some .locked => s.answer rx code .locked (if gate.lockData then s.lockBytes else [])
    | some result => s.answer rx code result []
    | none => own s
  | .genset i =>
    match s.refusal (.genset i) gate with
    | some .locked => s.answer rx code .locked (if gate.lockData then s.lockBytes else [])
    | some result => s.answer rx code result []
    | none => own s

/-- A request frame taken by the device. -/
def State.requestEvent (s : State) (rx : Rx) (code : BitVec 5) (gate : Gate) (own : State → State) : State :=
  s.frameEvent rx fun s => s.request rx code gate own

/-- The request code that a reply to an unknown code carries: the code itself where the field holds it, else a
free value (log 15). -/
def codeField (code : Byte) : BitVec 5 :=
  if code.toNat < 32 then code.setWidth 5 else Config.unknownCodeField code

/-- UNKNOWN_REQUEST_CODE: answered INVALID before any other check (R161). -/
def execUnknownRequestCode (rx : Rx) (code : Byte) (s : State) : Host.Outcome State Fault Refusal :=
  .next (s.frameEvent rx fun s =>
    match s.roleOf rx.src.toNat with
    | .stranger | .pvController => s
    | .supervisor | .genset _ => s.answer rx (codeField code) .invalid [])

/-- FRAME_OF_OTHER_KIND: discarded without effect and without reply (R183; log 29). -/
def execFrameOfOtherKind (rx : Rx) (_kind : BitVec 5) (_data : List Byte) (s : State) :
    Host.Outcome State Fault Refusal :=
  .next (s.frameEvent rx fun s => s)

/-! ## Entry frames (R171) -/

/-- The owner's entry frame with the window's table identity: staged at the pointer, the pointer advances, the
idle timer restarts (R171). -/
def Window.take (w : Window) (fields : List Byte) (now : Count) : Window :=
  { w with
    staging := w.staging.write w.pointer fields
    pointer := if w.pointer = w.last then w.first else w.pointer + 1
    idleEnds := now + tWIN }

/-- A rejected entry frame is counted, up to 255 (R171). -/
def Window.reject (w : Window) : Window := { w with rejected := min 255 (w.rejected + 1) }

/-- An entry frame with its table identity and its fields, from an address that may send one (R171). -/
def State.entryFrame (s : State) (rx : Rx) (table : Nat) (fields : List Byte) : State :=
  match s.window with
  | some w =>
    if rx.src.toNat = w.owner ∧ table = w.staging.table.code
    then { s with window := some (w.take fields s.clk) }
    else { s with window := some w.reject }
  | none =>
    if rx.src.toNat = 1 ∨ rx.src.toNat = 2 then s.answer rx 0x15 .noWindow [] else s

/-- An ENTRY_DATA frame: a wrong length and a sender that is not configured make it discarded (R183). -/
def State.entryData (s : State) (rx : Rx) (data : List Byte) : State :=
  if entryFits data = true ∧ s.roleOf rx.src.toNat ≠ .stranger
  then s.entryFrame rx (octet data 0 / 64) data.tail else s

/-- ENTRY_DATA (R171, R183). -/
def execEntryData (rx : Rx) (data : List Byte) (s : State) : Host.Outcome State Fault Refusal :=
  .next (s.frameEvent rx fun s => s.entryData rx data)

end Sys2Proof.Machine
end

