-- ==== Sys2Proof/Machine/ConfigRequests.lean ====
section
/-! DEFINITION. The requests on parameters, tables, the store and the lock (R170, R172 to R177, R179):
SET_PARAMETER, WINDOW_OPEN, WINDOW_CLOSE_DISCARD, WINDOW_CLOSE_COMMIT, SAVE_SETTINGS, SET_LOCK and CLEAR_LOCK. -/

namespace Sys2Proof.Machine

/-! ## Set Parameter (R176) -/

/-- The value a request stores: the nearest bound of the range (R176). -/
def storedValue (p : Param) (v : Nat) : Nat := clampTo paramRows[p].lo paramRows[p].hi v

/-- The stored value takes effect by the parameter's reflection (R176). -/
def State.putParameter (s : State) (p : Param) (v : Nat) : State :=
  match paramRows[p].reflection with
  | .nextInterval => { s with paramPending := s.paramPending.set p (some v) }
  | .immediate | .nextTimer | .atStartUp => { s with cfg := { s.cfg with params := s.cfg.params.set p v } }

/-- Set Parameter on a parameter the device knows (R176). -/
def State.setParameter (s : State) (rx : Rx) (p : Param) (value : Nat) : State :=
  let v := storedValue p value
  s.ending fun s =>
    ((s.putParameter p v).answer rx 0x0B (if v = value then .accepted else .acceptedClamped)
      (byte p.val :: s.paramBytes p v)).spendParam p v

/-- SET_PARAMETER (R176). -/
def execSetParameter (rx : Rx) (number : Byte) (value : BitVec 16) (s : State) :
    Host.Outcome State Fault Refusal :=
  .next (s.requestEvent rx 0x0B { lock := true } fun s =>
    match paramOf number with
    | some p => s.setParameter rx p value.toNat
    | none => s.answer rx 0x0B .invalid [])

/-! ## The Table Window (R170, R172, R173, R175) -/

/-- A window freshly opened by `owner` on a table (R170). -/
def State.freshWindow (s : State) (owner : Nat) (t : TableId) (first last : Nat) : Window :=
  ⟨owner, s.cfg.stage t, first, last, first, 0, s.clk + tWIN⟩

/-- Window Open's own cases (R170). -/
def State.windowOpen (s : State) (rx : Rx) (table first last : Byte) : State :=
  match TableId.ofCode table.toNat with
  | some t =>
    if first.toNat ≤ last.toNat ∧ last.toNat ≤ t.lastIndex then
      { s with window := some (s.freshWindow rx.src.toNat t first.toNat last.toNat) }.answer rx 0x0E
        .accepted [table, first, last]
    else s.answer rx 0x0E .invalid []
  | none => s.answer rx 0x0E .invalid []

/-- WINDOW_OPEN (R170). -/
def execWindowOpen (rx : Rx) (table first last : Byte) (s : State) : Host.Outcome State Fault Refusal :=
  .next (s.requestEvent rx 0x0E { seqActive := true, lock := true, busySave := true, busyWindow := true }
    fun s => s.windowOpen rx table first last)

/-- A Window Close: NO_WINDOW and BUSY for a sender that cannot close, else what the owner's close does
(R172). -/
def State.windowClose (s : State) (rx : Rx) (close : State → Window → State) : State :=
  match s.window with
  | none => s.answer rx 0x0F .noWindow []
  | some w => if rx.src.toNat = w.owner then close s w else s.answer rx 0x0F .busy []

/-- The owner's close with discard (R172). -/
def State.discardWindow (s : State) (rx : Rx) (w : Window) : State :=
  { s with window := none }.answer rx 0x0F .accepted [byte w.rejected]

/-- WINDOW_CLOSE_DISCARD (R172); an argument other than 0 is INVALID (R188; log 28). -/
def execWindowCloseDiscard (rx : Rx) (argument : Byte) (s : State) : Host.Outcome State Fault Refusal :=
  .next (s.requestEvent rx 0x0F {} fun s =>
    if argument = 0 then s.windowClose rx fun s w => s.discardWindow rx w
    else s.answer rx 0x0F .invalid [])

/-- A commit that passes every check: the table is replaced, the window goes, and DISPATCH becomes OBSERVE
(R175). -/
def State.commit (s : State) (staging : Staging) : State :=
  let s1 := { s with window := none }.commitTable staging
  if s.mode = .dispatch then s1.setMode .observe else s1

/-- The owner's close with commit (R173, R175). -/
def State.closeCommit (s : State) (rx : Rx) (w : Window) : State :=
  match s.validate w.staging with
  | some (index, reason) =>
    { s with window := some { w with idleEnds := s.clk + tWIN } }.answer rx 0x0F .validationFailed
      [byte index, byte reason.code]
  | none =>
    s.ending fun s =>
      let s1 := s.commit w.staging
      s1.answer rx 0x0F .accepted
        [byte w.rejected, byte s1.mode.code, boolByte (decide (s1.mode ≠ s.mode))]

/-- WINDOW_CLOSE_COMMIT (R173, R175). -/
def execWindowCloseCommit (rx : Rx) (s : State) : Host.Outcome State Fault Refusal :=
  .next (s.requestEvent rx 0x0F { seqActive := true } fun s =>
    s.windowClose rx fun s w => s.closeCommit rx w)

/-! ## Save Settings (R179, R180) -/

/-- An accepted save: the snapshot is taken, and the first step of the write marks the image invalid; the reply
comes at the end of the write (R179, R180). -/
def State.beginSave (s : State) (requester : Nat) : State :=
  { s with save := some ⟨s.cfg.image, requester, s.clk⟩, store := .torn }

/-- SAVE_SETTINGS (R179). -/
def execSaveSettings (rx : Rx) (s : State) : Host.Outcome State Fault Refusal :=
  .next (s.requestEvent rx 0x10 { lock := true, busySave := true, busyWindow := true }
    fun s => s.beginSave rx.src.toNat)

/-! ## The lock (R177) -/

/-- Set Lock's own cases (R177). -/
def State.setLock (s : State) (rx : Rx) : State :=
  let s1 := { s with cfg := { s.cfg with lockFlag := true } }
  s1.answer rx 0x11 (if s.cfg.lockFlag then .acceptedNoEffect else .accepted) s1.lockBytes

/-- SET_LOCK (R177). -/
def execSetLock (rx : Rx) (s : State) : Host.Outcome State Fault Refusal :=
  .next (s.requestEvent rx 0x11 { busySave := true } fun s => s.setLock rx)

/-- Clear Lock's own cases: refused LOCKED while CFGLOCK is high, whether the flag is set or not (R177). -/
def State.clearLock (s : State) (rx : Rx) : State :=
  if s.cfglockLevel then s.answer rx 0x12 .locked s.lockBytes
  else
    let s1 := { s with cfg := { s.cfg with lockFlag := false } }
    s1.answer rx 0x12 (if s.cfg.lockFlag then .accepted else .acceptedNoEffect) s1.lockBytes

/-- CLEAR_LOCK (R177). -/
def execClearLock (rx : Rx) (s : State) : Host.Outcome State Fault Refusal :=
  .next (s.requestEvent rx 0x12 { lock := true, busySave := true, lockData := true } fun s => s.clearLock rx)

end Sys2Proof.Machine
end

