-- ==== Sys2Proof/Machine/FeederRequests.lean ====
section
/-! DEFINITION. The requests on restoration, feeders and sets (R64, R110, R111, R129 to R134):
HOLD_RESTORATION, RESUME_RESTORATION, SHED_STEP, OPEN_FEEDER, RESTORE_FEEDER, CLEAR_SET_FAULT and
CLEAR_FEEDER_FAULT. -/

namespace Sys2Proof.Machine

/-! ## Holds (R132 to R135) -/

/-- The data of a reply to Hold Restoration: the hold state, the holder when there is one, and the time left to
the end of the hold or of tHOLDGAP; with neither running the time field is a free value (R132; log 15). -/
def State.holdData (s : State) : List Byte :=
  byte s.hold.state.code :: (s.hold.holder.map byte).toList ++
    match s.hold.maxEnds, s.hold.gapEnds with
    | some ends, _ => be16 (secondsLeft ends s.clk)
    | none, some ends => be16 (secondsLeft ends s.clk)
    | none, none => be16 (Config.freeWord s.freeCount).toNat

/-- Answer a Hold Restoration. -/
def State.answerHold (s : State) (rx : Rx) (result : Result) : State :=
  let s1 := s.answer rx 0x04 result s.holdData
  if s.hold.maxEnds.isNone && s.hold.gapEnds.isNone then s1.useFree else s1

/-- A hold is accepted: PENDING while a feeder is CLOSING, else IN_EFFECT at once (R132, R133). -/
def State.acceptHold (s : State) (holder : Nat) : State :=
  let s1 := { s with hold := ⟨.pending, some holder, some (s.clk + tHOLDMAX), none⟩ }
  if s1.anyFeeder .closing then s1 else s1.holdTakesEffect

/-- There is nothing for a hold to pause (R132). -/
def State.nothingToHold (s : State) : Bool :=
  s.queue.isEmpty && !s.anyFeeder .closing && decide (s.settle = .stopped)

/-- Hold Restoration's own cases (R132). -/
def State.holdRestoration (s : State) (rx : Rx) : State :=
  if s.hold.state ≠ .none then
    s.answerHold rx (if s.hold.holder = some rx.src.toNat then .acceptedNoEffect else .busy)
  else if s.hold.gapEnds.isSome then s.answerHold rx .tooSoon
  else if s.nothingToHold then s.answerHold rx .acceptedNoEffect
  else (s.acceptHold rx.src.toNat).answerHold rx .accepted

/-- HOLD_RESTORATION (R132). -/
def execHoldRestoration (rx : Rx) (s : State) : Host.Outcome State Fault Refusal :=
  .next (s.requestEvent rx 0x04 { gensets := true } fun s => s.holdRestoration rx)

/-- The settle time left in whole seconds, rounded up; 0 when the timer is STOPPED (R134). -/
def Settle.secondsLeft (t : Settle) (now : Count) : Nat :=
  match t with
  | .stopped => 0
  | .running ends => Machine.secondsLeft ends now
  | .paused left => ceilDiv left 10000000

/-- Resume Restoration's own cases (R134). -/
def State.resumeRestoration (s : State) (rx : Rx) : State :=
  if s.hold.state = .none then s.answer rx 0x05 .acceptedNoEffect [byte s.hold.state.code]
  else if s.hold.holder = some rx.src.toNat then
    let s1 := s.endHold
    s1.answer rx 0x05 .accepted (byte s1.hold.state.code :: be16 (s1.settle.secondsLeft s1.clk))
  else s.answer rx 0x05 .notHolder [byte s.hold.state.code]

/-- RESUME_RESTORATION (R134). -/
def execResumeRestoration (rx : Rx) (s : State) : Host.Outcome State Fault Refusal :=
  .next (s.requestEvent rx 0x05 { gensets := true } fun s => s.resumeRestoration rx)

/-! ## Shedding by request (R110, R111) -/

/-- Shed Step's own cases: one SHALLOW action of width 1 with cause MANUAL, and the feeder it found (R110). -/
def State.shedStep (s : State) (rx : Rx) : State :=
  match (s.chosen .shallow 1).head? with
  | some i => (s.shedOne .manual).answer rx 0x06 .accepted [byte i.val, byte (s.position i)]
  | none => (s.shedOne .manual).answer rx 0x06 .acceptedNoEffect []

/-- SHED_STEP (R110). -/
def execShedStep (rx : Rx) (s : State) : Host.Outcome State Fault Refusal :=
  .next (s.requestEvent rx 0x06 {} fun s => s.ending fun s => s.shedStep rx)

/-- Open Feeder on a feeder (R111). -/
def State.openFeeder (s : State) (rx : Rx) (i : Fin 16) : State :=
  match s.feeders[i].state with
  | .disabled | .stuckOpen => s.answer rx 0x07 .wrongState []
  | .closed | .closing | .openExt => s.ending fun s => (s.openByRequest i).answer rx 0x07 .accepted []
  | .opening | .openShed | .openHeld | .stuckClosed => s.answer rx 0x07 .acceptedNoEffect []

/-- OPEN_FEEDER (R111). -/
def execOpenFeeder (rx : Rx) (index : Byte) (s : State) : Host.Outcome State Fault Refusal :=
  .next (s.requestEvent rx 0x07 {} fun s =>
    match feederOf index with
    | some i => s.openFeeder rx i
    | none => s.answer rx 0x07 .invalid [])

/-! ## Single feeders and sets (R64, R129, R130) -/

/-- The reply data of R129 and R130: the feeder index and the feeder's state. -/
def State.feederBytes (s : State) (i : Fin 16) : List Byte := [byte i.val, byte s.feeders[i].state.code]

/-- Restore Feeder on a feeder (R129). -/
def State.restoreFeeder (s : State) (rx : Rx) (i : Fin 16) : State :=
  if s.meter.state ≠ .valid then s.answer rx 0x08 .wrongState []
  else
    match s.feeders[i].state with
    | .openShed | .openHeld | .openExt =>
      s.ending fun s => let s1 := s.closeFeeder i; s1.answer rx 0x08 .accepted (s1.feederBytes i)
    | .disabled | .closed | .opening | .closing | .stuckClosed | .stuckOpen =>
      s.answer rx 0x08 .wrongState []

/-- RESTORE_FEEDER (R129). -/
def execRestoreFeeder (rx : Rx) (index : Byte) (s : State) : Host.Outcome State Fault Refusal :=
  .next (s.requestEvent rx 0x08 {} fun s =>
    match feederOf index with
    | some i => s.restoreFeeder rx i
    | none => s.answer rx 0x08 .invalid [])

/-- Clear Feeder Fault on a feeder (R130). -/
def State.clearFeederFault (s : State) (rx : Rx) (i : Fin 16) : State :=
  if s.feeders[i].state.stuck then
    s.ending fun s => let s1 := s.rederiveFeeder i; s1.answer rx 0x0A .accepted (s1.feederBytes i)
  else s.answer rx 0x0A .acceptedNoEffect []

/-- CLEAR_FEEDER_FAULT (R130). -/
def execClearFeederFault (rx : Rx) (index : Byte) (s : State) : Host.Outcome State Fault Refusal :=
  .next (s.requestEvent rx 0x0A {} fun s =>
    match feederOf index with
    | some i => s.clearFeederFault rx i
    | none => s.answer rx 0x0A .invalid [])

/-- Clear Set Fault on a roster entry (R64). The SET_DIRECTIVE of the derived directive joins the queue before the
reply, an order that no rule gives (log 26). The reply carries the state derived again, also where the end of the same
event orders the set onto the dead bus in FIRST_SET (log 43). -/
def State.clearSetFault (s : State) (rx : Rx) (i : Fin 8) : State :=
  if s.setConfigured i = false then s.answer rx 0x09 .invalid []
  else if s.sets[i].state = .failed then
    s.ending fun s => let s1 := s.rederiveSet i; s1.answer rx 0x09 .accepted [byte s1.sets[i].state.code]
  else s.answer rx 0x09 .acceptedNoEffect []

/-- CLEAR_SET_FAULT (R64). -/
def execClearSetFault (rx : Rx) (index : Byte) (s : State) : Host.Outcome State Fault Refusal :=
  .next (s.requestEvent rx 0x09 {} fun s =>
    match setOf index with
    | some i => s.clearSetFault rx i
    | none => s.answer rx 0x09 .invalid [])

end Sys2Proof.Machine
end

