-- ==== Sys2Proof/Machine/Meter.lean ====
section
/-! DEFINITION. The Frequency Meter (chapter 1): edges, expiries, the frequency value and ROCOF. -/

namespace Sys2Proof.Machine

/-- Join the tail of a list of at most `n` entries; the oldest is removed when it is full (R10). -/
def pushBounded (n : Nat) (xs : List Nat) (x : Nat) : List Nat :=
  (xs ++ [x]).drop (xs.length + 1 - n)

/-- The frequency value of four periods with sum `total`, rounded to the nearest mHz, a half up (R11). -/
def frequencyOf (total : Nat) : Nat := (4 * 10 ^ 10 + total / 2) / total

/-- The sum of the last four periods of a history (R11). -/
def lastFourSum (periods : List Nat) : Nat := (periods.drop (periods.length - 4)).sum

/-- ROCOF from the newest and the oldest frequency value and the sum of the ten periods, truncated toward
zero and clamped to −20,000..20,000 (R12). -/
def rocofOf (newest oldest total : Nat) : Int :=
  max (-20000) (min 20000 (Int.tdiv (((newest : Int) - (oldest : Int)) * 10 ^ 7) total))

/-- A reference edge (R4). -/
def Meter.reference (m : Meter) : Meter :=
  { m with
    state := .acquiring, elapsed := some 0, acqCount := 0, periods := [], freqs := []
    freq := none, rocof := none, waitFrom := none }

/-- The loss expiry (R8); E runs on. -/
def Meter.lose (m : Meter) : Meter :=
  { m with state := .lost, acqCount := 0, periods := [], freqs := [], freq := none, rocof := none }

/-- A frequency value is computed from the period history and joins the frequency history; ROCOF is computed
when the history then holds 11 values (R6, R11, R12). -/
def Meter.value (m : Meter) : Meter :=
  let f := frequencyOf (lastFourSum m.periods)
  let freqs := pushBounded 11 m.freqs f
  { m with
    state := .valid
    freqs := freqs
    freq := some f
    rocof := if freqs.length = 11 then some (rocofOf f (freqs.headD 0) m.periods.sum) else none }

/-- An accepted period of length `e`: the meter after it, and whether it makes a meter event (R6). -/
def Meter.period (m : Meter) (e : Count) : Meter × Bool :=
  let m1 := { m with periods := pushBounded 10 m.periods e, elapsed := some 0 }
  if m.state = .acquiring then
    let m2 := { m1 with acqCount := m.acqCount + 1 }
    if m2.acqCount < 4 then (m2, false) else (m2.value, true)
  else (m1.value, true)

/-- The meter takes a new record and publishes it as a meter event (R13). -/
def State.publishMeter (s : State) (m : Meter) : State :=
  { s with meter := m }.meterEvent ⟨m.state, m.freq, m.rocof, s.clk⟩

/-- A rising edge on GTICK (R4 to R7). -/
def State.risingEdge (s : State) : State :=
  match s.meter.state, s.meter.elapsed with
  | .acquiring, some e | .valid, some e =>
    if e < tPMIN then s
    else if e ≤ tPMAX then
      let (m, event) := s.meter.period e
      if event then s.publishMeter m else { s with meter := m }
    else (s.publishMeter s.meter.lose).publishMeter s.meter.lose.reference
  | _, _ => s.publishMeter s.meter.reference

/-- The loss expiry has fallen due (R8). -/
def Meter.lossDue (m : Meter) : Bool :=
  match m.state, m.elapsed with
  | .acquiring, some e | .valid, some e => decide (tPMAX < e)
  | _, _ => false

/-- The dead expiry has fallen due (R9). -/
def Meter.deadDue (m : Meter) : Bool :=
  match m.state, m.elapsed with
  | .lost, some e => decide (tDEAD < e)
  | _, _ => false

/-- The start-up wait has exceeded tDEAD (R9). -/
def Meter.waitDue (m : Meter) (now : Count) : Bool :=
  match m.state, m.waitFrom with
  | .noSignal, some start => decide (tDEAD < now - start)
  | _, _ => false

/-- The dead expiry: E stops at tDEAD + 1 (R9). -/
def Meter.die (m : Meter) : Meter := { m with state := .dead, elapsed := some (tDEAD + 1) }

/-- The end of the start-up wait: DEAD with E absent (R9). -/
def Meter.dieWaiting (m : Meter) : Meter := { m with state := .dead, elapsed := none, waitFrom := none }

/-- GTICK_RISING_EDGE. -/
def execGtickRisingEdge (dt : Nat) (s : State) : Host.Outcome State Fault Refusal :=
  .next (s.event dt State.risingEdge)

/-- LOSS_EXPIRY (R8): taken when it is due (log 2). -/
def execLossExpiry (dt : Nat) (s : State) : Host.Outcome State Fault Refusal :=
  .next (s.event dt fun s => if s.meter.lossDue then s.publishMeter s.meter.lose else s)

/-- DEAD_EXPIRY (R9): taken when it is due (log 2). -/
def execDeadExpiry (dt : Nat) (s : State) : Host.Outcome State Fault Refusal :=
  .next (s.event dt fun s => if s.meter.deadDue then s.publishMeter s.meter.die else s)

/-- START_UP_WAIT (R9): taken when it is due (log 2). -/
def execStartUpWait (dt : Nat) (s : State) : Host.Outcome State Fault Refusal :=
  .next (s.event dt fun s => if s.meter.waitDue s.clk then s.publishMeter s.meter.dieWaiting else s)

/-- TBAL_EXPIRY (R18): taken when the interval timer is due (log 2). -/
def execTbalExpiry (dt : Nat) (s : State) : Host.Outcome State Fault Refusal :=
  .next (s.event dt fun s =>
    match s.tbalEnds with
    | some due => if due ≤ s.clk then s.balanceExpiry due else s
    | none => s)

end Sys2Proof.Machine
end

