-- ==== Sys2Proof/Machine/ModeRequests.lean ====
section
/-! DEFINITION. The requests on the mode, on the device as a whole, and the reads (R141, R163 to R167):
RESUME_DISPATCH, ENTER_OBSERVE, BLACK_START, READ_PARAMETER, READ_ENTRY, SOFT_RESET and CYCLE_RESET. -/

namespace Sys2Proof.Machine

/-- The mode in reply data. -/
def State.modeBytes (s : State) : List Byte := [byte s.mode.code]

/-! ## Resume Dispatch and Enter Observe (R163) -/

/-- The mode becomes DISPATCH and BS_FAILED is cleared (R155, R163). -/
def State.toDispatch (s : State) : State :=
  { s with seq := { s.seq with failed := false } }.setMode .dispatch

/-- Resume Dispatch's own cases (R163). A refused reply carries no mode, as R162's list has it (log 17). The reply to an
accepted one carries DISPATCH, also where the end of the same event goes on to BLACKSTART under R140 (log 39). -/
def State.resumeDispatch (s : State) (rx : Rx) : State :=
  if s.mode = .dispatch then s.answer rx 0x01 .acceptedNoEffect s.modeBytes
  else if s.window.isSome then s.answer rx 0x01 .busy []
  else if (indices 8).any s.setConfigured = false then s.answer rx 0x01 .wrongMode []
  else s.ending fun s => let s1 := s.toDispatch; s1.answer rx 0x01 .accepted s1.modeBytes

/-- RESUME_DISPATCH (R163). -/
def execResumeDispatch (rx : Rx) (s : State) : Host.Outcome State Fault Refusal :=
  .next (s.requestEvent rx 0x01 { seqActive := true } fun s => s.resumeDispatch rx)

/-- Enter Observe's own cases (R163); a refused reply carries no mode (log 17). -/
def State.enterObserve (s : State) (rx : Rx) : State :=
  if s.mode = .observe then s.answer rx 0x02 .acceptedNoEffect s.modeBytes
  else s.ending fun s => let s1 := s.setMode .observe; s1.answer rx 0x02 .accepted s1.modeBytes

/-- ENTER_OBSERVE (R163). -/
def execEnterObserve (rx : Rx) (s : State) : Host.Outcome State Fault Refusal :=
  .next (s.requestEvent rx 0x02 { seqActive := true } fun s => s.enterObserve rx)

/-! ## Black Start (R141) -/

/-- Black Start's own cases; the reply is queued once PREPARE has been entered and its orders given, with the
phase PREPARE and attempts 1 in its data (R141). -/
def State.blackStart (s : State) (rx : Rx) : State :=
  if s.meter.state ≠ .dead ∨ s.noneOnline = false then s.answer rx 0x03 .notDead []
  else if s.blackStartConditions = false then s.answer rx 0x03 .notPermitted []
  else s.ending fun s =>
    let s1 := s.beginSequence
    s1.answer rx 0x03 .accepted [byte s1.seq.phase.code, byte s1.seq.attempts]

/-- BLACK_START (R141). -/
def execBlackStart (rx : Rx) (s : State) : Host.Outcome State Fault Refusal :=
  .next (s.requestEvent rx 0x03 { seqActive := true } fun s => s.blackStart rx)

/-! ## Reads (R164) -/

/-- The data of a Read Parameter: the live value and, for a NEXT_INTERVAL parameter, whether a pending value
stands and what it is; the value is left out when none stands (R164; log 17). -/
def State.paramData (s : State) (p : Param) : List Byte :=
  s.paramBytes p (s.par p) ++
    if paramRows[p].reflection = .nextInterval then
      match s.paramPending[p] with
      | some v => 1 :: s.paramBytes p v
      | none => [0]
    else []

/-- Read Parameter's own cases (R164). -/
def State.readParameter (s : State) (rx : Rx) (number : Byte) : State :=
  match paramOf number with
  | some p => (s.answer rx 0x0C .accepted (s.paramData p)).spendParam p (s.par p)
  | none => s.answer rx 0x0C .invalid []

/-- READ_PARAMETER (R164). -/
def execReadParameter (rx : Rx) (number : Byte) (s : State) : Host.Outcome State Fault Refusal :=
  .next (s.requestEvent rx 0x0C { gensets := true } fun s => s.readParameter rx number)

/-- A feeder's place in the Restoration Queue, from 1 at the head, or 0 (R118, R164). -/
def State.place (s : State) (i : Fin 16) : Nat := if i ∈ s.queue then s.queue.idxOf i + 1 else 0

/-- The data of a Read Entry (R164), or none for an index outside the table. -/
def State.entryBytes (s : State) (table : TableId) (index : Nat) : Option (List Byte) :=
  match table with
  | .roster =>
    if h : index < 8 then
      let r := s.sets[index]
      some ([byte r.state.code, byte r.cause.code, byte r.attempts, directiveByte r.directive r.dirSeq]
        ++ be16 (ageUnits s.clk (s.setSlots[index].map SetSlot.arrived)))
    else none
  | .pv =>
    if h : index < 4 then
      let r := s.plants[index]
      some (be16 r.sent ++ [byte r.sentCause.code] ++ be16 (ageUnits s.clk (s.pvSlots[index].map PvSlot.arrived)))
    else none
  | .feeder =>
    if h : index < 16 then
      let r := s.feeders[index]
      some [byte r.state.code, byte r.cause.code, byte (s.place ⟨index, h⟩)]
    else none
  | .stage => if h : index < 8 then some [byte s.stages[index].state.code] else none

/-- Read Entry's own cases: bits 7 and 6 of the selector name the table, bits 3 to 0 the index (R164, R188). -/
def State.readEntry (s : State) (rx : Rx) (selector : Byte) : State :=
  match (TableId.ofCode (selector.toNat / 64)).bind fun t => s.entryBytes t (selector.toNat % 16) with
  | some data => s.answer rx 0x0D .accepted data
  | none => s.answer rx 0x0D .invalid []

/-- READ_ENTRY (R164). -/
def execReadEntry (rx : Rx) (selector : Byte) (s : State) : Host.Outcome State Fault Refusal :=
  .next (s.requestEvent rx 0x0D { gensets := true } fun s => s.readEntry rx selector)

/-! ## Soft Reset and Cycle Reset (R165, R167) -/

/-- The reset order of R165 at every block, the emptied Transmit Queue and the feeder report of R116. -/
def State.softReset (s : State) : State :=
  let s1 := { s with
    mode := .observe
    window := none
    cycle := 0
    freshStart := true
    pvReached := false
    seq := { s.seq with trigger := none } }
  let s2 := s1.softResetSets.softResetLadder.softResetRestoration
  { s2 with txQueue := [] }.queueReport

/-- SOFT_RESET (R165). Of the two frames queued after the emptying, the feeder report stands before the reply, an
order that R165 and R116 do not give (log 26). -/
def execSoftReset (rx : Rx) (s : State) : Host.Outcome State Fault Refusal :=
  .next (s.requestEvent rx 0x13 { seqActive := true, lock := true } fun s =>
    s.ending fun s => s.softReset.answer rx 0x13 .accepted [])

/-- CYCLE_RESET (R167). -/
def execCycleReset (rx : Rx) (s : State) : Host.Outcome State Fault Refusal :=
  .next (s.requestEvent rx 0x14 {} fun s => { s with cycle := 0 }.answer rx 0x14 .accepted [])

end Sys2Proof.Machine
end

