-- ==== Sys2Proof/Machine/Reports.lean ====
section
/-! DEFINITION. The reports of sets and plants (R36, R183, R184) and the timers of one set (R39, R40, R42 to
R45, R62): SET_REPORT, PV_REPORT and the six expiries of a set. -/

namespace Sys2Proof.Machine

/-- A SET_REPORT from a configured set with a controller state code of 0 to 5 is taken; any other is discarded
(R183). -/
def State.setReport (s : State) (src : Nat) (code : Byte) (output : Nat) : State :=
  match s.setAt src, ControllerState.ofCode code.toNat with
  | some i, some c => s.ending fun s => s.takeSetReport i c output
  | _, _ => s

/-- SET_REPORT (R36, R183, R184). -/
def execSetReport (rx : Rx) (code : Byte) (output : BitVec 16) (s : State) :
    Host.Outcome State Fault Refusal :=
  .next (s.frameEvent rx fun s => s.setReport rx.src.toNat code output.toNat)

/-- A PV_REPORT from a configured plant fills its slot (R184). -/
def State.pvReport (s : State) (src : Nat) (output available : Nat) : State :=
  match s.plantAt src with
  | some p => { s with pvSlots := s.pvSlots.set p (some ⟨output, available, s.clk⟩) }
  | none => s

/-- PV_REPORT (R183, R184). -/
def execPvReport (rx : Rx) (output available : BitVec 16) (s : State) : Host.Outcome State Fault Refusal :=
  .next (s.frameEvent rx fun s => s.pvReport rx.src.toNat output.toNat available.toNat)

/-- LOST_TIMER_EXPIRY (R44, R45): taken when the timer is due (log 2). -/
def execLostTimerExpiry (i : Fin 8) (dt : Nat) (s : State) : Host.Outcome State Fault Refusal :=
  .next (s.event dt fun s => if s.due s.sets[i].lostTimer then s.lostExpiry i else s)

/-- START_TIMER_EXPIRY (R42): a failed attempt. -/
def execStartTimerExpiry (i : Fin 8) (dt : Nat) (s : State) : Host.Outcome State Fault Refusal :=
  .next (s.event dt fun s =>
    if s.sets[i].state = .starting ∧ s.due s.sets[i].startTimer = true then s.failedAttempt i else s)

/-- STOP_TIMER_EXPIRY (R43): the set has failed to stop. -/
def execStopTimerExpiry (i : Fin 8) (dt : Nat) (s : State) : Host.Outcome State Fault Refusal :=
  .next (s.event dt fun s =>
    if s.sets[i].state = .stopping ∧ s.due s.sets[i].stopTimer = true
    then s.updateSet i fun r => r.goFailed .failToStop else s)

/-- The minimum-run timer becomes ELAPSED when it is due (R39). -/
def MinRun.lapse (t : MinRun) (now : Count) : MinRun :=
  match t with
  | .running ends => if ends ≤ now then .elapsed else .running ends
  | .absent => .absent
  | .elapsed => .elapsed

/-- MINIMUM_RUN_EXPIRY (R39). -/
def execMinimumRunExpiry (i : Fin 8) (dt : Nat) (s : State) : Host.Outcome State Fault Refusal :=
  .next (s.quiet dt fun s =>
    { s with sets := modifyAt s.sets i fun r => { r with minRun := r.minRun.lapse s.clk } })

/-- MINIMUM_DOWN_EXPIRY (R40): RESTING becomes STOPPED. -/
def execMinimumDownExpiry (i : Fin 8) (dt : Nat) (s : State) : Host.Outcome State Fault Refusal :=
  .next (s.event dt fun s =>
    if s.sets[i].state = .resting ∧ s.due s.sets[i].minDown = true
    then s.updateSet i SetRec.goStopped else s)

/-- DEAD_BUS_START_TIMER_EXPIRY (R62): the set under the dead-bus start order has failed. -/
def execDeadBusStartTimerExpiry (i : Fin 8) (dt : Nat) (s : State) : Host.Outcome State Fault Refusal :=
  .next (s.event dt fun s =>
    if s.sets[i].mark = true ∧ s.due s.sets[i].deadBusTimer = true
    then s.updateSet i fun r => r.goFailed .bsStartFailed else s)

end Sys2Proof.Machine
end

