-- ==== Sys2Proof/Machine/Timers.lean ====
section
/-! DEFINITION. The timers of the Restoration Unit, the sequencer, the Table Window and the Settings Store:
SETTLE_EXPIRY, THOLDMAX_EXPIRY, THOLDGAP_END, TRIGGER_TIMER_EXPIRY, IDLE_EXPIRY and END_OF_THE_WRITE. Each is
taken when it is due (log 2). -/

namespace Sys2Proof.Machine

/-- A RUNNING settle timer that is due becomes STOPPED (R127). -/
def Settle.lapse (t : Settle) (now : Count) : Settle :=
  match t with
  | .running ends => if ends ≤ now then .stopped else .running ends
  | .stopped => .stopped
  | .paused left => .paused left

/-- SETTLE_EXPIRY (R127). -/
def execSettleExpiry (dt : Nat) (s : State) : Host.Outcome State Fault Refusal :=
  .next (s.quiet dt fun s => { s with settle := s.settle.lapse s.clk })

/-- THOLDMAX_EXPIRY (R135). -/
def execTholdmaxExpiry (dt : Nat) (s : State) : Host.Outcome State Fault Refusal :=
  .next (s.quiet dt fun s =>
    if s.hold.state ≠ .none ∧ s.due s.hold.maxEnds = true then s.endHold else s)

/-- THOLDGAP_END (R135). -/
def execTholdgapEnd (dt : Nat) (s : State) : Host.Outcome State Fault Refusal :=
  .next (s.quiet dt fun s =>
    if s.due s.hold.gapEnds then { s with hold := { s.hold with gapEnds := none } } else s)

/-- TRIGGER_TIMER_EXPIRY (R140, R142). -/
def execTriggerTimerExpiry (dt : Nat) (s : State) : Host.Outcome State Fault Refusal :=
  .next (s.event dt fun s => if s.due s.seq.trigger then s.beginSequence else s)

/-- IDLE_EXPIRY (R172): the window is discarded. -/
def execIdleExpiry (dt : Nat) (s : State) : Host.Outcome State Fault Refusal :=
  .next (s.quiet dt fun s => if s.due (s.window.map Window.idleEnds) then { s with window := none } else s)

/-- The end of the write: the image is whole, the save state IDLE, and the requester gets its reply with the
CRC-16 of the image, its last two bytes (R180). -/
def State.endWrite (s : State) : State :=
  match s.save with
  | some w =>
    { s with store := .whole w.image, save := none }.reply w.requester 0x10 .accepted
      (w.image.drop contentLength)
  | none => s

/-- END_OF_THE_WRITE (R180): whenever the write ends (log 33). -/
def execEndOfTheWrite (dt : Nat) (s : State) : Host.Outcome State Fault Refusal :=
  .next (s.quiet dt State.endWrite)

end Sys2Proof.Machine
end

