-- ==== Sys2Proof/Machine/Dispatch.lean ====
section
/-! DEFINITION. The meaning of every command: one arm per constructor of Instr. -/

namespace Sys2Proof.Machine

/-- The effect of a command on everything but the queue of waiting commands. -/
def exec (i : Instr) (s : State) : Host.Outcome State Fault Refusal :=
  match i with
  | .powerOnReset fsel dt => Sys2Proof.Machine.execPowerOnReset fsel dt s
  | .resetnAssert dt => Sys2Proof.Machine.execResetnAssert dt s
  | .resetnRelease fsel dt => Sys2Proof.Machine.execResetnRelease fsel dt s
  | .endOfStartUp dt => Sys2Proof.Machine.execEndOfStartUp dt s
  | .gtickRisingEdge dt => Sys2Proof.Machine.execGtickRisingEdge dt s
  | .lossExpiry dt => Sys2Proof.Machine.execLossExpiry dt s
  | .deadExpiry dt => Sys2Proof.Machine.execDeadExpiry dt s
  | .startUpWait dt => Sys2Proof.Machine.execStartUpWait dt s
  | .tbalExpiry dt => Sys2Proof.Machine.execTbalExpiry dt s
  | .fstatChange lines levels dt => Sys2Proof.Machine.execFstatChange lines levels dt s
  | .breakerTimerExpiry feeder dt => Sys2Proof.Machine.execBreakerTimerExpiry feeder dt s
  | .mshedEdge level dt => Sys2Proof.Machine.execMshedEdge level dt s
  | .bsabortEdge level dt => Sys2Proof.Machine.execBsabortEdge level dt s
  | .cfglockChange level dt => Sys2Proof.Machine.execCfglockChange level dt s
  | .laneChange level wire dt => Sys2Proof.Machine.execLaneChange level wire dt s
  | .setReport rx code output => Sys2Proof.Machine.execSetReport rx code output s
  | .pvReport rx output available => Sys2Proof.Machine.execPvReport rx output available s
  | .lostTimerExpiry set dt => Sys2Proof.Machine.execLostTimerExpiry set dt s
  | .startTimerExpiry set dt => Sys2Proof.Machine.execStartTimerExpiry set dt s
  | .stopTimerExpiry set dt => Sys2Proof.Machine.execStopTimerExpiry set dt s
  | .minimumRunExpiry set dt => Sys2Proof.Machine.execMinimumRunExpiry set dt s
  | .minimumDownExpiry set dt => Sys2Proof.Machine.execMinimumDownExpiry set dt s
  | .deadBusStartTimerExpiry set dt => Sys2Proof.Machine.execDeadBusStartTimerExpiry set dt s
  | .settleExpiry dt => Sys2Proof.Machine.execSettleExpiry dt s
  | .tholdmaxExpiry dt => Sys2Proof.Machine.execTholdmaxExpiry dt s
  | .tholdgapEnd dt => Sys2Proof.Machine.execTholdgapEnd dt s
  | .triggerTimerExpiry dt => Sys2Proof.Machine.execTriggerTimerExpiry dt s
  | .idleExpiry dt => Sys2Proof.Machine.execIdleExpiry dt s
  | .endOfTheWrite dt => Sys2Proof.Machine.execEndOfTheWrite dt s
  | .entryData rx data => Sys2Proof.Machine.execEntryData rx data s
  | .frameOfOtherKind rx kind data => Sys2Proof.Machine.execFrameOfOtherKind rx kind data s
  | .unknownRequestCode rx code => Sys2Proof.Machine.execUnknownRequestCode rx code s
  | .resumeDispatch rx => Sys2Proof.Machine.execResumeDispatch rx s
  | .enterObserve rx => Sys2Proof.Machine.execEnterObserve rx s
  | .blackStart rx => Sys2Proof.Machine.execBlackStart rx s
  | .holdRestoration rx => Sys2Proof.Machine.execHoldRestoration rx s
  | .resumeRestoration rx => Sys2Proof.Machine.execResumeRestoration rx s
  | .shedStep rx => Sys2Proof.Machine.execShedStep rx s
  | .openFeeder rx index => Sys2Proof.Machine.execOpenFeeder rx index s
  | .restoreFeeder rx index => Sys2Proof.Machine.execRestoreFeeder rx index s
  | .clearSetFault rx index => Sys2Proof.Machine.execClearSetFault rx index s
  | .clearFeederFault rx index => Sys2Proof.Machine.execClearFeederFault rx index s
  | .setParameter rx number value => Sys2Proof.Machine.execSetParameter rx number value s
  | .readParameter rx number => Sys2Proof.Machine.execReadParameter rx number s
  | .readEntry rx selector => Sys2Proof.Machine.execReadEntry rx selector s
  | .windowOpen rx table first last => Sys2Proof.Machine.execWindowOpen rx table first last s
  | .windowCloseDiscard rx argument => Sys2Proof.Machine.execWindowCloseDiscard rx argument s
  | .windowCloseCommit rx => Sys2Proof.Machine.execWindowCloseCommit rx s
  | .saveSettings rx => Sys2Proof.Machine.execSaveSettings rx s
  | .setLock rx => Sys2Proof.Machine.execSetLock rx s
  | .clearLock rx => Sys2Proof.Machine.execClearLock rx s
  | .softReset rx => Sys2Proof.Machine.execSoftReset rx s
  | .cycleReset rx => Sys2Proof.Machine.execCycleReset rx s
  | .take dt => Sys2Proof.Machine.execTake dt s
  | .frameSent dt => Sys2Proof.Machine.execFrameSent dt s
  | .offeredAgain dt => Sys2Proof.Machine.execOfferedAgain dt s

end Sys2Proof.Machine
end

