-- ==== Sys2Proof/Machine/Tick.lean ====
section
/-! DEFINITION. The idle tick: on an empty queue one CLKIN count passes, and the expiries that are then due are
put in the queue in a free order (log 3). -/

namespace Sys2Proof.Machine

/-- Whether an end time is reached that may be absent or not. -/
def MinRun.due (t : MinRun) (now : Count) : Bool :=
  match t with
  | .running ends => decide (ends ≤ now)
  | .absent | .elapsed => false

def Settle.due (t : Settle) (now : Count) : Bool :=
  match t with
  | .running ends => decide (ends ≤ now)
  | .stopped | .paused _ => false

/-- The expiries of one set, each with whether it is due. -/
def State.setExpiries (s : State) (i : Fin 8) : List (Bool × Instr) :=
  let r := s.sets[i]
  [(s.due r.lostTimer, .lostTimerExpiry i 0),
    (decide (r.state = .starting) && s.due r.startTimer, .startTimerExpiry i 0),
    (decide (r.state = .stopping) && s.due r.stopTimer, .stopTimerExpiry i 0),
    (r.minRun.due s.clk, .minimumRunExpiry i 0),
    (decide (r.state = .resting) && s.due r.minDown, .minimumDownExpiry i 0),
    (r.mark && s.due r.deadBusTimer, .deadBusStartTimerExpiry i 0)]

/-- Every expiry of the running device, with whether it is due. The write of a save ends at the latest tSAVE
after its acceptance (R180). -/
def State.expiries (s : State) : List (Bool × Instr) :=
  [(s.meter.lossDue, .lossExpiry 0), (s.meter.deadDue, .deadExpiry 0),
    (s.meter.waitDue s.clk, .startUpWait 0), (s.due s.tbalEnds, .tbalExpiry 0)]
  ++ (indices 16).map (fun i => (s.due s.feeders[i].timer, .breakerTimerExpiry i 0))
  ++ (indices 8).flatMap s.setExpiries
  ++ [(s.settle.due s.clk, .settleExpiry 0),
    (decide (s.hold.state ≠ .none) && s.due s.hold.maxEnds, .tholdmaxExpiry 0),
    (s.due s.hold.gapEnds, .tholdgapEnd 0), (s.due s.seq.trigger, .triggerTimerExpiry 0),
    (s.due (s.window.map Window.idleEnds), .idleExpiry 0),
    (s.due (s.save.map fun w => w.began + tSAVE), .endOfTheWrite 0)]

/-- The expiries that are due, in a free order (R7, R9, R47, R92, R135, R136; log 3). Start-up ends at the
latest tLOAD after it began (R178). -/
def State.dueExpiries (s : State) : List Instr :=
  match s.power with
  | .held => []
  | .startUp => if s.startBegan + tLOAD ≤ s.clk then [.endOfStartUp 0] else []
  | .running =>
    ((s.expiries.zipIdx.filter fun x => x.1.1).insertionSort
      fun a b => Config.tieRank s.clk a.2 ≤ Config.tieRank s.clk b.2).map fun x => x.1.2

/-- One idle tick. -/
def State.tick (s : State) : State :=
  let s1 := s.elapse 1
  { s1 with pending := s1.pending ++ s1.dueExpiries }

end Sys2Proof.Machine
end

