-- ==== Sys2Proof/Safety.lean ====
section
/-! DEFINITION. What counts as a safe state and a safe run of the block: the promises the spec makes of every
state, each as one predicate. -/

namespace Sys2Proof

open Machine

/-! ## Commands and time -/

/-- The CLKIN counts that pass before a command acts (log 1). -/
def Instr.dt : Instr → Nat
  | .powerOnReset _ dt | .resetnAssert dt | .resetnRelease _ dt | .endOfStartUp dt => dt
  | .gtickRisingEdge dt | .lossExpiry dt | .deadExpiry dt | .startUpWait dt | .tbalExpiry dt => dt
  | .fstatChange _ _ dt | .breakerTimerExpiry _ dt | .mshedEdge _ dt | .bsabortEdge _ dt => dt
  | .cfglockChange _ dt | .laneChange _ _ dt => dt
  | .lostTimerExpiry _ dt | .startTimerExpiry _ dt | .stopTimerExpiry _ dt => dt
  | .minimumRunExpiry _ dt | .minimumDownExpiry _ dt | .deadBusStartTimerExpiry _ dt => dt
  | .settleExpiry dt | .tholdmaxExpiry dt | .tholdgapEnd dt | .triggerTimerExpiry dt => dt
  | .idleExpiry dt | .endOfTheWrite dt | .take dt | .frameSent dt | .offeredAgain dt => dt
  | .setReport rx _ _ | .pvReport rx _ _ | .entryData rx _ | .frameOfOtherKind rx _ _ => rx.dt
  | .unknownRequestCode rx _ => rx.dt
  | .resumeDispatch rx | .enterObserve rx | .blackStart rx | .holdRestoration rx => rx.dt
  | .resumeRestoration rx | .shedStep rx | .openFeeder rx _ | .restoreFeeder rx _ => rx.dt
  | .clearSetFault rx _ | .clearFeederFault rx _ | .setParameter rx _ _ | .readParameter rx _ => rx.dt
  | .readEntry rx _ | .windowOpen rx _ _ _ | .windowCloseDiscard rx _ | .windowCloseCommit rx => rx.dt
  | .saveSettings rx | .setLock rx | .clearLock rx | .softReset rx | .cycleReset rx => rx.dt

namespace Machine

/-! ## The promises of the spec -/

/-- A feeder's FEED line is asserted exactly while its state is OPENING, OPEN_SHED, OPEN_HELD or STUCK_CLOSED,
and outside running every FEED line is released (R90). -/
abbrev FeedFollowsState (s : State) : Prop :=
  (∀ i : Fin 16, s.feeders[i].feed = true ↔
    (s.feeders[i].state = .opening ∨ s.feeders[i].state = .openShed ∨ s.feeders[i].state = .openHeld
      ∨ s.feeders[i].state = .stuckClosed))
  ∧ (s.power ≠ .running → ∀ i : Fin 16, s.feeders[i].feed = false)

/-- A breaker timer runs exactly in OPENING and CLOSING, and a feeder in CLOSED, OPEN_EXT or DISABLED has the
cause NONE (R89). -/
abbrev FeederRecordsAgree (s : State) : Prop :=
  ∀ i : Fin 16,
    (s.feeders[i].timer.isSome = true ↔ (s.feeders[i].state = .opening ∨ s.feeders[i].state = .closing))
    ∧ (s.feeders[i].state = .closed ∨ s.feeders[i].state = .openExt ∨ s.feeders[i].state = .disabled →
        s.feeders[i].cause = .none)

/-- A feeder is in the Restoration Queue exactly when its state is OPEN_SHED, at one place (R119), and it is
DISABLED exactly when its entry is (R88). -/
abbrev QueueHoldsShedFeeders (s : State) : Prop :=
  s.queue.Nodup ∧ (∀ i : Fin 16, i ∈ s.queue ↔ s.feeders[i].state = .openShed)
    ∧ (∀ i : Fin 16, s.cfg.feeders[i].enabled = false ↔ s.feeders[i].state = .disabled)

/-- An address a reply may be queued for: a supervisor, or a configured roster entry (R185). -/
abbrev ReplyAddress (s : State) (dest : Nat) : Prop :=
  dest = 1 ∨ dest = 2 ∨ ∃ i : Fin 8, 0 < s.cfg.roster[i].rating ∧ s.cfg.roster[i].address = dest

/-- The Transmit Queue holds no key twice, replies wait only for addresses that have a reply key, and a save was
asked for by a supervisor (R185, R179). -/
abbrev QueueKeysDistinct (s : State) : Prop :=
  (s.txQueue.map Frame.key).Nodup
    ∧ (∀ dest, Key.reply dest ∈ s.txQueue.map Frame.key → ReplyAddress s dest)
    ∧ (∀ w ∈ s.save, w.requester = 1 ∨ w.requester = 2)

/-- ALERT is high exactly while a condition of the alert set is present, and low outside running (R168). -/
abbrev AlertFollowsSet (s : State) : Prop :=
  (s.power = .running →
    (s.alertPin = true ↔
      (∃ i : Fin 8, s.sets[i].state = .failed)
      ∨ (∃ i : Fin 16, s.feeders[i].state = .stuckClosed ∨ s.feeders[i].state = .stuckOpen)
      ∨ (∃ k : Fin 8, s.stages[k].state = .fired)
      ∨ s.exhausted = true ∨ s.seq.failed = true ∨ s.storeBad = true))
  ∧ (s.power ≠ .running → s.alertPin = false)

/-- A capable set could be started onto a dead bus, now or later: it is configured, has its flag, and is neither
FAILED nor UNAVAILABLE (R139). -/
abbrev SomeCapableSet (s : State) : Prop :=
  ∃ i : Fin 8, 0 < s.cfg.roster[i].rating ∧ s.cfg.roster[i].capable = true
    ∧ s.sets[i].state ≠ .failed ∧ s.sets[i].state ≠ .unavailable

/-- No configured set is ONLINE (R139). -/
abbrev NoSetOnline (s : State) : Prop :=
  ∀ i : Fin 8, 0 < s.cfg.roster[i].rating → s.sets[i].state ≠ .online

/-- The black-start conditions (R139). -/
abbrev BlackStartConditions (s : State) : Prop :=
  s.meter.state = .dead ∧ NoSetOnline s ∧ s.seq.abortLevel = false ∧ s.storeBad = false ∧ SomeCapableSet s

/-- The mode is BLACKSTART exactly while the phase is not NONE; outside a sequence attempts is 0, the candidate
absent, the passed-over list empty and the block timer clear; the trigger timer runs in DISPATCH only (R138,
R140). -/
abbrev ModeMatchesPhase (s : State) : Prop :=
  (s.mode = .blackstart ↔ s.seq.phase ≠ .none)
    ∧ (s.seq.phase = .none → s.seq.attempts = 0 ∧ s.seq.candidate = none ∧ s.seq.passedOver = []
        ∧ s.seq.block = none)
    ∧ (s.seq.trigger ≠ none → s.mode = .dispatch)

/-- The trigger timer of a running device is set exactly while the mode is DISPATCH, AUTO_BS is on and the
black-start conditions of R139 hold (R140). -/
abbrev TriggerFollowsConditions (s : State) : Prop :=
  s.power = .running →
    (s.seq.trigger ≠ none ↔ s.mode = .dispatch ∧ s.cfg.params[AUTO_BS] = 1 ∧ BlackStartConditions s)

/-- The timers, flags and causes of a runtime record belong to the states R35, R39, R40, R42, R43, R45 and R62
give them. -/
abbrev SetRecordAgrees (r : SetRec) : Prop :=
  (r.minRun = .absent ↔ r.state ≠ .online)
    ∧ (r.startTimer.isSome = true ↔ r.state = .starting ∧ r.mark = false)
    ∧ (r.deadBusTimer.isSome = true ↔ r.mark = true)
    ∧ (r.mark = true → r.state = .starting)
    ∧ (r.stopTimer.isSome = true ↔ r.state = .stopping)
    ∧ (r.minDown.isSome = true ↔ r.state = .resting)
    ∧ (r.stale = true → r.state = .online)
    ∧ (r.cause ≠ .none ↔ r.state = .failed)

abbrev SetRecordsAgree (s : State) : Prop := ∀ i : Fin 8, SetRecordAgrees s.sets[i]

/-- A set carries the dead-bus mark only in FIRST_SET and only as the candidate, so at most one does (R145). -/
abbrev MarkIsCandidate (s : State) : Prop :=
  ∀ i : Fin 8, s.sets[i].mark = true →
    s.seq.phase = .firstSet ∧ s.seq.candidate = some i ∧ 0 < s.cfg.roster[i].rating

/-- The directive the table of R48 gives for a mode, a runtime state and a dead-bus mark. -/
def wantedDirective (mode : Mode) (state : SetState) (mark : Bool) : Directive :=
  if mode = .observe then .hold
  else if mark = true then .runDeadbus
  else if state = .starting ∨ state = .online then .run
  else .stop

/-- Every configured set holds the directive R48 gives for its state, its mark and the mode. -/
abbrev DirectivesFollowStates (s : State) : Prop :=
  ∀ i : Fin 8, 0 < s.cfg.roster[i].rating →
    s.sets[i].directive = wantedDirective s.mode s.sets[i].state s.sets[i].mark

/-- The meter record: the frequency is present exactly in VALID, ROCOF exactly when the frequency history holds
11 values, the histories hold at most 10 and 11 entries, and E is at most tDEAD + 1 (R3, R12). -/
abbrev MeterRecordAgrees (s : State) : Prop :=
  (s.meter.freq.isSome = true ↔ s.meter.state = .valid)
    ∧ (s.meter.rocof.isSome = true ↔ s.meter.freqs.length = 11)
    ∧ s.meter.periods.length ≤ 10 ∧ s.meter.freqs.length ≤ 11
    ∧ (∀ e ∈ s.meter.elapsed, e ≤ tDEAD + 1)

/-- Every allotment and every sent ceiling lies between 0 and the plant's rating (R69, R78). -/
abbrev CeilingsWithinRatings (s : State) : Prop :=
  ∀ p : Fin 4, 0 < s.cfg.pv[p].rating →
    s.plants[p].allotment ≤ s.cfg.pv[p].rating ∧ s.plants[p].sent ≤ s.cfg.pv[p].rating

/-- The settle timer is PAUSED. -/
def Settle.isPaused : Settle → Bool
  | .paused _ => true
  | .stopped | .running _ => false

/-- The settle timer is RUNNING. -/
def Settle.isRunning : Settle → Bool
  | .running _ => true
  | .stopped | .paused _ => false

/-- The holder and the tHOLDMAX expiry time are present exactly while a hold stands, a PAUSED settle timer waits
for a hold in effect, and a RUNNING one runs under none in effect (R127, R131). -/
abbrev HoldRecordAgrees (s : State) : Prop :=
  (s.hold.holder.isSome = true ↔ s.hold.state ≠ .none)
    ∧ (s.hold.maxEnds.isSome = true ↔ s.hold.state ≠ .none)
    ∧ (s.settle.isPaused = true → s.hold.state = .inEffect)
    ∧ (s.settle.isRunning = true → s.hold.state ≠ .inEffect)

/-- Every live and every pending parameter value lies in the range of its row (R176, R178). -/
abbrev ParametersInRange (s : State) : Prop :=
  ∀ p : Fin 28,
    (paramRows[p].lo ≤ s.cfg.params[p] ∧ s.cfg.params[p] ≤ paramRows[p].hi)
    ∧ (∀ v ∈ s.paramPending[p], paramRows[p].lo ≤ v ∧ v ≤ paramRows[p].hi)

/-! ## Safe runs -/

/-- A safe state keeps every promise above. -/
def Safe (s : State) : Prop :=
  FeedFollowsState s ∧ FeederRecordsAgree s ∧ QueueHoldsShedFeeders s ∧ QueueKeysDistinct s
    ∧ AlertFollowsSet s ∧ ModeMatchesPhase s ∧ TriggerFollowsConditions s ∧ SetRecordsAgree s ∧ MarkIsCandidate s
    ∧ DirectivesFollowStates s ∧ MeterRecordAgrees s ∧ CeilingsWithinRatings s ∧ HoldRecordAgrees s
    ∧ ParametersInRange s

/-- A run of `k` steps from `s` is safe: every step answers a next state, and every state of it is safe. -/
def SafeRun : Nat → State → Prop
  | 0, s => Safe s
  | k + 1, s => Safe s ∧ ∃ t, step s = .next t ∧ SafeRun k t

/-! ## Conditions on a state and a frame -/

/-- The device runs and the frame comes on the selected lane. -/
abbrev Hears (s : State) (rx : Rx) : Prop := s.power = .running ∧ rx.lane = s.lane

/-- The frame comes from a supervisor (R161). -/
abbrev FromSupervisor (rx : Rx) : Prop := rx.src.toNat = 1 ∨ rx.src.toNat = 2

/-- The frame comes from the genset controller of a configured roster entry (R161). -/
abbrev FromGenset (s : State) (rx : Rx) : Prop :=
  ¬ FromSupervisor rx ∧ ∃ i : Fin 8, 0 < s.cfg.roster[i].rating ∧ s.cfg.roster[i].address = rx.src.toNat

/-- No automatic black start can begin: in DISPATCH with AUTO_BS on, the meter is not DEAD (R140). -/
abbrev NoAutoStart (s : State) : Prop :=
  s.mode = .dispatch → s.cfg.params[AUTO_BS] = 1 → s.meter.state ≠ .dead

/-- No sequence runs and none can begin by itself. -/
abbrev NoSequence (s : State) : Prop := s.seq.phase = .none ∧ NoAutoStart s

/-! ## The spec's tables, as the statements read them -/

/-- The state after a change of FSTAT (the table of R91). -/
def stateAfterFstat (st : FeederState) (level : Bool) : FeederState :=
  match st with
  | .disabled => .disabled
  | .closed => if level then .closed else .openExt
  | .opening => if level then .opening else .openShed
  | .openShed => if level then .stuckClosed else .openShed
  | .openHeld => if level then .stuckClosed else .openHeld
  | .openExt => if level then .closed else .openExt
  | .closing => if level then .closed else .closing
  | .stuckClosed => if level then .stuckClosed else .openShed
  | .stuckOpen => if level then .closed else .stuckOpen

/-- The state of a set that rests for `length`: one that rests for no time is STOPPED at once (R40). -/
def stateAtRest (length : Nat) : SetState := if length = 0 then .stopped else .resting

/-- The state after a failed attempt of set `i` (R41). -/
def stateAfterFailedAttempt (s : State) (i : Fin 8) : SetState :=
  if s.cfg.params[MAX_ATTEMPTS] ≤ s.sets[i].attempts + 1 then .failed
  else stateAtRest (max s.cfg.params[RETRY_DELAY] (30 * s.cfg.roster[i].minDown))

/-- The state of set `i` after a report of `c` (the table of R37). -/
def stateAfterReport (s : State) (i : Fin 8) (c : ControllerState) : SetState :=
  let rest := stateAtRest (30 * s.cfg.roster[i].minDown)
  match s.sets[i].state with
  | .unknown =>
    match c with
    | .off => .stopped | .cranking => .starting | .running => .starting
    | .onBus => .online | .tripped => .failed | .notReady => .unavailable
  | .stopped =>
    match c with
    | .onBus => .online | .notReady => .unavailable
    | .off | .cranking | .running | .tripped => .stopped
  | .starting =>
    match c with
    | .onBus => if s.sets[i].mark = true then .starting else .online
    | .tripped => if s.sets[i].mark = true then .failed else stateAfterFailedAttempt s i
    | .notReady => .unavailable
    | .off | .cranking | .running => .starting
  | .online =>
    match c with
    | .off | .cranking | .running => rest
    | .onBus => .online | .tripped => .failed | .notReady => .unavailable
  | .stopping =>
    match c with
    | .off => rest | .tripped => .failed | .notReady => .unavailable
    | .cranking | .running | .onBus => .stopping
  | .resting =>
    match c with
    | .onBus => .online | .notReady => .unavailable
    | .off | .cranking | .running | .tripped => .resting
  | .failed => .failed
  | .unavailable =>
    match c with
    | .off => .stopped | .onBus => .online
    | .cranking | .running | .tripped | .notReady => .unavailable

/-- A stage under test fires: its delay has run, or ROCOF is at or below the negative of its limit (R103,
R104). -/
def stageFires (e : StageEntry) (start time : Nat) (rocof : Option Int) : Prop :=
  e.delay * 100000 ≤ time - start ∨ (0 < e.rocofLimit ∧ ∃ r, rocof = some r ∧ r ≤ -(e.rocofLimit : Int))

/-- What the table of R103 says of one enabled stage at the value `f` with edge time `time`; a disabled stage
keeps its record (R101). -/
def StageMovesTo (e : StageEntry) (old : StageRec) (fn f time : Nat) (rocof : Option Int) (new : StageRec) :
    Prop :=
  let threshold : Int := (fn : Int) - (e.offset : Int)
  (e.enabled = false → new = old)
  ∧ (e.enabled = true →
    (old.state = .idle → (f : Int) ≤ threshold →
      (stageFires e time time rocof → new = ⟨.fired, none⟩)
      ∧ (¬ stageFires e time time rocof → new = ⟨.timing, some time⟩))
    ∧ (old.state = .idle → threshold < (f : Int) → new = old)
    ∧ (old.state = .timing → threshold < (f : Int) → new = ⟨.idle, none⟩)
    ∧ (∀ start, old.state = .timing → old.start = some start → (f : Int) ≤ threshold →
      (stageFires e start time rocof → new = ⟨.fired, none⟩)
      ∧ (¬ stageFires e start time rocof → new = ⟨.timing, some start⟩))
    ∧ (old.state = .fired → threshold + 200 ≤ (f : Int) → new = ⟨.idle, none⟩)
    ∧ (old.state = .fired → (f : Int) < threshold + 200 → new = old))

/-- A ladder position lies in the protected region (R95). -/
abbrev InProtectedRegion (s : State) (position : Nat) : Prop :=
  if s.cfg.params[PROTECT_INV] = 1 then position < s.cfg.params[PROTECT_FROM]
  else s.cfg.params[PROTECT_FROM] ≤ position

/-- A walk of this reach may choose feeder `i` (R96): it is on the ladder, CLOSED and, for reach SHALLOW, outside
the protected region. -/
abbrev MayBeChosen (s : State) (reach : Reach) (i : Fin 16) : Prop :=
  s.cfg.feeders[i].enabled = true ∧ s.feeders[i].state = .closed
    ∧ (reach = .deep ∨ ¬ InProtectedRegion s s.cfg.feeders[i].position)

/-- The record of a feeder that a walk of this reach has tripped at `now` for `cause` (R92, R96). -/
def trippedRecord (cause : FeederCause) (reach : Reach) (now : Nat) : FeederRec :=
  ⟨.opening, cause, some (now + 4000000), some reach, true⟩

/-- A walk of width 1 turned the feeder records of `s` into `fs`: the feeder of the lowest position that may be
chosen is tripped, and `found` says whether there was one (R96). -/
def WalkedOnce (s : State) (reach : Reach) (cause : FeederCause) (now : Nat) (fs : Vector FeederRec 16)
    (found : Bool) : Prop :=
  (found = true ∧ ∃ j, MayBeChosen s reach j
      ∧ (∀ k, MayBeChosen s reach k → s.cfg.feeders[j].position ≤ s.cfg.feeders[k].position)
      ∧ fs = s.feeders.set j (trippedRecord cause reach now))
  ∨ (found = false ∧ (∀ j, ¬ MayBeChosen s reach j) ∧ fs = s.feeders)

/-- The settle timer and the hold record after a notice that ends the closing of feeder `i` (R127, R133); `full`
is the settle length that a closed notice starts, none at the other notices. -/
def AfterClosing (s : State) (i : Fin 16) (full : Option Nat) (now : Nat) (settle : Settle) (hold : Hold) :
    Prop :=
  let lastOne : Prop := ∀ j, j ≠ i → s.feeders[j].state ≠ .closing
  (s.hold.state = .pending ∧ lastOne →
    hold = { s.hold with state := .inEffect }
    ∧ settle = match full with
      | some length => .paused length
      | none => match s.settle with
        | .running ends => .paused (ends - now)
        | other => other)
  ∧ (¬ (s.hold.state = .pending ∧ lastOne) →
    hold = s.hold
    ∧ settle = match full with
      | some length => if s.hold.state = .inEffect then .paused length else .running (now + length)
      | none => s.settle)

/-- The Restoration Queue after feeder `i` is placed by a newly shed notice (R120), or in descending position
while the ordering mark is set (R121). -/
def PlacedNewlyShed (s : State) (i : Fin 16) (queue : List (Fin 16)) : Prop :=
  (s.ordering = false → s.cfg.params[RESTORE_ORDER] ≠ 1 → queue = i :: s.queue)
  ∧ (s.ordering = false → s.cfg.params[RESTORE_ORDER] = 1 → queue = s.queue ++ [i])
  ∧ (s.ordering = true → queue.Perm (i :: s.queue)
      ∧ (s.queue.Pairwise (fun a b => s.cfg.feeders[b].position ≤ s.cfg.feeders[a].position) →
        queue.Pairwise fun a b => s.cfg.feeders[b].position ≤ s.cfg.feeders[a].position))

/-- The record of feeder `i` after the open-all order (the table of R112). -/
def afterOpenAll (s : State) (i : Fin 16) (now : Nat) : FeederRec :=
  let r := s.feeders[i]
  if s.cfg.feeders[i].enabled = true then
    match r.state with
    | .closed => ⟨.opening, .blackstart, some (now + 4000000), none, true⟩
    | .closing | .openExt | .openHeld => ⟨.openShed, .blackstart, none, r.origin, true⟩
    | .disabled | .opening | .openShed | .stuckClosed | .stuckOpen => r
  else r

/-- The feeder report of an event that turned `u` into `t`: it is queued exactly when some feeder state has changed, as
a whole new report of the states in `t`, and the report count becomes 0 then; else count and report stand (R114). -/
def FeederReportFollows (u t : State) : Prop :=
  (t.feederStates ≠ u.feederStates → t.reportCount = 0 ∧ .feederReport (partsOf t.runs) 0 ∈ t.txQueue)
  ∧ (t.feederStates = u.feederStates → t.reportCount = u.reportCount
      ∧ t.txQueue.filter (fun f => f.key = .feederReport) = u.txQueue.filter fun f => f.key = .feederReport)

/-- The four orders of an entry into PREPARE turned `s` into `t` at `now` (R143): open-all (R112), queue rebuild
(R121), forced zero (R83) and stop-all (R61); the feeder report follows the feeder states (R114). -/
def PrepareOrdersGiven (s t : State) (now : Nat) : Prop :=
  t.mode = .blackstart ∧ t.seq.phase = .prepare ∧ t.seq.candidate = none ∧ t.seq.passedOver = []
  ∧ t.seq.block = none ∧ t.seq.trigger = none
  ∧ (∀ i : Fin 16, t.feeders[i] = afterOpenAll s i now)
  ∧ t.ordering = true
  ∧ (∀ i : Fin 16, i ∈ t.queue ↔ i ∈ s.queue ∨ (s.cfg.feeders[i].enabled = true
      ∧ (s.feeders[i].state = .closing ∨ s.feeders[i].state = .openExt ∨ s.feeders[i].state = .openHeld)))
  ∧ t.queue.Pairwise (fun a b => s.cfg.feeders[b].position ≤ s.cfg.feeders[a].position)
  ∧ t.hold = ⟨.none, none, none, none⟩ ∧ t.settle = .stopped ∧ t.blocked = none
  ∧ t.forcedZero = true ∧ t.freshStart = false ∧ t.pvReached = false ∧ t.aggU = 0
  ∧ (∀ p : Fin 4, 0 < s.cfg.pv[p].rating →
      t.plants[p].allotment = 0 ∧ t.plants[p].allotCause = .blackstart ∧ t.plants[p].sent = 0
      ∧ t.plants[p].sentCause = .blackstart ∧ t.plants[p].lastQueued = 0)
  ∧ t.shortfall = none ∧ t.surplus = none
  ∧ (∀ i : Fin 8, 0 < s.cfg.roster[i].rating →
      t.sets[i].state = match s.sets[i].state with
        | .starting => .stopped
        | .online => stateAtRest (30 * s.cfg.roster[i].minDown)
        | .unknown => .unknown | .stopped => .stopped | .stopping => .stopping | .resting => .resting
        | .failed => .failed | .unavailable => .unavailable)
  ∧ FeederReportFollows s t

/-- Some feeder is OPENING once the open-all order has been taken, so that PREPARE does not end at its entry
(R144). -/
abbrev SomeFeederOpens (s : State) : Prop :=
  ∃ i : Fin 16, s.feeders[i].state = .opening
    ∨ (s.cfg.feeders[i].enabled = true ∧ s.feeders[i].state = .closed)

/-! ## Time: what an idle step raises -/

/-- The expiries of the running device that are due one count after `s` (R8, R9, R16, R40, R42 to R45, R62, R92,
R127, R135, R140, R172, R180). -/
def ExpiryDueAfterTick (s : State) (c : Instr) : Prop :=
  let now := s.clk + 1
  (c = .lossExpiry 0 ∧ (s.meter.state = .acquiring ∨ s.meter.state = .valid)
      ∧ ∃ e, s.meter.elapsed = some e ∧ 250000 < e + 1)
  ∨ (c = .deadExpiry 0 ∧ s.meter.state = .lost ∧ ∃ e, s.meter.elapsed = some e ∧ 1000000 < e + 1)
  ∨ (c = .startUpWait 0 ∧ s.meter.state = .noSignal ∧ ∃ w, s.meter.waitFrom = some w ∧ 1000000 < now - w)
  ∨ (c = .tbalExpiry 0 ∧ ∃ due, s.tbalEnds = some due ∧ due ≤ now)
  ∨ (∃ i : Fin 16, c = .breakerTimerExpiry i 0 ∧ ∃ due, s.feeders[i].timer = some due ∧ due ≤ now)
  ∨ (∃ i : Fin 8,
      (c = .lostTimerExpiry i 0 ∧ ∃ due, s.sets[i].lostTimer = some due ∧ due ≤ now)
      ∨ (c = .startTimerExpiry i 0 ∧ s.sets[i].state = .starting
          ∧ ∃ due, s.sets[i].startTimer = some due ∧ due ≤ now)
      ∨ (c = .stopTimerExpiry i 0 ∧ s.sets[i].state = .stopping
          ∧ ∃ due, s.sets[i].stopTimer = some due ∧ due ≤ now)
      ∨ (c = .minimumRunExpiry i 0 ∧ ∃ due, s.sets[i].minRun = .running due ∧ due ≤ now)
      ∨ (c = .minimumDownExpiry i 0 ∧ s.sets[i].state = .resting
          ∧ ∃ due, s.sets[i].minDown = some due ∧ due ≤ now)
      ∨ (c = .deadBusStartTimerExpiry i 0 ∧ s.sets[i].mark = true
          ∧ ∃ due, s.sets[i].deadBusTimer = some due ∧ due ≤ now))
  ∨ (c = .settleExpiry 0 ∧ ∃ due, s.settle = .running due ∧ due ≤ now)
  ∨ (c = .tholdmaxExpiry 0 ∧ s.hold.state ≠ .none ∧ ∃ due, s.hold.maxEnds = some due ∧ due ≤ now)
  ∨ (c = .tholdgapEnd 0 ∧ ∃ due, s.hold.gapEnds = some due ∧ due ≤ now)
  ∨ (c = .triggerTimerExpiry 0 ∧ ∃ due, s.seq.trigger = some due ∧ due ≤ now)
  ∨ (c = .idleExpiry 0 ∧ ∃ w, s.window = some w ∧ w.idleEnds ≤ now)
  ∨ (c = .endOfTheWrite 0 ∧ ∃ w, s.save = some w ∧ w.began + 5000000 ≤ now)

/-! ## Start and stop rules, as the statements read them -/

/-- A configured set in this runtime state. -/
abbrev SetIs (s : State) (state : SetState) (i : Fin 8) : Prop :=
  0 < s.cfg.roster[i].rating ∧ s.sets[i].state = state

/-- How many configured sets are in this runtime state. -/
def countSets (s : State) (state : SetState) : Nat := (indices 8).countP fun i => decide (SetIs s state i)

/-- RR_eff: the required reserve, and with RESTORE_START on the step load of a head blocked on reserve (R52). -/
def effectiveReserve (s : State) (r : BalanceRecord) : Nat :=
  match s.blocked with
  | some b => if s.cfg.params[RESTORE_START] = 1 then r.rr + b.eHead else r.rr
  | none => r.rr

/-- The island is short: RR_eff − SR − C_start > 0 (R53). -/
abbrev IslandShort (s : State) (r : BalanceRecord) : Prop := r.sr + r.cStart < effectiveReserve s r

/-- The start rule is evaluated: in DISPATCH, and in BLACKSTART in RESTORE and PV_RETURN (R51). -/
abbrev StartRuleRuns (s : State) : Prop :=
  s.mode = .dispatch ∨ (s.mode = .blackstart ∧ (s.seq.phase = .restore ∨ s.seq.phase = .pvReturn))

/-- Set `i` is the one of `p` with the lowest priority number. -/
abbrev LowestPriority (s : State) (p : Fin 8 → Prop) (i : Fin 8) : Prop :=
  p i ∧ ∀ j, p j → j ≠ i → s.cfg.roster[i].priority < s.cfg.roster[j].priority

/-- Set `i` is the one of `p` with the highest priority number. -/
abbrev HighestPriority (s : State) (p : Fin 8 → Prop) (i : Fin 8) : Prop :=
  p i ∧ ∀ j, p j → j ≠ i → s.cfg.roster[j].priority < s.cfg.roster[i].priority

/-- A STOPPING set whose latest report is ON_BUS, which a start redirects (R55). -/
abbrev MayBeRedirected (s : State) (i : Fin 8) : Prop :=
  SetIs s .stopping i ∧ ∃ slot, s.setSlots[i] = some slot ∧ slot.state = .onBus

/-- The runtime record of a set whose directive is derived again: its sequence is raised exactly when the value
changes (R48, R49). -/
def SetRec.directed (r : SetRec) (d : Directive) : SetRec :=
  { r with directive := d, dirSeq := r.dirSeq + if d = r.directive then 0 else 1 }

/-- A set that a start has put into STARTING under its own start timer (R55, R63). -/
def startedSet (s : State) (i : Fin 8) : SetRec :=
  SetRec.directed { s.sets[i] with
    state := .starting, startTimer := some (s.clk + 50000000 * s.cfg.roster[i].startTimeout), minDown := none }
    (wantedDirective s.mode .starting s.sets[i].mark)

/-- The island has a surplus for the stop candidate `c`: the projection of R57 under the test of R58. -/
def HasSurplus (s : State) (r : BalanceRecord) (c : Fin 8) : Prop :=
  let cOn := r.cOn - s.cfg.roster[c].rating
  let dmin := (cOn * s.cfg.params[MINLOAD] + 99) / 100
  let q := min r.a (r.l - dmin)
  let d := r.l - q
  let room : Nat → Prop := fun term =>
    term + s.cfg.params[RES_MARGIN] + s.cfg.params[STOP_HYST] ≤ cOn - d
  d ≤ cOn ∧ room ((s.cfg.params[PVLOSS] * q + 99) / 100)
    ∧ (s.cfg.params[N1_COVER] = 1 → 3 ≤ countSets s .online → ∀ k, SetIs s .online k → k ≠ c →
        room ((d * s.cfg.roster[k].rating + (cOn - 1)) / cOn))

/-- A set that the stop rule may choose: ONLINE, with no stale mark in the record, the STALE flag clear and the
minimum run ELAPSED (R56). -/
abbrev MayBeStopped (s : State) (r : BalanceRecord) (i : Fin 8) : Prop :=
  SetIs s .online i ∧ (∀ e ∈ r.sets, e.index = i → e.stale = false) ∧ s.sets[i].stale = false
    ∧ s.sets[i].minRun = .elapsed

/-- The stop rule is evaluated (R51, R56). -/
abbrev StopRuleRuns (s : State) (r : BalanceRecord) : Prop :=
  s.mode = .dispatch ∧ (∀ i, ¬ SetIs s .starting i ∧ ¬ SetIs s .stopping i) ∧ s.queue = []
    ∧ 2 ≤ countSets s .online ∧ ¬ IslandShort s r

/-- The condition of the reserve shed at a publication in DISPATCH (R108). -/
abbrev ReserveShort (s : State) (r : BalanceRecord) : Prop :=
  s.mode = .dispatch ∧ r.sr < s.cfg.params[SHED_FLOOR] ∧ (∃ i, SetIs s .online i)
    ∧ (∀ i, ¬ SetIs s .starting i) ∧ ∀ i, ¬ SetIs s .stopped i

/-! ## The sequencer, as the statements read it -/

/-- A first-set candidate: a configured capable set in STOPPED or RESTING (R145). -/
abbrev FirstSetCandidate (s : State) (i : Fin 8) : Prop :=
  0 < s.cfg.roster[i].rating ∧ s.cfg.roster[i].capable = true
    ∧ (s.sets[i].state = .stopped ∨ s.sets[i].state = .resting)

/-- A set under the dead-bus start order given at `now` (R62, R145). -/
def deadBusSet (s : State) (i : Fin 8) (now : Nat) : SetRec :=
  SetRec.directed { s.sets[i] with
    state := .starting, minDown := none, mark := true
    deadBusTimer := some (now + 10000000 * s.cfg.params[BS_START_TIMEOUT]) } .runDeadbus

/-- An event can pass by the sequencer without a change of phase at its end: no sequence runs and none can begin, or
one runs and its PREPARE, if it is in PREPARE, still has a feeder OPENING (R140, R144). -/
abbrev SequencerListens (s : State) : Prop :=
  NoSequence s ∨ (s.mode = .blackstart ∧ s.seq.phase ≠ .none
    ∧ (s.seq.phase = .prepare → ∃ i : Fin 16, s.feeders[i].state = .opening))

/-- The event that has made the state `u` goes on with the sequencer's looks in FIRST_SET and ADD_SETS
(FirstSetIsFormedLostOrAwaited, SequenceGoesOnToItsCompletion) and ends at `t`; in every other phase it ends at `u`. -/
def SequencerLooks (u t : State) : Prop :=
  (u.seq.phase ≠ .firstSet → u.seq.phase ≠ .addSets → t = u)
  ∧ t = { u.firstSetCheck.addSetsCheck with alertPin := u.firstSetCheck.addSetsCheck.alertSet.any }

/-! ## What an event leaves alone -/

/-- The state `t` is `u` at the end of an event that began at `s`, with no sequence running: the trigger timer is
clear (R140), a feeder report is queued when a feeder state has changed (R114), and ALERT follows the alert set
(R168). -/
def EndsAs (s u t : State) : Prop :=
  t = { u with
    seq := { u.seq with trigger := none }
    txQueue := if u.feederStates = s.feederStates then u.txQueue
      else enqueue u.txQueue (.feederReport (partsOf u.runs) 0)
    reportCount := if u.feederStates = s.feederStates then u.reportCount else 0
    alertPin := u.alertSet.any }

/-- An event on set `i` turned `u` into `t` with no sequence running: no other set and no other field moves, and
the set's SET_DIRECTIVE is queued with a raised sequence exactly when its directive changed (R49). -/
def OneSetMoves (u t : State) (i : Fin 8) : Prop :=
  t = { u with
    sets := t.sets, txQueue := t.txQueue, seq := { u.seq with trigger := none }, alertPin := t.alertSet.any }
  ∧ (∀ j, j ≠ i → t.sets[j] = u.sets[j])
  ∧ (t.sets[i].directive = u.sets[i].directive →
      t.sets[i].dirSeq = u.sets[i].dirSeq ∧ t.txQueue = u.txQueue)
  ∧ (t.sets[i].directive ≠ u.sets[i].directive →
      t.sets[i].dirSeq = u.sets[i].dirSeq + 1
      ∧ t.txQueue = enqueue u.txQueue
          (.setDirective i u.cfg.roster[i].address t.sets[i].directive t.sets[i].dirSeq))

/-- An event on feeders turned `u` into `t`: only the fields named here can have moved, and without a running
sequence only the feeder records, the Restoration Queue, the settle timer, the hold, SHED_EXHAUSTED, the feeder
report and ALERT; the feeder report follows the feeder states. -/
def FeederEventFrame (u t : State) : Prop :=
  t = { u with
    feeders := t.feeders, queue := t.queue, settle := t.settle, hold := t.hold, exhausted := t.exhausted
    txQueue := t.txQueue, reportCount := t.reportCount, alertPin := t.alertPin, seq := t.seq, sets := t.sets
    mode := t.mode, shortfall := t.shortfall, surplus := t.surplus, reserveShed := t.reserveShed
    ordering := t.ordering, forcedZero := t.forcedZero }
  ∧ (u.seq.phase = .none → t = { t with
      seq := { u.seq with trigger := none }, sets := u.sets, mode := u.mode, shortfall := u.shortfall
      surplus := u.surplus, reserveShed := u.reserveShed, ordering := u.ordering
      forcedZero := u.forcedZero })
  ∧ FeederReportFollows u t

/-- An event turned `u` into `t` and touched nothing outside the blocks that act on the island: no configuration,
slot, record, pin, lane, window, store or buffer. -/
def IslandEventFrame (u t : State) : Prop :=
  t = { u with
    sets := t.sets, shortfall := t.shortfall, surplus := t.surplus, plants := t.plants, aggU := t.aggU
    freshStart := t.freshStart, forcedZero := t.forcedZero, pvReached := t.pvReached, feeders := t.feeders
    stages := t.stages, exhausted := t.exhausted, reserveShed := t.reserveShed, notedMeter := t.notedMeter
    reportCount := t.reportCount, queue := t.queue, settle := t.settle, restoreDelay := t.restoreDelay
    blocked := t.blocked, hold := t.hold, ordering := t.ordering, seq := t.seq, mode := t.mode
    txQueue := t.txQueue, alertPin := t.alertPin, meter := t.meter }

/-- A meter event that carries no frequency turned `s` into `t`: every TIMING stage is IDLE, SHED_EXHAUSTED is cleared
when that leaves every stage IDLE and stands otherwise, no plant has a limit, and the restore-delay timer stands (R76,
R99, R106). With no sequence running and no automatic one possible no feeder moves. -/
def StagesWithdrawn (s t : State) : Prop :=
  (∀ k : Fin 8, t.stages[k] = if s.stages[k].state = .timing then ⟨.idle, none⟩ else s.stages[k])
  ∧ t.exhausted = (if (∃ k : Fin 8, s.stages[k].state = .timing) ∧ ∀ k : Fin 8, s.stages[k].state ≠ .fired then false
      else s.exhausted)
  ∧ (∀ p : Fin 4, t.plants[p].lim = none)
  ∧ t.restoreDelay = s.restoreDelay
  ∧ (s.seq.phase = .none → (s.mode = .dispatch → s.cfg.params[AUTO_BS] ≠ 1) →
      t.feeders = s.feeders ∧ t.queue = s.queue ∧ t.settle = s.settle ∧ t.hold = s.hold)

/-- An event that is no meter event turned `s` into `t`: the stages, SHED_EXHAUSTED, the restore-delay timer, the
feeders and the plants stand (R13, R102). -/
def StagesStand (s t : State) : Prop :=
  t.stages = s.stages ∧ t.exhausted = s.exhausted ∧ t.restoreDelay = s.restoreDelay ∧ t.feeders = s.feeders
    ∧ t.plants = s.plants

/-- A rising edge after `dt` counts ends a period `e` that gives a frequency value (R6). -/
def GivesValue (s : State) (dt e : Nat) : Prop :=
  s.power = .running ∧ (s.meter.elapse dt).elapsed = some e ∧ 142858 ≤ e ∧ e ≤ 250000
    ∧ (s.meter.state = .valid ∨ (s.meter.state = .acquiring ∧ 3 ≤ s.meter.acqCount))

/-- The Transmit Queue after a reply is queued (R162, R185). -/
def withReply (s : State) (rx : Rx) (code : BitVec 5) (result : Result) (data : List Byte) : List Frame :=
  enqueue s.txQueue (.reply rx.src.toNat code result data)

/-- A reply as it waits in the Transmit Queue. -/
def ReplyWaits (t : State) (rx : Rx) (code : BitVec 5) (result : Result) (data : List Byte) : Prop :=
  Frame.reply rx.src.toNat code result data ∈ t.txQueue

/-- A waiting frame stays in the Transmit Queue at a commit of this table: all of them but the SET_DIRECTIVE and the
PV_CEILING of an entry whose address changes or whose rating becomes 0, and a REPLY to an address that is neither a
supervisor's nor a configured roster entry's any longer (R185). -/
def staysAtCommit (s : State) (table : Staging) (f : Frame) : Bool :=
  match table with
  | .roster roster =>
    match f with
    | .setDirective i _ _ _ => decide (roster[i].address = s.cfg.roster[i].address ∧ 0 < roster[i].rating)
    | .reply dest _ _ _ =>
      decide (dest = 1 ∨ dest = 2 ∨ ∃ i : Fin 8, 0 < roster[i].rating ∧ roster[i].address = dest)
    | .statusA _ | .statusB .. | .pvCeiling .. | .feederReport .. => true
  | .pv pv =>
    match f with
    | .pvCeiling p _ _ _ => decide (pv[p].address = s.cfg.pv[p].address ∧ 0 < pv[p].rating)
    | .statusA _ | .statusB .. | .setDirective .. | .feederReport .. | .reply .. => true
  | .feeder _ | .stage _ => true

/-- Every field of the Settings fits the bytes the store image gives it (R178, R188). -/
def SettingsFit (c : Settings) : Prop :=
  (∀ i : Fin 8, c.roster[i].address < 256 ∧ c.roster[i].rating < 65536 ∧ c.roster[i].priority < 16
    ∧ c.roster[i].minRun < 256 ∧ c.roster[i].minDown < 256 ∧ c.roster[i].startTimeout < 256)
  ∧ (∀ p : Fin 4, c.pv[p].address < 256 ∧ c.pv[p].rating < 65536)
  ∧ (∀ i : Fin 16, c.feeders[i].position < 32 ∧ c.feeders[i].load < 65536)
  ∧ (∀ k : Fin 8, c.stages[k].width < 8 ∧ c.stages[k].offset < 65536 ∧ c.stages[k].delay < 65536
    ∧ c.stages[k].rocofLimit < 65536)

end Machine

/-! ## The columns of the table of 8.4 -/

/-- The frame a frame command arrives with. -/
def Instr.rx? : Instr → Option Rx
  | .setReport rx _ _ | .pvReport rx _ _ | .entryData rx _ | .frameOfOtherKind rx _ _ => some rx
  | .unknownRequestCode rx _ => some rx
  | .resumeDispatch rx | .enterObserve rx | .blackStart rx | .holdRestoration rx => some rx
  | .resumeRestoration rx | .shedStep rx | .openFeeder rx _ | .restoreFeeder rx _ => some rx
  | .clearSetFault rx _ | .clearFeederFault rx _ | .setParameter rx _ _ | .readParameter rx _ => some rx
  | .readEntry rx _ | .windowOpen rx _ _ _ | .windowCloseDiscard rx _ | .windowCloseCommit rx => some rx
  | .saveSettings rx | .setLock rx | .clearLock rx | .softReset rx | .cycleReset rx => some rx
  | .powerOnReset .. | .resetnAssert .. | .resetnRelease .. | .endOfStartUp .. => none
  | .gtickRisingEdge .. | .lossExpiry .. | .deadExpiry .. | .startUpWait .. | .tbalExpiry .. => none
  | .fstatChange .. | .breakerTimerExpiry .. | .mshedEdge .. | .bsabortEdge .. => none
  | .cfglockChange .. | .laneChange .. | .lostTimerExpiry .. | .startTimerExpiry .. => none
  | .stopTimerExpiry .. | .minimumRunExpiry .. | .minimumDownExpiry .. => none
  | .deadBusStartTimerExpiry .. | .settleExpiry .. | .tholdmaxExpiry .. | .tholdgapEnd .. => none
  | .triggerTimerExpiry .. | .idleExpiry .. | .endOfTheWrite .. => none
  | .take .. | .frameSent .. | .offeredAgain .. => none

/-- The request code of a request the device knows (11.5.2). -/
def Instr.code? : Instr → Option (BitVec 5)
  | .resumeDispatch _ => some 0x01 | .enterObserve _ => some 0x02 | .blackStart _ => some 0x03
  | .holdRestoration _ => some 0x04 | .resumeRestoration _ => some 0x05 | .shedStep _ => some 0x06
  | .openFeeder _ _ => some 0x07 | .restoreFeeder _ _ => some 0x08 | .clearSetFault _ _ => some 0x09
  | .clearFeederFault _ _ => some 0x0A | .setParameter _ _ _ => some 0x0B | .readParameter _ _ => some 0x0C
  | .readEntry _ _ => some 0x0D | .windowOpen _ _ _ _ => some 0x0E
  | .windowCloseDiscard _ _ => some 0x0F | .windowCloseCommit _ => some 0x0F
  | .saveSettings _ => some 0x10 | .setLock _ => some 0x11 | .clearLock _ => some 0x12
  | .softReset _ => some 0x13 | .cycleReset _ => some 0x14
  | .powerOnReset .. | .resetnAssert .. | .resetnRelease .. | .endOfStartUp .. => none
  | .gtickRisingEdge .. | .lossExpiry .. | .deadExpiry .. | .startUpWait .. | .tbalExpiry .. => none
  | .fstatChange .. | .breakerTimerExpiry .. | .mshedEdge .. | .bsabortEdge .. => none
  | .cfglockChange .. | .laneChange .. | .lostTimerExpiry .. | .startTimerExpiry .. => none
  | .stopTimerExpiry .. | .minimumRunExpiry .. | .minimumDownExpiry .. => none
  | .deadBusStartTimerExpiry .. | .settleExpiry .. | .tholdmaxExpiry .. | .tholdgapEnd .. => none
  | .triggerTimerExpiry .. | .idleExpiry .. | .endOfTheWrite .. => none
  | .take .. | .frameSent .. | .offeredAgain .. => none
  | .setReport .. | .pvReport .. | .entryData .. | .frameOfOtherKind .. | .unknownRequestCode .. => none

/-- The kind and the data bytes of a frame command, by the table of 11.5.2. -/
def Instr.frame? : Instr → Option (BitVec 5 × List Byte)
  | .setReport _ code output => some (0x08, code :: be16 output.toNat)
  | .pvReport _ output available => some (0x09, be16 output.toNat ++ be16 available.toNat)
  | .entryData _ data => some (0x0B, data)
  | .frameOfOtherKind _ kind data => some (kind, data)
  | .unknownRequestCode _ code => some (0x0A, [code])
  | .resumeDispatch _ => some (0x0A, [0x01]) | .enterObserve _ => some (0x0A, [0x02])
  | .blackStart _ => some (0x0A, [0x03]) | .holdRestoration _ => some (0x0A, [0x04])
  | .resumeRestoration _ => some (0x0A, [0x05]) | .shedStep _ => some (0x0A, [0x06])
  | .openFeeder _ index => some (0x0A, [0x07, index]) | .restoreFeeder _ index => some (0x0A, [0x08, index])
  | .clearSetFault _ index => some (0x0A, [0x09, index])
  | .clearFeederFault _ index => some (0x0A, [0x0A, index])
  | .setParameter _ number value => some (0x0A, 0x0B :: number :: be16 value.toNat)
  | .readParameter _ number => some (0x0A, [0x0C, number])
  | .readEntry _ selector => some (0x0A, [0x0D, selector])
  | .windowOpen _ table first last => some (0x0A, [0x0E, table, first, last])
  | .windowCloseDiscard _ argument => some (0x0A, [0x0F, argument])
  | .windowCloseCommit _ => some (0x0A, [0x0F, 0x01])
  | .saveSettings _ => some (0x0A, [0x10]) | .setLock _ => some (0x0A, [0x11])
  | .clearLock _ => some (0x0A, [0x12]) | .softReset _ => some (0x0A, [0x13])
  | .cycleReset _ => some (0x0A, [0x14])
  | .powerOnReset .. | .resetnAssert .. | .resetnRelease .. | .endOfStartUp .. => none
  | .gtickRisingEdge .. | .lossExpiry .. | .deadExpiry .. | .startUpWait .. | .tbalExpiry .. => none
  | .fstatChange .. | .breakerTimerExpiry .. | .mshedEdge .. | .bsabortEdge .. => none
  | .cfglockChange .. | .laneChange .. | .lostTimerExpiry .. | .startTimerExpiry .. => none
  | .stopTimerExpiry .. | .minimumRunExpiry .. | .minimumDownExpiry .. => none
  | .deadBusStartTimerExpiry .. | .settleExpiry .. | .tholdmaxExpiry .. | .tholdgapEnd .. => none
  | .triggerTimerExpiry .. | .idleExpiry .. | .endOfTheWrite .. => none
  | .take .. | .frameSent .. | .offeredAgain .. => none

/-- The requests that a genset controller may send, by their codes (8.4). -/
def codesForGensets : List (BitVec 5) := [0x04, 0x05, 0x0C, 0x0D]

/-- The requests that the lock governs, by their codes (8.4, R177). -/
def codesUnderLock : List (BitVec 5) := [0x0B, 0x0E, 0x10, 0x12, 0x13]

/-- The requests refused while a save runs, by their codes (8.4, R180). -/
def codesBusyInSave : List (BitVec 5) := [0x0E, 0x10, 0x11, 0x12]

/-- The requests refused in BLACKSTART (8.4, R154). -/
def Instr.refusedInBlackStart : Instr → Bool
  | .resumeDispatch _ | .enterObserve _ | .blackStart _ | .windowOpen .. | .windowCloseCommit _
  | .softReset _ => true
  | .holdRestoration _ | .resumeRestoration _ | .shedStep _ | .openFeeder .. | .restoreFeeder .. => false
  | .clearSetFault .. | .clearFeederFault .. | .setParameter .. | .readParameter .. | .readEntry .. => false
  | .windowCloseDiscard .. | .saveSettings _ | .setLock _ | .clearLock _ | .cycleReset _ => false
  | .powerOnReset .. | .resetnAssert .. | .resetnRelease .. | .endOfStartUp .. => false
  | .gtickRisingEdge .. | .lossExpiry .. | .deadExpiry .. | .startUpWait .. | .tbalExpiry .. => false
  | .fstatChange .. | .breakerTimerExpiry .. | .mshedEdge .. | .bsabortEdge .. => false
  | .cfglockChange .. | .laneChange .. | .lostTimerExpiry .. | .startTimerExpiry .. => false
  | .stopTimerExpiry .. | .minimumRunExpiry .. | .minimumDownExpiry .. => false
  | .deadBusStartTimerExpiry .. | .settleExpiry .. | .tholdmaxExpiry .. | .tholdgapEnd .. => false
  | .triggerTimerExpiry .. | .idleExpiry .. | .endOfTheWrite .. => false
  | .take .. | .frameSent .. | .offeredAgain .. => false
  | .setReport .. | .pvReport .. | .entryData .. | .frameOfOtherKind .. | .unknownRequestCode .. => false

end Sys2Proof
end

