-- ==== Sys2Proof/Certificates/Slice0/Obligations.lean ====
section
/-! DEFINITION. The statements for the provers: what a step, the commands and the shared operations of the block
do, and the promises that every step keeps. Each docstring names the rules it rests on; where a statement rests on
a choice of the model, it names the log entry. -/

section

open Sys2Proof Sys2Proof.Machine

/-! ## Steps -/

/-- The command at the front of the queue is the one that runs, with the queue's rest (the row's form of a
block). -/
def Obligations.StepRunsFrontCommand : Prop :=
  ∀ (s : State) (c : Instr) (rest : List Instr),
    step { s with pending := c :: rest } = exec c { s with pending := rest }

/-- On an empty queue one CLKIN count passes, and the commands then in the queue are exactly the expiries that are due,
each once and with no time before it, in some order: every expiry of the running device (ExpiryDueAfterTick: the loss,
dead and start-up-wait expiries of the meter, tBAL, the breaker timers, the six timers of a set, settle, tHOLDMAX,
tHOLDGAP, trigger, idle and the end of the write), and during start-up its end. Nothing else is queued (that an idle step
raises them is the model's choice, log 3; the due times are those of R8, R9, R16, R39, R40, R42 to R44, R62, R92, R127,
R135, R140, R172, R178 and R180). -/
def Obligations.IdleStepRaisesDueExpiries : Prop :=
  ∀ (s : State),
    s.pending = [] →
    ∃ t, step s = .next t
      ∧ t = { s.elapse 1 with pending := t.pending }
      ∧ t.pending.Nodup
      ∧ (∀ c, c ∈ t.pending ↔
          (s.power = .running ∧ ExpiryDueAfterTick s c)
          ∨ (s.power = .startUp ∧ c = .endOfStartUp 0 ∧ s.startBegan + 500000 ≤ s.clk + 1))

/-- Every command completes in every state: it answers a next state, leaves the waiting commands alone, and lets
its `dt` counts pass (the time base is the model's, log 1). -/
def Obligations.EveryCommandAnswersNext : Prop :=
  ∀ (s : State) (c : Instr),
    ∃ t, exec c s = .next t ∧ t.pending = s.pending ∧ t.clk = s.clk + c.dt

/-- R1: FSEL is sampled at power-on reset and at the release of RESETn and nowhere else, Soft Reset and Cycle Reset
leave fn unchanged, and what the meter does is the same for both values of fn. -/
def Obligations.NominalFrequencyIsHeld : Prop :=
  ∀ (s : State) (c : Instr) (fsel : Bool) (dt x : Nat),
    (∃ t, exec (.powerOnReset fsel dt) s = .next t ∧ t.fn = if fsel = true then 60000 else 50000)
    ∧ (s.pins.resetn = false →
        ∃ t, exec (.resetnRelease fsel dt) s = .next t ∧ t.fn = if fsel = true then 60000 else 50000)
    ∧ ((∀ f d, c ≠ .powerOnReset f d) → (∀ f d, c = .resetnRelease f d → s.pins.resetn = true) →
        ∃ t, exec c s = .next t ∧ t.fn = s.fn)
    ∧ (∃ t u, exec c s = .next t ∧ exec c { s with fn := x } = .next u ∧ u.meter = t.meter)

/-! ## Promises that every step keeps -/

/-- R90: FEED is asserted exactly in OPENING, OPEN_SHED, OPEN_HELD and STUCK_CLOSED, and outside running every FEED
line is released; every step keeps it. -/
def Obligations.FeedAlwaysFollowsFeederState : Prop :=
  ∀ (s t : State),
    FeedFollowsState s → step s = .next t → FeedFollowsState t

/-- Every step keeps each of these records consistent: the feeder records (R89, R92: the breaker timer runs exactly in
OPENING and CLOSING, the cause is NONE in CLOSED, OPEN_EXT and DISABLED), the runtime records (R35, R39, R40, R42,
R43, R45, R62: timers, flags and fault causes in the states they belong to), the meter record (R3, R10, R12), and the
hold record with the settle timer (R127, R131). -/
def Obligations.RecordsStayConsistent : Prop :=
  ∀ (s t : State),
    (FeederRecordsAgree s → step s = .next t → FeederRecordsAgree t)
    ∧ (SetRecordsAgree s → step s = .next t → SetRecordsAgree t)
    ∧ (MeterRecordAgrees s → step s = .next t → MeterRecordAgrees t)
    ∧ (HoldRecordAgrees s → step s = .next t → HoldRecordAgrees t)

/-- R119: a feeder is in the Restoration Queue exactly when its state is OPEN_SHED, at one place; every step keeps
it, and with it the bound of sixteen entries (and that the DISABLED feeders are those of the disabled entries,
R88). -/
def Obligations.QueueAlwaysHoldsExactlyShedFeeders : Prop :=
  ∀ (s t : State),
    QueueHoldsShedFeeders s → step s = .next t → QueueHoldsShedFeeders t ∧ t.queue.length ≤ 16

/-- R185: no step makes the Transmit Queue hold two entries with the same key, nor more than 25 entries; replies wait only
for addresses that have a reply key. A frame queued under a key that waits already takes the place of that frame, between
the same neighbours, and a frame with a new key joins the tail. -/
def Obligations.TransmitQueueKeysStayDistinct : Prop :=
  ∀ (s t : State) (f : Frame),
    (QueueKeysDistinct s → step s = .next t → QueueKeysDistinct t ∧ t.txQueue.length ≤ 25)
    ∧ (∀ before old after, s.txQueue = before ++ old :: after → QueueKeysDistinct s → old.key = f.key →
        (s.send f).txQueue = before ++ f :: after)
    ∧ (f.key ∉ s.txQueue.map Frame.key → (s.send f).txQueue = s.txQueue ++ [f])
    ∧ s.send f = { s with txQueue := enqueue s.txQueue f }

/-- R168: ALERT is high exactly while the alert set is non-empty, and low outside running; every step keeps it. -/
def Obligations.AlertAlwaysFollowsAlertSet : Prop :=
  ∀ (s t : State),
    AlertFollowsSet s → step s = .next t → AlertFollowsSet t

/-- R138, R140: every step keeps the mode BLACKSTART exactly while the phase is not NONE, the sequence fields clear
outside a sequence, and the trigger timer running in DISPATCH only. R145: a set carries the dead-bus mark only in
FIRST_SET and only as the candidate, so at most one set does; every step keeps it, together with the two promises it
leans on. R140, R139: while the device runs the trigger timer is set exactly while the mode is DISPATCH, AUTO_BS is on
and the black-start conditions hold; every step keeps it, so it is started and cleared at the events that change one of
the three, automatic starts included. -/
def Obligations.ModeAndMarkAlwaysMatchThePhase : Prop :=
  ∀ (s t : State),
    (ModeMatchesPhase s → step s = .next t → ModeMatchesPhase t)
    ∧ (ModeMatchesPhase s → SetRecordsAgree s → MarkIsCandidate s → step s = .next t →
        MarkIsCandidate t ∧ ∀ i j : Fin 8, t.sets[i].mark = true → t.sets[j].mark = true → i = j)
    ∧ (ModeMatchesPhase s → TriggerFollowsConditions s → step s = .next t →
        TriggerFollowsConditions t)

/-- R48: every step keeps the directive of every configured set at the one its state, its mark and the mode
give. -/
def Obligations.DirectivesAlwaysFollowStates : Prop :=
  ∀ (s t : State),
    DirectivesFollowStates s → step s = .next t → DirectivesFollowStates t

/-- Every step keeps every allotment and every sent ceiling of a configured plant between 0 and its rating (R69, R78), and
every live and pending parameter value in its range (R176, R178). -/
def Obligations.ValuesStayInRange : Prop :=
  ∀ (s t : State),
    (CeilingsWithinRatings s → step s = .next t → CeilingsWithinRatings t)
    ∧ (ParametersInRange s → step s = .next t → ParametersInRange t)

/-- The state after power-on reset keeps every promise, and holds the values that R3, R29, R35, R90, R102, R118,
R138, R168 and R181 give for start-up. -/
def Obligations.ResetMeetsEveryPromise : Prop :=
  Safe State.reset
  ∧ State.reset.power = .startUp ∧ State.reset.meter = ⟨.noSignal, none, 0, [], [], none, none, none⟩
  ∧ State.reset.tbalEnds = none ∧ State.reset.record = none ∧ State.reset.cycle = 0
  ∧ State.reset.txBuffer = none ∧ State.reset.alertPin = false ∧ State.reset.exhausted = false
  ∧ State.reset.queue = [] ∧ State.reset.settle = .stopped ∧ State.reset.restoreDelay = none
  ∧ State.reset.blocked = none ∧ State.reset.hold = ⟨.none, none, none, none⟩ ∧ State.reset.ordering = false
  ∧ State.reset.seq.phase = .none ∧ State.reset.seq.attempts = 0 ∧ State.reset.seq.failed = false
  ∧ (∀ i : Fin 8, State.reset.sets[i].state = .unknown ∧ State.reset.sets[i].attempts = 0
      ∧ State.reset.sets[i].dirSeq = 0)
  ∧ (∀ k : Fin 8, State.reset.stages[k] = ⟨.idle, none⟩)
  ∧ (∀ i : Fin 16, State.reset.feeders[i].feed = false)

/-! ## Resets, start-up and the store -/

/-- R181, R180: POWER_ON_RESET, RESETN_ASSERT and RESETN_RELEASE put every block at its power-on value, which is the
state `State.reset`: the values it holds during start-up that no rule gives are the model's (logs 8, 9 and 45). The pins, the
non-volatile image, the count and the waiting commands are what a reset does not reach. RESETn held low keeps the device
at the start of start-up, and a RESETn command that changes no level lets only time pass (log 2). R181, with R15, R16,
R65, R69, R70, R115, R118, R138, R157, R168 and R177: at the end of start-up the loaded settings are live and every block
takes its starting state. -/
def Obligations.ResetsAndStartUpGiveEveryBlockItsState : Prop :=
  ∀ (s : State) (fsel : Bool) (dt : Nat),
    (exec (.powerOnReset fsel dt) s = .next { State.reset with
         pending := s.pending, clk := s.clk + dt, freeCount := s.freeCount, pins := s.pins, store := s.store
         startBegan := s.clk + dt, power := if s.pins.resetn = true then .startUp else .held
         fn := if fsel = true then 60000 else 50000 }
     ∧ (s.pins.resetn = true → exec (.resetnAssert dt) s = .next { State.reset with
         pending := s.pending, clk := s.clk + dt, freeCount := s.freeCount
         pins := { s.pins with resetn := false }, store := s.store, startBegan := s.clk + dt, power := .held
         fn := s.fn })
     ∧ (s.pins.resetn = false → exec (.resetnRelease fsel dt) s = .next { State.reset with
         pending := s.pending, clk := s.clk + dt, freeCount := s.freeCount
         pins := { s.pins with resetn := true }, store := s.store, startBegan := s.clk + dt, power := .startUp
         fn := if fsel = true then 60000 else 50000 })
     ∧ (s.pins.resetn = false → exec (.resetnAssert dt) s = .next (s.elapse dt))
     ∧ (s.pins.resetn = true → exec (.resetnRelease fsel dt) s = .next (s.elapse dt)))
    ∧ (s.power = .startUp →
    ∃ t, exec (.endOfStartUp dt) s = .next t
        ∧ t.power = .running ∧ t.cfg = s.store.load.1 ∧ t.storeBad = s.store.load.2
        ∧ t.alertPin = s.store.load.2 ∧ t.lane = (if s.pins.lane = true then .b else .a)
        ∧ t.setSlots = .replicate 8 none ∧ t.pvSlots = .replicate 4 none ∧ t.txQueue = [] ∧ t.txBuffer = none
        ∧ t.meter = ⟨.noSignal, none, 0, [], [], none, none, some (s.clk + dt)⟩
        ∧ t.tbalEnds = some (s.clk + dt + 2000000) ∧ t.cycle = 0 ∧ t.record = none ∧ t.held = .replicate 4 0
        ∧ t.mode = (if t.cfg.params[START_MODE] = 1 then .dispatch else .observe)
        ∧ (∀ i : Fin 8, t.sets[i].state = .unknown ∧ t.sets[i].cause = .none ∧ t.sets[i].attempts = 0
            ∧ t.sets[i].dirSeq = 0
            ∧ (0 < t.cfg.roster[i].rating → t.sets[i].lostTimer = some (s.clk + dt + 100000000)
                ∧ t.sets[i].directive = if t.mode = .observe then .hold else .stop))
        ∧ (∀ p : Fin 4, t.plants[p] =
            ⟨t.cfg.pv[p].rating, .balance, t.cfg.pv[p].rating, .balance, none, none, t.cfg.pv[p].rating⟩)
        ∧ t.aggU = t.cfg.pv[0].rating + t.cfg.pv[1].rating + t.cfg.pv[2].rating + t.cfg.pv[3].rating
        ∧ t.freshStart = true ∧ t.forcedZero = false
        ∧ (∀ i : Fin 16, t.feeders[i] =
            ⟨if t.cfg.feeders[i].enabled = true then (if s.pins.fstat[i] = true then .closed else .openExt)
              else .disabled, .none, none, none, false⟩)
        ∧ (∀ k : Fin 8, t.stages[k] = ⟨.idle, none⟩) ∧ t.exhausted = false ∧ t.reserveShed = none
        ∧ t.mshedLevel = s.pins.mshed ∧ t.notedMeter = .noSignal ∧ t.reportCount = 0
        ∧ t.queue = [] ∧ t.settle = .stopped ∧ t.restoreDelay = none ∧ t.blocked = none
        ∧ t.hold = ⟨.none, none, none, none⟩ ∧ t.ordering = false
        ∧ t.seq.phase = .none ∧ t.seq.attempts = 0 ∧ t.seq.trigger = none ∧ t.seq.failed = false
        ∧ t.seq.abortLevel = s.pins.bsabort ∧ t.window = none ∧ t.save = none
        ∧ t.cfglockLevel = s.pins.cfglock ∧ t.fn = s.fn ∧ t.pins = s.pins ∧ t.store = s.store)

/-- R178, R188: settings that pass the content checks and fit the bytes of the image come back from their own image at
the next load, with a good store: no field of the image is dropped. R178, R180: an erased image, a write that was
abandoned, an image of another length than the one a save writes (log 10), one whose CRC-16 fails, and content that fails
a check give the defaults and STORE_BAD. -/
def Obligations.StoreLoadsSavedSettingsOrDefaults : Prop :=
  ∀ (c : Settings) (bytes : List Byte),
    (SettingsFit c → c.contentOk = true → (StoreImage.whole c.image).load = (c, false))
    ∧ (StoreImage.erased.load = (.defaults, true) ∧ StoreImage.torn.load = (.defaults, true))
    ∧ ((bytes.length ≠ 231 ∨ word bytes 229 ≠ (crc16 (bytes.take 229)).toNat
          ∨ (Settings.ofContent (bytes.take 229)).contentOk = false) →
        (StoreImage.whole bytes).load = (.defaults, true))
    ∧ (∀ i : Fin 8, Settings.defaults.roster[i].rating = 0 ∧ Settings.defaults.stages[i].enabled = false)
    ∧ (∀ p : Fin 4, Settings.defaults.pv[p].rating = 0)
    ∧ (∀ i : Fin 16, Settings.defaults.feeders[i].enabled = false)
    ∧ (∀ p : Fin 28, Settings.defaults.params[p] = paramRows[p].default)
    ∧ Settings.defaults.lockFlag = false

/-! ## Frequency Meter -/

/-- R4 to R7, R10 to R12: a rising edge is a reference edge, a glitch, a period or a late edge by the meter's state
and E, and the meter record moves as those rules say. A reference edge and a late edge withdraw the frequency from the
stages and the plants (R13, R76, R106: StagesWithdrawn); a glitch and an edge that only counts up acquisition are no meter
events and leave them alone. -/
def Obligations.RisingEdgeMovesMeterRecord : Prop :=
  ∀ (s : State) (dt : Nat),
    s.power = .running →
    ∃ t, exec (.gtickRisingEdge dt) s = .next t ∧ IslandEventFrame (s.elapse dt) t
      ∧ (s.meter.state = .noSignal ∨ s.meter.state = .lost ∨ s.meter.state = .dead →
          t.meter = ⟨.acquiring, some 0, 0, [], [], none, none, none⟩ ∧ StagesWithdrawn s t)
      ∧ (s.meter.state = .acquiring ∨ s.meter.state = .valid →
          ∀ e, (s.meter.elapse dt).elapsed = some e →
          (e < 142858 → t.meter = s.meter.elapse dt ∧ StagesStand s t)
          ∧ (250000 < e → t.meter = ⟨.acquiring, some 0, 0, [], [], none, none, none⟩ ∧ StagesWithdrawn s t)
          ∧ (142858 ≤ e → e ≤ 250000 →
              t.meter.elapsed = some 0
              ∧ (s.meter.periods.length < 10 → t.meter.periods = s.meter.periods ++ [e])
              ∧ (s.meter.periods.length = 10 → t.meter.periods = s.meter.periods.tail ++ [e])
              ∧ (s.meter.state = .acquiring → t.meter.acqCount = s.meter.acqCount + 1)
              ∧ (s.meter.state = .acquiring → s.meter.acqCount + 1 < 4 →
                  t.meter = { s.meter with
                    elapsed := some 0, acqCount := s.meter.acqCount + 1, periods := t.meter.periods }
                  ∧ StagesStand s t)
              ∧ (s.meter.state = .valid ∨ 4 ≤ s.meter.acqCount + 1 →
                  t.meter.state = .valid
                  ∧ (let total := (t.meter.periods.reverse.take 4).sum
                     t.meter.freq = some ((4 * 10 ^ 10 + total / 2) / total))
                  ∧ (s.meter.freqs.length < 11 → t.meter.freqs = s.meter.freqs ++ t.meter.freq.toList)
                  ∧ (s.meter.freqs.length = 11 → t.meter.freqs = s.meter.freqs.tail ++ t.meter.freq.toList)
                  ∧ (t.meter.freqs.length ≠ 11 → t.meter.rocof = none)
                  ∧ (t.meter.freqs.length = 11 → t.meter.rocof = some (max (-20000) (min 20000
                      (Int.tdiv (((t.meter.freqs.getLastD 0 : Nat) - (t.meter.freqs.headD 0 : Nat) : Int)
                        * 10 ^ 7) (t.meter.periods.sum : Nat))))))))

/-- R11: for every sum of four accepted periods the value lies in 40,000..70,000 mHz and is four periods' worth of
cycles over their duration, rounded to the nearest mHz with a half rounded up. -/
def Obligations.FrequencyValueIsNearestMillihertz : Prop :=
  ∀ (total : Nat),
    571432 ≤ total → total ≤ 1000000 →
      40000 ≤ frequencyOf total ∧ frequencyOf total ≤ 70000
      ∧ 2 * total * frequencyOf total ≤ 8 * 10 ^ 10 + total
      ∧ 8 * 10 ^ 10 + total < 2 * total * (frequencyOf total + 1)

/-- R8, R9, R106, R76: a loss expiry, a dead expiry and the end of the start-up wait, when due, move the meter as
those rules say, return every TIMING stage to IDLE (which clears SHED_EXHAUSTED when it leaves every stage IDLE, R99) and
make every limit absent; an expiry that is not due leaves the meter as it is (log 2). The meter record is a consistent one (RecordsStayConsistent). -/
def Obligations.MeterExpiriesWithdrawFrequency : Prop :=
  ∀ (s : State) (dt e w : Nat),
    s.power = .running → MeterRecordAgrees s →
    ((s.meter.state = .acquiring ∨ s.meter.state = .valid) → (s.meter.elapse dt).elapsed = some e → 250000 < e →
      ∃ t, exec (.lossExpiry dt) s = .next t ∧ IslandEventFrame (s.elapse dt) t
        ∧ t.meter = ⟨.lost, some e, 0, [], [], none, none, s.meter.waitFrom⟩ ∧ t.notedMeter = .lost
        ∧ StagesWithdrawn s t)
    ∧ (s.meter.state = .lost → (s.meter.elapse dt).elapsed = some e → 1000000 < e →
      ∃ t, exec (.deadExpiry dt) s = .next t ∧ IslandEventFrame (s.elapse dt) t
        ∧ t.meter = { s.meter with state := .dead, elapsed := some 1000001 } ∧ t.notedMeter = .dead
        ∧ StagesWithdrawn s t)
    ∧ (s.meter.state = .noSignal → s.meter.waitFrom = some w → 1000000 < s.clk + dt - w →
      ∃ t, exec (.startUpWait dt) s = .next t ∧ IslandEventFrame (s.elapse dt) t
        ∧ t.meter = { s.meter with state := .dead, elapsed := none, waitFrom := none } ∧ t.notedMeter = .dead
        ∧ StagesWithdrawn s t)
    ∧ ((s.meter.elapse dt).elapsed = some e →
        (e ≤ 250000 → ∃ t, exec (.lossExpiry dt) s = .next t ∧ t.meter = s.meter.elapse dt)
        ∧ (e ≤ 1000000 → ∃ t, exec (.deadExpiry dt) s = .next t ∧ t.meter = s.meter.elapse dt))
    ∧ (s.meter.waitFrom = some w → s.clk + dt - w ≤ 1000000 →
        ∃ t, exec (.startUpWait dt) s = .next t ∧ t.meter = s.meter.elapse dt)

/-- R101, R103 to R105, R107, R128: at a frequency value every stage moves as the table of R103 says of its entry, its
record, the value, its edge time and ROCOF. A stage reset starts the restore delay from the edge time; a return that
leaves every stage IDLE clears SHED_EXHAUSTED (R99); and then the stages that fire, in ascending index, take their combined
action (FiringStagesRevertAndShed), whose feeders, queue, settle timer, hold and SHED_EXHAUSTED stand at the end of the
edge. When no stage fires no feeder moves. The feeder report follows the feeder states (R114). -/
def Obligations.FrequencyValueMovesEveryStage : Prop :=
  ∀ (s : State) (dt e : Nat),
    GivesValue s dt e →
    ∃ t f firing, exec (.gtickRisingEdge dt) s = .next t ∧ t.meter.freq = some f
      ∧ (∀ k : Fin 8,
        StageMovesTo s.cfg.stages[k] s.stages[k] s.fn f (s.clk + dt) t.meter.rocof t.stages[k])
      ∧ firing.Pairwise (fun j k => j < k)
      ∧ (∀ k : Fin 8, k ∈ firing ↔ s.stages[k].state ≠ .fired ∧ t.stages[k].state = .fired)
      ∧ (let allIdle : Prop := ∀ k : Fin 8, t.stages[k].state = .idle
         let u : State := { s.elapse dt with
           meter := t.meter, notedMeter := .valid, stages := t.stages
           restoreDelay := if ∃ k : Fin 8, s.stages[k].state = .fired ∧ t.stages[k].state = .idle
             then some (s.clk + dt + 10000000 * s.cfg.params[RESTORE_DELAY]) else s.restoreDelay
           exhausted := if (∃ k : Fin 8, s.stages[k].state ≠ .idle) ∧ allIdle then false else s.exhausted }
         let v := u.combinedAction firing
         t.feeders = v.feeders ∧ t.queue = v.queue ∧ t.settle = v.settle ∧ t.hold = v.hold
         ∧ t.exhausted = v.exhausted ∧ t.restoreDelay = u.restoreDelay
         ∧ (firing = [] → t.feeders = s.feeders ∧ t.queue = s.queue ∧ t.settle = s.settle ∧ t.hold = s.hold))
      ∧ FeederReportFollows s t

/-- R75 to R77: at a frequency value above fs every configured plant latches its reference, gets its limit and has
its sent ceiling lowered to a limit below it; at a value at or below fs references and limits go and no ceiling
moves. -/
def Obligations.FrequencyValueLimitsEveryPlant : Prop :=
  ∀ (s : State) (dt e : Nat),
    GivesValue s dt e →
    ∃ t f, exec (.gtickRisingEdge dt) s = .next t ∧ t.meter.freq = some f
      ∧ ∀ p : Fin 4, 0 < s.cfg.pv[p].rating →
        (s.fn + s.cfg.params[OF_START] < f →
          ∃ q limit, t.plants[p].ref = some q ∧ t.plants[p].lim = some limit
            ∧ (∀ old, s.plants[p].ref = some old → q = old)
            ∧ (s.plants[p].ref = none → ∀ slot, s.pvSlots[p] = some slot →
                q = min slot.output s.cfg.pv[p].rating)
            ∧ (s.plants[p].ref = none → s.pvSlots[p] = none → q = 0)
            ∧ limit = q - (q * s.cfg.params[OF_GRAD] * (f - (s.fn + s.cfg.params[OF_START])) + 99999) / 100000
            ∧ t.plants[p].sent = min s.plants[p].sent limit
            ∧ (limit < s.plants[p].sent → t.plants[p].sentCause =
                if limit < s.plants[p].allotment then .fastOf else s.plants[p].allotCause)
            ∧ (s.plants[p].sent ≤ limit → t.plants[p].sentCause = s.plants[p].sentCause)
            ∧ (limit < s.plants[p].sent → limit + 2 * s.cfg.pv[p].rating / 100 ≤ s.plants[p].lastQueued →
                t.plants[p].lastQueued = limit
                ∧ .pvCeiling p s.cfg.pv[p].address limit t.plants[p].sentCause ∈ t.txQueue))
        ∧ (f ≤ s.fn + s.cfg.params[OF_START] →
            t.plants[p] = { s.plants[p] with ref := none, lim := none })

/-! ## Balance Engine, Curtailment Unit -/

/-- R18, with R16, R17, R19, R22, R29, R31, R32, R50 and R79: at a tBAL expiry the cycle number is raised, pending
parameters become live, the record computed with them is published, and the status, directive and ceiling frames are
queued. R30: on the published record the status frames are queued, the Commitment and Curtailment Units, the Shed Ladder and
the Restoration Unit do their work and the sequencer looks at RESTORE, each once and in some order (no rule gives one: log
5), and then the event ends. Model's choices: the whole expiry ends once, so feeder moves of several blocks give one feeder
report, with the states after all of them and the report count 0 (log 37: R114 against R30), and the sequencer's other
looks come at that end (log 7); the status task queues STATUS_A before STATUS_B (log 42). The statements on those six
tasks (StartRuleStartsOneSetWhenShort, StopRuleStopsTheCandidateWithASurplus, PublicationFormsTheCeilings,
LadderShedsOnReserveAndReports, ExaminationClosesOnlyAReadyHead, SequenceGoesOnToItsCompletion) so speak of every
expiry. -/
def Obligations.TbalExpiryPublishesTheRecord : Prop :=
  ∀ (s : State) (dt due : Nat),
    s.power = .running → s.tbalEnds = some due → due ≤ s.clk + dt →
    ∃ (t b : State), exec (.tbalExpiry dt) s = .next t
      ∧ b = { s.elapse dt with
          cycle := s.cycle + 1, tbalEnds := some (due + 2000000), paramPending := .replicate 28 none
          cfg := { s.cfg with params := b.cfg.params } }
      ∧ (∀ p : Fin 28, b.cfg.params[p] = s.paramPending[p].getD s.cfg.params[p])
      ∧ IslandEventFrame { b with
          record := some b.computeRecord, held := t.held, freeCount := t.freeCount, firstReport := false } t
      ∧ (∀ x ∈ b.computeRecord.plants, t.held[x.index] = x.output)
      ∧ (∀ p : Fin 4, s.cfg.pv[p].rating = 0 → t.held[p] = s.held[p])
      ∧ (∃ a, .statusA a ∈ t.txQueue ∧ a.recordValid = b.computeRecord.valid ∧ a.meter = s.meter.state
          ∧ a.deviation = s.meter.freq.map (fun f => (f : Int) - (s.fn : Int)) ∧ a.rocof = s.meter.rocof)
      ∧ .statusB (min b.computeRecord.sr 65535) (min b.computeRecord.rr 65535) (min b.computeRecord.l 65535)
          ∈ t.txQueue
      ∧ (∀ i : Fin 8, 0 < s.cfg.roster[i].rating →
          .setDirective i s.cfg.roster[i].address t.sets[i].directive t.sets[i].dirSeq ∈ t.txQueue)
      ∧ (∀ p : Fin 4, 0 < s.cfg.pv[p].rating →
          ∃ cause, .pvCeiling p s.cfg.pv[p].address t.plants[p].lastQueued cause ∈ t.txQueue)
      ∧ (∃ (published : State) (tasks : List (State → State)),
          published = { b with record := some b.computeRecord, held := t.held, freeCount := t.freeCount }
          ∧ tasks.Perm [fun u => u.statusTask b.computeRecord, fun u => u.commitmentTask b.computeRecord,
              fun u => u.curtailmentTask b.computeRecord, fun u => u.ladderTask b.computeRecord,
              fun u => u.examine b.computeRecord, State.restoreCheck]
          ∧ t = (tasks.foldl (fun u task => task u) published).finish (s.elapse dt))

/-- R24: in every Balance Record D is at most C_on and SR is C_on less D; a stale online set counts its whole rating
as output; with no set online all three are 0. -/
def Obligations.SpinningReserveIsUnusedCapacity : Prop :=
  ∀ (s : State),
    s.computeRecord.d ≤ s.computeRecord.cOn
    ∧ s.computeRecord.sr = s.computeRecord.cOn - s.computeRecord.d
    ∧ (∀ e ∈ s.computeRecord.sets, e.output ≤ e.rating ∧ (e.stale = true → e.output = e.rating))
    ∧ (s.computeRecord.onlineCount = 0 →
        s.computeRecord.cOn = 0 ∧ s.computeRecord.d = 0 ∧ s.computeRecord.sr = 0)

/-- R20 to R23: the sums of the record are sums over the roster and PV entries with a rating above 0, of the clamped
reports while they are fresh (at most 10,000,000 counts old), of the whole rating of a stale online set, and of the
held output of a stale plant. R25 to R27: the largest-unit term, the solar-loss term rounded up, the required reserve, the
diesel floor rounded up, and the solar target. -/
def Obligations.RecordSumsReportsAndFormsTerms : Prop :=
  ∀ (s : State),
    (let online : Fin 8 → Prop := fun i => 0 < s.cfg.roster[i].rating ∧ s.sets[i].state = .online
     let fresh : Nat → Prop := fun arrived => s.clk - arrived ≤ 10000000
     s.computeRecord.onlineCount = ∑ i, (if online i then 1 else 0)
     ∧ s.computeRecord.cOn = ∑ i, (if online i then s.cfg.roster[i].rating else 0)
     ∧ s.computeRecord.cStart =
         ∑ i : Fin 8, (if s.sets[i].state = .starting then s.cfg.roster[i].rating else 0)
     ∧ s.computeRecord.d = ∑ i, (if online i then
         (match s.setSlots[i] with
           | some slot => if fresh slot.arrived then min slot.output s.cfg.roster[i].rating
               else s.cfg.roster[i].rating
           | none => s.cfg.roster[i].rating) else 0)
     ∧ s.computeRecord.q = ∑ p : Fin 4,
         (match s.pvSlots[p] with
           | some slot => if fresh slot.arrived then min slot.output s.cfg.pv[p].rating
               else min s.held[p] s.cfg.pv[p].rating
           | none => min s.held[p] s.cfg.pv[p].rating)
     ∧ s.computeRecord.a = ∑ p : Fin 4,
         (match s.pvSlots[p] with
           | some slot => if fresh slot.arrived then
               max (min slot.output s.cfg.pv[p].rating) (min slot.available s.cfg.pv[p].rating)
               else min s.held[p] s.cfg.pv[p].rating
           | none => min s.held[p] s.cfg.pv[p].rating)
     ∧ s.computeRecord.l = s.computeRecord.d + s.computeRecord.q
     ∧ (s.computeRecord.valid = true ↔ (∃ i, online i) ∧ ∀ i, online i →
         ∃ slot, s.setSlots[i] = some slot ∧ fresh slot.arrived))
    ∧ (let r := s.computeRecord
       (s.cfg.params[N1_COVER] = 1 → 2 ≤ r.onlineCount →
         (∀ e ∈ r.sets, e.output ≤ r.n1) ∧ ∃ e ∈ r.sets, e.output = r.n1)
       ∧ (s.cfg.params[N1_COVER] ≠ 1 ∨ r.onlineCount < 2 → r.n1 = 0)
       ∧ s.cfg.params[PVLOSS] * r.q ≤ 100 * r.pvt ∧ 100 * r.pvt < s.cfg.params[PVLOSS] * r.q + 100
       ∧ r.rr = max r.pvt r.n1 + s.cfg.params[RES_MARGIN]
       ∧ r.cOn * s.cfg.params[MINLOAD] ≤ 100 * r.dmin ∧ 100 * r.dmin < r.cOn * s.cfg.params[MINLOAD] + 100
       ∧ (r.onlineCount = 0 → r.uTarget = 0)
       ∧ (1 ≤ r.onlineCount → r.uTarget = r.l - r.dmin))

/-- R74: at or above A every configured plant is allotted its rating; below A each gets the floor of its share and at
most one kilowatt of the remainder, the first plants in ascending index before the later ones, a plant with nothing
available gets nothing, the cause is BALANCE, and the allotments sum to U exactly. -/
def Obligations.AllotmentsShareTheCeiling : Prop :=
  ∀ (s : State),
    let r := s.computeRecord
    let t := s.computeCeilings r
    (r.a ≤ t.aggU → ∀ p : Fin 4, 0 < s.cfg.pv[p].rating →
      t.plants[p].allotment = s.cfg.pv[p].rating ∧ t.plants[p].allotCause = .balance)
    ∧ (t.aggU < r.a →
        (∑ p : Fin 4, (if 0 < s.cfg.pv[p].rating then t.plants[p].allotment else 0)) = t.aggU
        ∧ (∀ x ∈ r.plants,
            t.plants[x.index].allotCause = .balance
            ∧ t.plants[x.index].allotment ≤ s.cfg.pv[x.index].rating
            ∧ (x.available = 0 → t.plants[x.index].allotment = 0)
            ∧ t.aggU * x.available / r.a ≤ t.plants[x.index].allotment
            ∧ t.plants[x.index].allotment ≤ t.aggU * x.available / r.a + 1)
        ∧ (∀ x ∈ r.plants, ∀ y ∈ r.plants, x.index < y.index → 0 < x.available →
            t.plants[y.index].allotment = t.aggU * y.available / r.a + 1 →
            t.plants[x.index].allotment = t.aggU * x.available / r.a + 1))

/-- R71 to R73, R77, R82: at a publication U climbs from its basis by RAMP_UP toward the target or falls to it at once
in DISPATCH and in PV_RETURN, OBSERVE holds U and the allotments, and the sent ceiling is the lower of the allotment
and the limit. -/
def Obligations.PublicationFormsTheCeilings : Prop :=
  ∀ (s : State) (r : BalanceRecord),
    let t := s.curtailmentWork r
    let sum := ∑ p : Fin 4, (if 0 < s.cfg.pv[p].rating then s.plants[p].sent else 0)
    let basis := if s.freshStart = true then r.q else min s.aggU sum
    let computing : Prop := s.mode = .dispatch ∨ (s.mode = .blackstart ∧ s.seq.phase = .pvReturn)
    (computing → t.freshStart = false
        ∧ t.aggU = if basis < r.uTarget then min r.uTarget (basis + s.cfg.params[RAMP_UP]) else r.uTarget)
    ∧ (s.mode = .observe → t.aggU = s.aggU ∧ t.freshStart = s.freshStart ∧ ∀ p : Fin 4,
        t.plants[p].allotment = s.plants[p].allotment ∧ t.plants[p].allotCause = s.plants[p].allotCause)
    ∧ (computing ∨ s.mode = .observe → ∀ p : Fin 4, 0 < s.cfg.pv[p].rating →
        (∀ lim, t.plants[p].lim = some lim → t.plants[p].sent = min t.plants[p].allotment lim
          ∧ t.plants[p].sentCause = if lim < t.plants[p].allotment then .fastOf else t.plants[p].allotCause)
        ∧ (t.plants[p].lim = none → t.plants[p].sent = t.plants[p].allotment
          ∧ t.plants[p].sentCause = t.plants[p].allotCause))
    ∧ (s.mode = .blackstart → s.seq.phase ≠ .pvReturn → t.aggU = s.aggU ∧ ∀ p : Fin 4,
        t.plants[p] = { s.plants[p] with lastQueued := t.plants[p].lastQueued })
    ∧ (∀ p : Fin 4, 0 < s.cfg.pv[p].rating →
        t.plants[p].lastQueued = t.plants[p].sent ∧ t.plants[p].lim = s.plants[p].lim
        ∧ .pvCeiling p s.cfg.pv[p].address t.plants[p].sent t.plants[p].sentCause ∈ t.txQueue)

/-! ## Shed Ladder -/

/-- R95, R96: a walk takes the ladder in ascending position, chooses the CLOSED feeders (at reach SHALLOW, those
outside the protected region) until its width is found or the ladder ends, trips each with its cause, and changes
nothing else; it is full when it found its width. -/
def Obligations.WalkTripsLowestFeeders : Prop :=
  ∀ (s : State) (reach : Reach) (causes : List FeederCause),
    let t := s.walk reach causes
    ∃ chosen : List (Fin 16),
      chosen.Nodup
      ∧ chosen.length = min causes.length ((indices 16).countP fun i => decide (MayBeChosen s reach i))
      ∧ chosen.Pairwise (fun a b => s.cfg.feeders[a].position ≤ s.cfg.feeders[b].position)
      ∧ (∀ j ∈ chosen, MayBeChosen s reach j)
      ∧ (∀ j ∈ chosen, ∀ k, MayBeChosen s reach k → k ∉ chosen →
          s.cfg.feeders[j].position ≤ s.cfg.feeders[k].position)
      ∧ t = { s with feeders := t.feeders }
      ∧ (∀ n : Nat, ∀ j ∈ chosen[n]?, t.feeders[j] = trippedRecord (causes.getD n .none) reach s.clk)
      ∧ (∀ j, j ∉ chosen → t.feeders[j] = s.feeders[j])
      ∧ (s.walkFull reach causes.length = true ↔ chosen.length = causes.length)

/-- R97, R99, R107, R120, R127, R133: the combined action of a list of firing stages (in ascending index where
FrequencyValueMovesEveryStage takes it) reverts the CLOSING feeders it reaches, with the first stage as their cause, and
puts them before the others in the queue (while the ordering mark is clear; their order among themselves: log 21). On the
ladder so reverted it takes the walk of the SHALLOW part and then the walk of the DEEP part (WalkTripsLowestFeeders), each
with its stages' causes in the order of the list, each as often as its stage's width. SHED_EXHAUSTED is set exactly when a
part finds fewer feeders than its width. The settle timer stops, and a pending hold takes effect when a reversion ends the
last closing. -/
def Obligations.FiringStagesRevertAndShed : Prop :=
  ∀ (s : State) (lowest : Fin 8) (rest : List (Fin 8)),
    let t := s.combinedAction (lowest :: rest)
    let deep : Prop := ∃ k ∈ lowest :: rest, s.cfg.stages[k].reach = .deep ∧ 0 < s.cfg.stages[k].width
    let reverted : Fin 16 → Prop := fun i =>
      s.cfg.feeders[i].enabled = true ∧ s.feeders[i].state = .closing
        ∧ (deep ∨ ¬ InProtectedRegion s s.cfg.feeders[i].position)
    let afterReverting : Vector FeederRec 16 := tabulate fun (i : Fin 16) =>
      if reverted i then ⟨.openShed, .stage lowest, none, s.feeders[i].origin, true⟩ else s.feeders[i]
    let revertedState : State := { s with feeders := afterReverting }
    let causes : Reach → List FeederCause := fun reach =>
      ((lowest :: rest).filter fun k => s.cfg.stages[k].reach = reach).flatMap fun k =>
        .replicate s.cfg.stages[k].width (.stage k)
    let ladderAfter : State := revertedState.walk .shallow (causes .shallow)
    let found : State → Reach → Nat := fun u reach => (indices 16).countP fun i => decide (MayBeChosen u reach i)
    t.settle = .stopped ∧ t.stages = s.stages
    ∧ (∀ i, reverted i → i ∈ t.queue
        ∧ t.feeders[i] = ⟨.openShed, .stage lowest, none, s.feeders[i].origin, true⟩)
    ∧ (∀ i, ¬ reverted i → t.feeders[i] = s.feeders[i] ∨ (∃ k ∈ lowest :: rest,
        MayBeChosen s s.cfg.stages[k].reach i
        ∧ t.feeders[i] = trippedRecord (.stage k) s.cfg.stages[k].reach s.clk))
    ∧ t.feeders = (ladderAfter.walk .deep (causes .deep)).feeders
    ∧ (t.exhausted = true ↔ found revertedState .shallow < (causes .shallow).length
        ∨ found ladderAfter .deep < (causes .deep).length)
    ∧ (∀ i, i ∈ t.queue ↔ reverted i ∨ i ∈ s.queue)
    ∧ (s.ordering = false → ∃ first, t.queue = first ++ s.queue ∧ first.Nodup ∧ ∀ i, i ∈ first ↔ reverted i)
    ∧ (let ended : Prop := s.hold.state = .pending ∧ (∃ i, reverted i)
         ∧ ∀ i : Fin 16, s.feeders[i].state = .closing → reverted i
       (ended → t.hold = { s.hold with state := .inEffect }) ∧ (¬ ended → t.hold = s.hold))
    ∧ t = { s with feeders := t.feeders, queue := t.queue, settle := .stopped, hold := t.hold, exhausted := t.exhausted }
    ∧ (t.exhausted = false ↔
        (indices 16).countP (fun i => decide (s.feeders[i].state = .closed ∧ t.feeders[i].state = .opening))
          = ((lowest :: rest).map fun k => s.cfg.stages[k].width).sum)

/-- R91, with R93, R120 to R122, R127 and R133: a change of one FSTAT line moves its feeder as the table says, drives
FEED, stops the breaker timer, and gives its notice: newly shed, left the queue, or closed. R93: changes on several lines
that reach the Ladder together are taken one by one in ascending ladder position, each as one event; so feeders that open
together join the queue in ladder order. In a power state other than running no feeder moves, and a command that changes
no level lets only time pass (log 2). That several changes are one command is the model's form (log 41). -/
def Obligations.FstatChangesMoveTheirFeeders : Prop :=
  ∀ (s : State) (lines levels new : Vector Bool 16) (dt : Nat),
    (∀ i : Fin 16, new[i] = if lines[i] = true then levels[i] else s.pins.fstat[i]) →
    let pinned := { s.elapse dt with pins := { s.pins with fstat := new } }
    (s.power = .running → NoAutoStart s → ∀ i : Fin 16, new = s.pins.fstat.set i (!s.pins.fstat[i]) →
      let old := s.feeders[i]
      let st := stateAfterFstat old.state new[i]
      ∃ t, exec (.fstatChange lines levels dt) s = .next t ∧ FeederEventFrame pinned t
        ∧ t.exhausted = s.exhausted
        ∧ (st = old.state → t.feeders = s.feeders)
        ∧ (st ≠ old.state → t.feeders = s.feeders.set i
            ⟨st, if st = .closed ∨ st = .openExt then .none else old.cause, none, old.origin,
              decide (st = .openShed ∨ st = .stuckClosed)⟩)
        ∧ (st = .openShed → old.state ≠ .openShed → PlacedNewlyShed s i t.queue)
        ∧ (old.state = .openShed → st = .stuckClosed → t.queue = s.queue.erase i)
        ∧ ((st = .openShed ↔ old.state = .openShed) → t.queue = s.queue)
        ∧ (old.state = .closing → new[i] = true →
            AfterClosing s i (some (10000000 * s.cfg.params[RESTORE_SETTLE])) (s.clk + dt) t.settle t.hold)
        ∧ (old.state ≠ .closing ∨ new[i] = false → t.settle = s.settle ∧ t.hold = s.hold))
    ∧ (s.power = .running → new ≠ s.pins.fstat →
      ∃ order : List (Fin 16), order.Nodup ∧ (∀ i, i ∈ order ↔ new[i] ≠ s.pins.fstat[i])
        ∧ order.Pairwise (fun i j => s.cfg.feeders[j].enabled = true →
            s.cfg.feeders[i].enabled = true ∧ s.cfg.feeders[i].position ≤ s.cfg.feeders[j].position)
        ∧ exec (.fstatChange lines levels dt) s =
            .next (order.foldl (fun u i => u.ending fun u => u.breakerEvent i new[i]) pinned))
    ∧ (s.power = .running → NoAutoStart s → s.ordering = false →
      (∀ i : Fin 16, new[i] ≠ s.pins.fstat[i] →
        new[i] = false ∧ s.feeders[i].state = .opening ∧ s.cfg.feeders[i].enabled = true) →
      ∃ t opened, exec (.fstatChange lines levels dt) s = .next t
        ∧ opened.Nodup ∧ (∀ i, i ∈ opened ↔ new[i] ≠ s.pins.fstat[i])
        ∧ opened.Pairwise (fun i j => s.cfg.feeders[i].position ≤ s.cfg.feeders[j].position)
        ∧ t.queue = (if s.cfg.params[RESTORE_ORDER] = 1 then s.queue ++ opened else opened.reverse ++ s.queue)
        ∧ (∀ i : Fin 16, t.feeders[i] = if new[i] = s.pins.fstat[i] then s.feeders[i]
            else ⟨.openShed, s.feeders[i].cause, none, s.feeders[i].origin, true⟩)
        ∧ FeederReportFollows s t)
    ∧ (s.power ≠ .running → exec (.fstatChange lines levels dt) s = .next pinned)
    ∧ (s.pins.fstat = new → exec (.fstatChange lines levels dt) s = .next (s.elapse dt))

/-- R92, R98, R99, R112, R126: the expiry of a breaker timer makes an OPENING feeder STUCK_CLOSED, with a substitute
walk of width 1 when its opening came from a walk and PREPARE does not last, and a CLOSING feeder STUCK_OPEN. -/
def Obligations.BreakerTimerExpiryLeavesFeederStuck : Prop :=
  ∀ (s : State) (i : Fin 16) (dt due : Nat),
    s.power = .running → NoAutoStart s → s.feeders[i].timer = some due → due ≤ s.clk + dt →
    ∃ t, exec (.breakerTimerExpiry i dt) s = .next t ∧ FeederEventFrame (s.elapse dt) t ∧ t.queue = s.queue
      ∧ (s.feeders[i].state = .opening → t.settle = s.settle ∧ t.hold = s.hold
          ∧ (s.feeders[i].origin = none ∨ s.seq.phase = .prepare →
              t.exhausted = s.exhausted
              ∧ t.feeders = s.feeders.set i
                  ⟨.stuckClosed, s.feeders[i].cause, none, s.feeders[i].origin, true⟩)
          ∧ (∀ reach, s.feeders[i].origin = some reach → s.seq.phase ≠ .prepare →
              ∃ fs found, WalkedOnce s reach s.feeders[i].cause (s.clk + dt) fs found
                ∧ t.exhausted = (s.exhausted || !found)
                ∧ t.feeders = fs.set i ⟨.stuckClosed, s.feeders[i].cause, none, some reach, true⟩))
      ∧ (s.feeders[i].state = .closing → t.exhausted = s.exhausted
          ∧ t.feeders = s.feeders.set i ⟨.stuckOpen, s.feeders[i].cause, none, s.feeders[i].origin, false⟩
          ∧ AfterClosing s i none (s.clk + dt) t.settle t.hold)

/-- R109, R110: a rising edge on MSHED, and Shed Step from a supervisor, take one SHALLOW action of width 1 with cause
MANUAL in every mode, which sets SHED_EXHAUSTED when it finds no feeder and clears it when it finds one (R99); a falling
edge only records the level, edges outside running are not taken, a command that names the level the line has lets only
time pass (log 2), and the reply to Shed Step is ACCEPTED with the index
and the ladder position of the feeder found, else ACCEPTED_NO_EFFECT. -/
def Obligations.ManualShedActionsShedOneFeeder : Prop :=
  ∀ (s : State) (level : Bool) (dt : Nat) (rx : Rx),
    (let pinned := { s.elapse dt with pins := { s.pins with mshed := level } }
     (s.power = .running → NoAutoStart s → s.pins.mshed = !level → s.mshedLevel = !level →
       ∃ t, exec (.mshedEdge level dt) s = .next t ∧ FeederEventFrame { pinned with mshedLevel := level } t
         ∧ t.queue = s.queue ∧ t.settle = s.settle ∧ t.hold = s.hold
         ∧ (level = true → ∃ found, WalkedOnce s .shallow .manual (s.clk + dt) t.feeders found
             ∧ t.exhausted = !found)
         ∧ (level = false → t.feeders = s.feeders ∧ t.exhausted = s.exhausted))
     ∧ (s.power ≠ .running → exec (.mshedEdge level dt) s = .next pinned)
     ∧ (s.pins.mshed = level → exec (.mshedEdge level dt) s = .next (s.elapse dt)))
    ∧ (Hears s rx → FromSupervisor rx → NoAutoStart s →
       ∃ t, exec (.shedStep rx) s = .next t ∧ FeederEventFrame (s.elapse rx.dt) t
         ∧ t.queue = s.queue ∧ t.settle = s.settle ∧ t.hold = s.hold
         ∧ ((∃ j, MayBeChosen s .shallow j
               ∧ (∀ k, MayBeChosen s .shallow k → s.cfg.feeders[j].position ≤ s.cfg.feeders[k].position)
               ∧ t.feeders = s.feeders.set j (trippedRecord .manual .shallow (s.clk + rx.dt))
               ∧ t.exhausted = false
               ∧ ReplyWaits t rx 0x06 .accepted [byte j.val, byte s.cfg.feeders[j].position])
             ∨ ((∀ j, ¬ MayBeChosen s .shallow j) ∧ t.feeders = s.feeders ∧ t.exhausted = true
               ∧ ReplyWaits t rx 0x06 .acceptedNoEffect [])))

/-- R108, R99, R114: at a publication in DISPATCH that finds the reserve short (SR below SHED_FLOOR, a set ONLINE, none
STARTING and none STOPPED) the reserve-shed timer starts, and when it has run its length one SHALLOW action of width 1
with cause RESERVE is taken and the timer starts again; at any other publication the timer is cleared. The report count
is raised, and at 25 and at the first publication after start-up a feeder report is queued and the count becomes 0. -/
def Obligations.LadderShedsOnReserveAndReports : Prop :=
  ∀ (s : State) (r : BalanceRecord),
    let t := s.ladderTask r
    let fresh : SpanTimer := ⟨s.clk, 10000000 * s.cfg.params[RES_SHED_DELAY]⟩
    t = { s with
        feeders := t.feeders, exhausted := t.exhausted, reserveShed := t.reserveShed, firstReport := false
        reportCount := t.reportCount, txQueue := t.txQueue }
    ∧ (¬ ReserveShort s r → t.reserveShed = none)
    ∧ (ReserveShort s r → s.reserveShed = none → t.reserveShed = some fresh)
    ∧ (∀ timer, ReserveShort s r → s.reserveShed = some timer → s.clk - timer.start < timer.length →
        t.reserveShed = some timer)
    ∧ (∀ timer, ReserveShort s r → s.reserveShed = some timer → timer.length ≤ s.clk - timer.start →
        t.reserveShed = some fresh
        ∧ ∃ found, WalkedOnce s .shallow .reserve s.clk t.feeders found ∧ t.exhausted = !found)
    ∧ ((¬ ReserveShort s r ∨ s.reserveShed = none ∨ ∃ timer, s.reserveShed = some timer
          ∧ s.clk - timer.start < timer.length) → t.feeders = s.feeders ∧ t.exhausted = s.exhausted)
    ∧ (s.firstReport = true ∨ 25 ≤ s.reportCount + 1 →
        t.reportCount = 0 ∧ t.txQueue = enqueue s.txQueue (.feederReport (partsOf t.runs) 0))
    ∧ (s.firstReport = false → s.reportCount + 1 < 25 →
        t.reportCount = s.reportCount + 1 ∧ t.txQueue = s.txQueue)

/-- R111: Open Feeder from a supervisor acts by the state of the feeder it names, in every mode: CLOSED is tripped
with cause MANUAL and no walk behind it, CLOSING is reverted and OPEN_EXT taken over to OPEN_SHED, and the other
states and an index outside 0 to 15 change nothing but the reply. -/
def Obligations.OpenFeederOpensTheNamedFeeder : Prop :=
  ∀ (s : State) (rx : Rx) (index : Byte),
    Hears s rx → FromSupervisor rx → NoAutoStart s →
    (16 ≤ index.toNat → exec (.openFeeder rx index) s =
        .next { s.elapse rx.dt with txQueue := withReply s rx 0x07 .invalid [] })
    ∧ (∀ i : Fin 16, i.val = index.toNat →
        (s.feeders[i].state = .disabled ∨ s.feeders[i].state = .stuckOpen → exec (.openFeeder rx index) s =
            .next { s.elapse rx.dt with txQueue := withReply s rx 0x07 .wrongState [] })
        ∧ (s.feeders[i].state = .opening ∨ s.feeders[i].state = .openShed ∨ s.feeders[i].state = .openHeld
            ∨ s.feeders[i].state = .stuckClosed → exec (.openFeeder rx index) s =
            .next { s.elapse rx.dt with txQueue := withReply s rx 0x07 .acceptedNoEffect [] })
        ∧ (s.feeders[i].state = .closed ∨ s.feeders[i].state = .closing ∨ s.feeders[i].state = .openExt →
            ∃ t, exec (.openFeeder rx index) s = .next t ∧ FeederEventFrame (s.elapse rx.dt) t
              ∧ t.exhausted = s.exhausted ∧ ReplyWaits t rx 0x07 .accepted []
              ∧ (s.feeders[i].state = .closed → t.queue = s.queue ∧ t.settle = s.settle ∧ t.hold = s.hold
                  ∧ t.feeders = s.feeders.set i ⟨.opening, .manual, some (s.clk + rx.dt + 4000000), none, true⟩)
              ∧ (s.feeders[i].state ≠ .closed → t.feeders = s.feeders.set i
                  ⟨.openShed, .manual, none, s.feeders[i].origin, true⟩)
              ∧ (s.feeders[i].state = .closing → (s.ordering = false → t.queue = i :: s.queue)
                  ∧ AfterClosing s i none (s.clk + rx.dt) t.settle t.hold)
              ∧ (s.feeders[i].state = .openExt → PlacedNewlyShed s i t.queue ∧ t.settle = s.settle
                  ∧ t.hold = s.hold)))

/-! ## Restoration Unit -/

/-- R129, R130: Restore Feeder from a supervisor closes the OPEN_SHED, OPEN_HELD or OPEN_EXT feeder it names while the
meter is VALID, whatever the queue, holds, timers, stages, reserve and mode, and Clear Feeder Fault derives the state of
a stuck feeder again from its FSTAT level; any other case of either changes nothing but the reply. -/
def Obligations.RestoreAndClearFaultActOnTheNamedFeeder : Prop :=
  ∀ (s : State) (rx : Rx) (index : Byte),
    (Hears s rx → FromSupervisor rx → NoAutoStart s →
     (16 ≤ index.toNat → exec (.restoreFeeder rx index) s =
         .next { s.elapse rx.dt with txQueue := withReply s rx 0x08 .invalid [] })
     ∧ (∀ i : Fin 16, i.val = index.toNat →
         (s.meter.state ≠ .valid ∨ (s.feeders[i].state ≠ .openShed ∧ s.feeders[i].state ≠ .openHeld
             ∧ s.feeders[i].state ≠ .openExt) → exec (.restoreFeeder rx index) s =
             .next { s.elapse rx.dt with txQueue := withReply s rx 0x08 .wrongState [] })
         ∧ (s.meter.state = .valid → s.feeders[i].state = .openShed ∨ s.feeders[i].state = .openHeld
             ∨ s.feeders[i].state = .openExt →
             ∃ t, exec (.restoreFeeder rx index) s = .next t ∧ FeederEventFrame (s.elapse rx.dt) t
               ∧ t.exhausted = s.exhausted ∧ t.settle = s.settle ∧ t.hold = s.hold
               ∧ ReplyWaits t rx 0x08 .accepted [byte i.val, 6]
               ∧ t.feeders = s.feeders.set i ⟨.closing, s.feeders[i].cause, some (s.clk + rx.dt + 4000000),
                   s.feeders[i].origin, false⟩
               ∧ t.queue = if s.feeders[i].state = .openShed then s.queue.erase i else s.queue)))
    ∧ (Hears s rx → FromSupervisor rx → NoAutoStart s →
       (16 ≤ index.toNat → exec (.clearFeederFault rx index) s =
           .next { s.elapse rx.dt with txQueue := withReply s rx 0x0A .invalid [] })
       ∧ (∀ i : Fin 16, i.val = index.toNat →
           (s.feeders[i].state ≠ .stuckClosed → s.feeders[i].state ≠ .stuckOpen →
             exec (.clearFeederFault rx index) s =
               .next { s.elapse rx.dt with txQueue := withReply s rx 0x0A .acceptedNoEffect [] })
           ∧ (s.feeders[i].state = .stuckClosed ∨ s.feeders[i].state = .stuckOpen →
               let st : FeederState := if s.pins.fstat[i] = true then .closed
                 else if s.feeders[i].state = .stuckClosed then .openShed else .openExt
               ∃ t, exec (.clearFeederFault rx index) s = .next t ∧ FeederEventFrame (s.elapse rx.dt) t
                 ∧ t.exhausted = s.exhausted ∧ t.settle = s.settle ∧ t.hold = s.hold
                 ∧ ReplyWaits t rx 0x0A .accepted [byte i.val, byte st.code]
                 ∧ t.feeders = s.feeders.set i ⟨st, if st = .openShed then s.feeders[i].cause else .none, none,
                     s.feeders[i].origin, decide (st = .openShed)⟩
                 ∧ (st = .openShed → PlacedNewlyShed s i t.queue)
                 ∧ (st ≠ .openShed → t.queue = s.queue))))

/-- R123 to R125, R128: an examination makes the restore delay ELAPSED when its end time is reached, and else leaves it
running; it closes a feeder only when it is the head and every condition holds (the mode, no
hold, a stopped settle timer, no feeder CLOSING, every stage IDLE with the restore delay elapsed, a VALID meter near
nominal, and the reserve for its step load); a head that lacks only the reserve sets the blocked-on-reserve
indication, and every other examination clears it. -/
def Obligations.ExaminationClosesOnlyAReadyHead : Prop :=
  ∀ (s : State) (r : BalanceRecord),
    let t := s.examine r
    let load : Fin 16 → Nat := fun i =>
      (s.cfg.feeders[i].load * (if s.mode = .blackstart then s.cfg.params[CLP] else 100) + 99) / 100
    let ready : Prop := (s.mode = .dispatch ∨ (s.mode = .blackstart ∧ s.seq.phase = .restore))
      ∧ s.hold.state = .none ∧ s.settle = .stopped ∧ (∀ i : Fin 16, s.feeders[i].state ≠ .closing)
      ∧ (∀ k : Fin 8, s.stages[k].state = .idle)
      ∧ (∀ ends, s.restoreDelay = some ends → ends ≤ s.clk)
      ∧ s.meter.state = .valid ∧ ∃ f, s.meter.freq = some f ∧ s.fn ≤ f + s.cfg.params[RESTORE_FREQ]
    t = { s with feeders := t.feeders, queue := t.queue, restoreDelay := t.restoreDelay, blocked := t.blocked }
    ∧ t.restoreDelay = (match s.restoreDelay with
        | some ends => if ends ≤ s.clk then none else some ends
        | none => none)
    ∧ (∀ i, t.feeders[i] ≠ s.feeders[i] → s.queue.head? = some i ∧ ready ∧ load i + r.rr ≤ r.sr
        ∧ t.feeders[i].state = .closing)
    ∧ (∀ i, s.queue.head? = some i → ready → load i + r.rr ≤ r.sr → s.feeders[i].state = .openShed →
        s.notedMeter = .valid →
        t.blocked = none ∧ t.queue = s.queue.tail
        ∧ t.feeders = s.feeders.set i
            ⟨.closing, s.feeders[i].cause, some (s.clk + 4000000), s.feeders[i].origin, false⟩)
    ∧ (∀ i, s.queue.head? = some i → ready → r.sr < load i + r.rr →
        t.blocked = some ⟨load i, (s.blocked.map Blocked.since).getD s.clk⟩
        ∧ t.feeders = s.feeders ∧ t.queue = s.queue)
    ∧ (s.queue = [] ∨ ¬ ready → t.blocked = none ∧ t.feeders = s.feeders ∧ t.queue = s.queue)

/-- R132 to R135: Hold Restoration from a supervisor or a genset controller is answered by the first case that fits, with
the hold state after the request, the holder when there is one, and the time left; only an accepted hold changes the hold
record, and it pauses a RUNNING settle timer at once unless a feeder is CLOSING. Resume Restoration from the holder ends
the hold, resumes a PAUSED settle timer for its kept remaining time and starts tHOLDGAP; from another member it is
NOT_HOLDER, and with no hold it has no effect. The time field of the reply that finds nothing to hold is a free value
(log 15). -/
def Obligations.HoldsStartAndEnd : Prop :=
  ∀ (s : State) (rx : Rx),
    (Hears s rx → FromSupervisor rx ∨ FromGenset s rx →
     let now := s.clk + rx.dt
     let closing : Prop := ∃ i : Fin 16, s.feeders[i].state = .closing
     (∀ holder ends, s.hold.state ≠ .none → s.hold.holder = some holder → s.hold.maxEnds = some ends →
       exec (.holdRestoration rx) s = .next { s.elapse rx.dt with
         txQueue := withReply s rx 0x04 (if holder = rx.src.toNat then .acceptedNoEffect else .busy)
           (byte s.hold.state.code :: byte holder :: be16 (secondsLeft ends now)) })
     ∧ (∀ ends, s.hold = ⟨.none, none, none, some ends⟩ →
       exec (.holdRestoration rx) s = .next { s.elapse rx.dt with
         txQueue := withReply s rx 0x04 .tooSoon (0 :: be16 (secondsLeft ends now)) })
     ∧ (s.hold = ⟨.none, none, none, none⟩ → s.queue = [] → ¬ closing → s.settle = .stopped →
       ∃ b1 b2 n, exec (.holdRestoration rx) s = .next { s.elapse rx.dt with
         txQueue := withReply s rx 0x04 .acceptedNoEffect [0, b1, b2], freeCount := n })
     ∧ (s.hold = ⟨.none, none, none, none⟩ → closing →
       exec (.holdRestoration rx) s = .next { s.elapse rx.dt with
         hold := ⟨.pending, some rx.src.toNat, some (now + 300000000), none⟩
         txQueue := withReply s rx 0x04 .accepted [1, byte rx.src.toNat, 0, 30] })
     ∧ (s.hold = ⟨.none, none, none, none⟩ → ¬ closing → s.queue ≠ [] ∨ s.settle ≠ .stopped →
       exec (.holdRestoration rx) s = .next { s.elapse rx.dt with
         hold := ⟨.inEffect, some rx.src.toNat, some (now + 300000000), none⟩
         settle := match s.settle with
           | .running ends => .paused (ends - now)
           | other => other
         txQueue := withReply s rx 0x04 .accepted [2, byte rx.src.toNat, 0, 30] }))
    ∧ (Hears s rx → FromSupervisor rx ∨ FromGenset s rx →
       let now := s.clk + rx.dt
       let settle : Settle := match s.settle with
         | .paused left => .running (now + left)
         | other => other
       let seconds : Nat := match s.settle with
         | .stopped => 0
         | .running ends => (ends - now + 9999999) / 10000000
         | .paused left => (left + 9999999) / 10000000
       (s.hold.state ≠ .none → s.hold.holder = some rx.src.toNat →
         exec (.resumeRestoration rx) s = .next { s.elapse rx.dt with
           hold := ⟨.none, none, none, some (now + 50000000)⟩, settle := settle
           txQueue := withReply s rx 0x05 .accepted (0 :: be16 seconds) })
       ∧ (s.hold.state ≠ .none → s.hold.holder ≠ some rx.src.toNat →
         exec (.resumeRestoration rx) s = .next { s.elapse rx.dt with
           txQueue := withReply s rx 0x05 .notHolder [byte s.hold.state.code] })
       ∧ (s.hold.state = .none →
         exec (.resumeRestoration rx) s = .next { s.elapse rx.dt with
           txQueue := withReply s rx 0x05 .acceptedNoEffect [0] }))

/-- R127, R135, R172: when due, SETTLE_EXPIRY stops the settle timer, THOLDMAX_EXPIRY ends the hold, THOLDGAP_END
removes the end time and IDLE_EXPIRY discards the window, and none of them changes anything else; one that is not due
lets only time pass (log 2). -/
def Obligations.RestorationAndWindowTimersExpire : Prop :=
  ∀ (s : State) (dt ends : Nat),
    s.power = .running →
    let now := s.clk + dt
    (s.settle = .running ends → exec (.settleExpiry dt) s =
        .next { s.elapse dt with settle := if ends ≤ now then .stopped else .running ends })
    ∧ (s.hold.state ≠ .none → s.hold.maxEnds = some ends → ends ≤ now → exec (.tholdmaxExpiry dt) s =
        .next { s.elapse dt with
          hold := ⟨.none, none, none, some (now + 50000000)⟩
          settle := match s.settle with
            | .paused left => .running (now + left)
            | other => other })
    ∧ (s.hold.maxEnds = some ends → now < ends → exec (.tholdmaxExpiry dt) s = .next (s.elapse dt))
    ∧ (s.hold.gapEnds = some ends → ends ≤ now → exec (.tholdgapEnd dt) s =
        .next { s.elapse dt with hold := { s.hold with gapEnds := none } })
    ∧ (s.hold.gapEnds = some ends → now < ends → exec (.tholdgapEnd dt) s = .next (s.elapse dt))
    ∧ (∀ w, s.window = some w → w.idleEnds ≤ now → exec (.idleExpiry dt) s =
        .next { s.elapse dt with window := none })
    ∧ (∀ w, s.window = some w → now < w.idleEnds → exec (.idleExpiry dt) s = .next (s.elapse dt))

/-! ## Black-Start Sequencer -/

/-- R141 to R143, with R61, R83, R112 and R121: a due trigger timer begins the sequence (attempts 1, the mode BLACKSTART,
PREPARE with its four orders, BS_FAILED kept), and Black Start from a supervisor outside BLACKSTART is answered NOT_DEAD,
NOT_PERMITTED or, when the black-start conditions hold, begins it in the same way, with PREPARE and attempts 1 in its
reply. R140: a dead expiry that makes the black-start conditions hold in DISPATCH with AUTO_BS on starts the trigger
timer with BS_DELAY, and with a BS_DELAY of 0 begins the sequence at that event. -/
def Obligations.TriggersBeginTheSequence : Prop :=
  ∀ (s : State) (dt due e : Nat) (rx : Rx),
    (s.power = .running → s.seq.trigger = some due → due ≤ s.clk + dt → SomeFeederOpens s →
     ∃ t, exec (.triggerTimerExpiry dt) s = .next t ∧ IslandEventFrame (s.elapse dt) t
       ∧ PrepareOrdersGiven s t (s.clk + dt) ∧ t.seq.attempts = 1 ∧ t.seq.failed = s.seq.failed)
    ∧ (Hears s rx → FromSupervisor rx → s.mode ≠ .blackstart →
       (s.meter.state ≠ .dead ∨ ¬ NoSetOnline s → exec (.blackStart rx) s =
           .next { s.elapse rx.dt with txQueue := withReply s rx 0x03 .notDead [] })
       ∧ (s.meter.state = .dead → NoSetOnline s →
           s.seq.abortLevel = true ∨ s.storeBad = true ∨ ¬ SomeCapableSet s → exec (.blackStart rx) s =
           .next { s.elapse rx.dt with txQueue := withReply s rx 0x03 .notPermitted [] })
       ∧ (BlackStartConditions s → SomeFeederOpens s →
           ∃ t, exec (.blackStart rx) s = .next t ∧ IslandEventFrame (s.elapse rx.dt) t
             ∧ PrepareOrdersGiven s t (s.clk + rx.dt) ∧ t.seq.attempts = 1 ∧ t.seq.failed = s.seq.failed
             ∧ ReplyWaits t rx 0x03 .accepted [1, 1]))
    ∧ (s.power = .running → MeterRecordAgrees s → s.meter.state = .lost →
       (s.meter.elapse dt).elapsed = some e → 1000000 < e →
       s.mode = .dispatch → s.seq.phase = .none → s.seq.trigger = none → s.cfg.params[AUTO_BS] = 1 →
       BlackStartConditions { s with meter := { s.meter with state := .dead } } →
       (0 < s.cfg.params[BS_DELAY] →
         ∃ t, exec (.deadExpiry dt) s = .next t ∧ IslandEventFrame (s.elapse dt) t
           ∧ t.mode = .dispatch ∧ t.feeders = s.feeders ∧ t.sets = s.sets
           ∧ t.seq = { s.seq with trigger := some (s.clk + dt + 10000000 * s.cfg.params[BS_DELAY]) })
       ∧ (s.cfg.params[BS_DELAY] = 0 → SomeFeederOpens s →
         ∃ t, exec (.deadExpiry dt) s = .next t ∧ IslandEventFrame (s.elapse dt) t
           ∧ PrepareOrdersGiven s t (s.clk + dt) ∧ t.seq.attempts = 1 ∧ t.seq.failed = s.seq.failed))

/-- R144, R145, R62: when the last OPENING feeder opens in PREPARE, the ordering mark is cleared and FIRST_SET is
entered; the capable set of the lowest priority number among those STOPPED or RESTING is the candidate, STARTING with
the dead-bus mark, its dead-bus start timer and the directive RUN_DEADBUS. When no feeder is CLOSED or OPENING at the entry,
PREPARE ends in the same way at its entry event, with the sets the stop-all order has left STOPPED among the candidates
(R61). -/
def Obligations.PrepareEndsWithTheFirstSetNamed : Prop :=
  ∀ (s : State) (i : Fin 16) (dt due : Nat) (c : Fin 8),
    (s.power = .running → s.mode = .blackstart → s.seq.phase = .prepare → s.meter.state ≠ .valid →
      s.pins.fstat[i] = true → s.feeders[i].state = .opening →
      (∀ j : Fin 16, j ≠ i → s.feeders[j].state ≠ .opening) →
      LowestPriority s (FirstSetCandidate s) c →
      ∃ t, exec (.fstatChange (.set (.replicate 16 false) i true) (.replicate 16 false) dt) s = .next t
        ∧ t.mode = .blackstart ∧ t.seq.phase = .firstSet ∧ t.ordering = false ∧ t.seq.candidate = some c
        ∧ t.sets[c] = deadBusSet s c (s.clk + dt)
        ∧ ∀ k, k ≠ c → t.sets[k] = s.sets[k])
    ∧ (s.power = .running → s.seq.trigger = some due → due ≤ s.clk + dt → s.mode = .dispatch →
      ModeMatchesPhase s → ¬ SomeFeederOpens s → NoSetOnline s → s.meter.state ≠ .valid →
      LowestPriority s (fun k => 0 < s.cfg.roster[k].rating ∧ s.cfg.roster[k].capable = true
        ∧ (s.sets[k].state = .stopped ∨ s.sets[k].state = .resting ∨ s.sets[k].state = .starting)) c →
      ∃ t, exec (.triggerTimerExpiry dt) s = .next t ∧ IslandEventFrame (s.elapse dt) t
        ∧ t.mode = .blackstart ∧ t.seq.phase = .firstSet ∧ t.seq.attempts = 1 ∧ t.ordering = false
        ∧ t.seq.candidate = some c ∧ t.sets[c].state = .starting ∧ t.sets[c].mark = true
        ∧ t.sets[c].directive = .runDeadbus
        ∧ t.sets[c].deadBusTimer = some (s.clk + dt + 10000000 * s.cfg.params[BS_START_TIMEOUT])
        ∧ (∀ j : Fin 16, t.feeders[j] = afterOpenAll s j (s.clk + dt))
        ∧ ∀ k, k ≠ c → 0 < s.cfg.roster[k].rating →
            t.sets[k].state = if s.sets[k].state = .starting then .stopped else s.sets[k].state)

/-- R150, R151: a dead expiry in ADD_SETS, RESTORE or PV_RETURN is a loss of the bus: it raises attempts and enters
PREPARE again with the four orders, and the third one fails the black start with BS_FAILED set, the mode OBSERVE, and
the feeders and the queue left as they stand. The meter record is a consistent one (R3; RecordsStayConsistent). -/
def Obligations.LossOfTheBusRepeatsOrFails : Prop :=
  ∀ (s : State) (dt e : Nat),
    s.power = .running → MeterRecordAgrees s → s.meter.state = .lost → (s.meter.elapse dt).elapsed = some e → 1000000 < e →
    s.mode = .blackstart →
    s.seq.phase = .addSets ∨ s.seq.phase = .restore ∨ s.seq.phase = .pvReturn →
    (s.seq.attempts + 1 < 3 → SomeFeederOpens s →
      ∃ t, exec (.deadExpiry dt) s = .next t ∧ IslandEventFrame (s.elapse dt) t
        ∧ PrepareOrdersGiven s t (s.clk + dt) ∧ t.seq.attempts = s.seq.attempts + 1
        ∧ t.seq.failed = s.seq.failed)
    ∧ (3 ≤ s.seq.attempts + 1 →
      ∃ t, exec (.deadExpiry dt) s = .next t ∧ IslandEventFrame (s.elapse dt) t
        ∧ t.mode = .observe ∧ t.seq.phase = .none ∧ t.seq.attempts = 0 ∧ t.seq.candidate = none
        ∧ t.seq.passedOver = [] ∧ t.seq.block = none ∧ t.seq.failed = true ∧ t.alertPin = true
        ∧ t.forcedZero = false ∧ t.aggU = s.aggU ∧ t.feeders = s.feeders ∧ t.queue = s.queue
        ∧ (∀ i : Fin 8, 0 < s.cfg.roster[i].rating → t.sets[i].directive = .hold))

/-- R145, R146, R151: what the sequencer does in FIRST_SET at an event. With the meter VALID, a candidate under the mark
whose latest report is ON_BUS enters ONLINE with its minimum run, or, when another set is ONLINE, the candidate's mark is
cleared and it goes on as an ordinary start; either way ADD_SETS is entered, with no candidate and nothing passed over, and
looks at once. A candidate in FAILED or UNAVAILABLE is lost; with none, a bus already formed by a set leads to ADD_SETS,
else the lowest-priority capable set that is STOPPED or RESTING is ordered onto the dead bus, else the sequencer waits while
a capable set is neither FAILED nor UNAVAILABLE (log 22), else the black start fails. -/
def Obligations.FirstSetIsFormedLostOrAwaited : Prop :=
  ∀ (s : State),
    let t := s.firstSetCheck
    let otherOnline : Fin 8 → Prop := fun c => ∃ i, i ≠ c ∧ SetIs s .online i
    let adding : State → Prop := fun u => t = u.lookAddSets
      ∧ u = { s with
          sets := u.sets, txQueue := u.txQueue
          seq := { s.seq with phase := .addSets, candidate := none, passedOver := [], runOrder := none } }
    (s.seq.phase ≠ .firstSet → t = s)
    ∧ (s.seq.phase = .firstSet → s.mode = .blackstart →
      (∀ c, s.seq.candidate = some c → 0 < s.cfg.roster[c].rating →
        s.sets[c].state ≠ .failed → s.sets[c].state ≠ .unavailable →
        (s.meter.state = .valid → s.reportsOnBus c = true → s.sets[c].mark = true →
          ∃ u, adding u ∧ (∀ j, j ≠ c → u.sets[j] = s.sets[j])
            ∧ u.sets[c] = SetRec.directed { s.sets[c] with
                state := .online, cause := .none, attempts := 0, startTimer := none, stopTimer := none
                minRun := if s.cfg.roster[c].minRun = 0 then .elapsed
                  else .running (s.clk + 300000000 * s.cfg.roster[c].minRun)
                minDown := none, deadBusTimer := none, stale := false, mark := false } .run)
        ∧ (s.meter.state = .valid → s.reportsOnBus c = false → otherOnline c → s.sets[c].state = .starting →
            s.sets[c].mark = true →
          ∃ u, adding u ∧ (∀ j, j ≠ c → u.sets[j] = s.sets[j])
            ∧ u.sets[c] = SetRec.directed { s.sets[c] with
                mark := false, startTimer := s.sets[c].deadBusTimer, deadBusTimer := none } .run)
        ∧ (s.meter.state ≠ .valid ∨ (s.reportsOnBus c = false ∧ ¬ otherOnline c) → t = s))
      ∧ (s.seq.candidate = none ∨ (∃ c, s.seq.candidate = some c
            ∧ (s.sets[c].state = .failed ∨ s.sets[c].state = .unavailable)) →
        (s.meter.state = .valid → ¬ NoSetOnline s → ∃ u, adding u ∧ u.sets = s.sets ∧ u.txQueue = s.txQueue)
        ∧ (∀ i, LowestPriority s (FirstSetCandidate s) i →
            s.meter.state ≠ .valid ∨ (NoSetOnline s ∧ s.reportsOnBus i = false) →
          t = { s with
              sets := s.sets.set i (deadBusSet s i s.clk), txQueue := t.txQueue
              seq := { s.seq with candidate := some i } })
        ∧ ((∀ i, ¬ FirstSetCandidate s i) → s.meter.state ≠ .valid ∨ NoSetOnline s →
            (SomeCapableSet s → t = { s with seq := { s.seq with candidate := none } })
            ∧ (¬ SomeCapableSet s → t.mode = .observe ∧ t.seq.phase = .none ∧ t.seq.attempts = 0
              ∧ t.seq.candidate = none ∧ t.seq.failed = true ∧ t.forcedZero = false ∧ t.ordering = false
              ∧ t.feeders = s.feeders ∧ t.queue = s.queue))))

/-- R147: a look in ADD_SETS enters RESTORE when BS_SETS sets are ONLINE or no STOPPED set is left that is not passed over,
and else starts the lowest-priority such set under a run order; the next look comes when that set has left STARTING, and a
set that is then not ONLINE is passed over. R148, R83: at a publication in RESTORE an empty queue with no feeder CLOSING, or a
head blocked on reserve since BS_BLOCK_MAX (the length taken when the block timer takes the blocked-since time), enters
PV_RETURN, which clears the block timer and forced zero; no indication clears the block timer. R84, R149: at a publication in
PV_RETURN a U at its target completes the black start in DISPATCH with attempts 0 and BS_FAILED clear. -/
def Obligations.SequenceGoesOnToItsCompletion : Prop :=
  ∀ (s : State) (r : BalanceRecord),
    (let t := s.lookAddSets
     let free : Fin 8 → Prop := fun i => SetIs s .stopped i ∧ i ∉ s.seq.passedOver
     let restore := { s with seq := { s.seq with phase := .restore, runOrder := none } }
     (s.cfg.params[BS_SETS] ≤ countSets s .online ∨ (∀ i, ¬ free i) → t = restore)
     ∧ (countSets s .online < s.cfg.params[BS_SETS] → ∀ i, LowestPriority s free i →
         t = { s with
           sets := s.sets.set i (startedSet s i), txQueue := t.txQueue
           seq := { s.seq with runOrder := some i } }))
    ∧ (let t := s.addSetsCheck
       (s.seq.phase ≠ .addSets ∨ s.seq.runOrder = none
           ∨ (∃ i, s.seq.runOrder = some i ∧ s.sets[i].state = .starting) → t = s)
       ∧ (∀ i, s.seq.phase = .addSets → s.seq.runOrder = some i → s.sets[i].state ≠ .starting →
           t = State.lookAddSets { s with seq := { s.seq with
             runOrder := none
             passedOver := if s.sets[i].state = .online then s.seq.passedOver
               else s.seq.passedOver ++ [i] } }))
    ∧ (let t := s.restoreCheck
       let release := { s with forcedZero := false, seq := { s.seq with phase := .pvReturn, block := none } }
       let done : Prop := s.queue = [] ∧ ∀ i : Fin 16, s.feeders[i].state ≠ .closing
       (s.seq.phase ≠ .restore → t = s)
       ∧ (s.seq.phase = .restore → done → t = release)
       ∧ (s.seq.phase = .restore → ¬ done → s.blocked = none → t = { s with seq := { s.seq with block := none } })
       ∧ (∀ b, s.seq.phase = .restore → ¬ done → s.blocked = some b →
           let kept : Prop := ∃ timer, s.seq.block = some timer ∧ timer.since = b.since
           (∀ timer, s.seq.block = some timer → timer.since = b.since →
             (timer.length ≤ s.clk - b.since → t = release)
             ∧ (s.clk - b.since < timer.length → t = s))
           ∧ (¬ kept → (10000000 * s.cfg.params[BS_BLOCK_MAX] ≤ s.clk - b.since → t = release)
             ∧ (s.clk - b.since < 10000000 * s.cfg.params[BS_BLOCK_MAX] →
               t = { s with seq := { s.seq with
                 block := some ⟨b.since, 10000000 * s.cfg.params[BS_BLOCK_MAX]⟩ } }))))
    ∧ (let t := s.curtailmentTask r
       let u := s.curtailmentWork r
       (s.mode ≠ .blackstart ∨ s.seq.phase ≠ .pvReturn ∨ u.aggU ≠ r.uTarget → t = u)
       ∧ (s.mode = .blackstart → s.seq.phase = .pvReturn → u.aggU = r.uTarget →
           t = { u with
             mode := .dispatch, shortfall := none, surplus := none, reserveShed := none
             sets := t.sets, txQueue := t.txQueue
             seq := { s.seq with
               phase := .none, attempts := 0, candidate := none, passedOver := [], block := none
               runOrder := none, failed := false } }
           ∧ (DirectivesFollowStates s → t.sets = s.sets ∧ t.txQueue = u.txQueue)))

/-- R152: a rising edge on BSABORT ends a running sequence in OBSERVE with BS_FAILED kept, no dead-bus mark left, and
feeders, queue and ceilings as they stand; outside a sequence an edge, and during one a falling edge, only records the
level (in FIRST_SET and ADD_SETS the sequencer looks at that event as at every other, log 7). A command that names the
level the line has lets only time pass (log 2). -/
def Obligations.BsabortRisingEdgeEndsTheSequence : Prop :=
  ∀ (s : State) (level : Bool) (dt : Nat),
    let pinned := { s.elapse dt with pins := { s.pins with bsabort := level } }
    (s.power = .running → s.pins.bsabort = false → s.seq.abortLevel = false → level = true →
      s.mode = .blackstart → s.seq.phase ≠ .none →
      ∃ t, exec (.bsabortEdge level dt) s = .next t ∧ IslandEventFrame pinned t
        ∧ t.mode = .observe ∧ t.seq = ⟨.none, 0, none, none, [], none, s.seq.failed, none, true⟩
        ∧ t.ordering = false ∧ t.forcedZero = false ∧ t.aggU = s.aggU ∧ t.plants = s.plants
        ∧ t.feeders = s.feeders ∧ t.queue = s.queue
        ∧ (∀ i : Fin 8, t.sets[i].mark = false)
        ∧ (∀ i : Fin 8, 0 < s.cfg.roster[i].rating → t.sets[i].directive = .hold)
        ∧ (∀ i : Fin 8, s.sets[i].mark = true → s.sets[i].state = .starting →
            (s.reportsOnBus i = true → t.sets[i].state = .online)
            ∧ (s.reportsOnBus i = false → t.sets[i].state = .starting
                ∧ t.sets[i].startTimer = s.sets[i].deadBusTimer)))
    ∧ (s.power = .running → s.pins.bsabort = !level → s.seq.phase = .none → level = true ∨ NoAutoStart s →
      ∃ t, exec (.bsabortEdge level dt) s = .next t
        ∧ EndsAs s { pinned with seq := { s.seq with abortLevel := level } } t)
    ∧ (s.power = .running → s.pins.bsabort = true → level = false → SequencerListens s →
      ∃ u t, exec (.bsabortEdge level dt) s = .next t
        ∧ EndsAs s { pinned with seq := { s.seq with abortLevel := level } } u ∧ SequencerLooks u t)
    ∧ (s.power ≠ .running → exec (.bsabortEdge level dt) s = .next pinned)
    ∧ (s.pins.bsabort = level → exec (.bsabortEdge level dt) s = .next (s.elapse dt))

/-! ## Commitment Unit -/

/-- R36, R37, R38, R39, R40, R41: a SET_REPORT of a configured set fills its slot, restarts its lost timer, clears
STALE, and moves its runtime record as the truth table says, with or without a running sequence; in FIRST_SET and
ADD_SETS the sequencer then looks at what the report has made (R145 to R147, SequencerLooks). That the lost timer runs on
after a report that takes the set into FAILED, where R46 stops its timers, is the model's choice (log 13). -/
def Obligations.SetReportFollowsTheTruthTable : Prop :=
  ∀ (s : State) (rx : Rx) (code : Byte) (output : BitVec 16) (i : Fin 8) (c : ControllerState),
    Hears s rx → SequencerListens s → 0 < s.cfg.roster[i].rating → s.cfg.roster[i].address = rx.src.toNat →
    (∀ j : Fin 8, 0 < s.cfg.roster[j].rating → s.cfg.roster[j].address = rx.src.toNat → j = i) →
    ControllerState.ofCode code.toNat = some c →
    let now := s.clk + rx.dt
    let r := s.sets[i]
    let e := s.cfg.roster[i]
    let attempted : Prop := r.state = .starting ∧ c = .tripped ∧ r.mark = false
    ∃ u t, exec (.setReport rx code output) s = .next t ∧ SequencerLooks u t
      ∧ OneSetMoves { s.elapse rx.dt with setSlots := s.setSlots.set i (some ⟨c, output.toNat, now⟩) } u i
      ∧ u.sets[i].state = stateAfterReport s i c
      ∧ u.sets[i].lostTimer = some (now + 100000000) ∧ u.sets[i].stale = false
      ∧ (stateAfterReport s i c = r.state →
          u.sets[i] = { r with lostTimer := some (now + 100000000), stale := false })
      ∧ (stateAfterReport s i c ≠ r.state →
          u.sets[i].directive = wantedDirective s.mode u.sets[i].state u.sets[i].mark
          ∧ u.sets[i].attempts = (if u.sets[i].state = .online then 0
              else if attempted then r.attempts + 1 else r.attempts)
          ∧ u.sets[i].cause = (if u.sets[i].state = .online then .none
              else if u.sets[i].state = .failed then
                (if r.state = .starting then (if r.mark = true then .bsStartFailed else .startExhausted)
                  else .tripped)
              else r.cause)
          ∧ (u.sets[i].state = .online → u.sets[i].minRun =
              if r.state = .unknown ∨ e.minRun = 0 then .elapsed else .running (now + 300000000 * e.minRun))
          ∧ (u.sets[i].state = .starting → u.sets[i].startTimer = some (now + 50000000 * e.startTimeout))
          ∧ (u.sets[i].state = .resting → u.sets[i].minDown = some (now + (if attempted then
              max (10000000 * s.cfg.params[RETRY_DELAY]) (300000000 * e.minDown)
              else 300000000 * e.minDown))))

/-- R39 to R46, R62, with or without a running sequence: a due lost timer gives an ONLINE set the STALE flag, puts a set in
UNKNOWN, STOPPED, STARTING, STOPPING or RESTING into UNAVAILABLE with attempts and fault cause kept, and changes neither a
FAILED nor an UNAVAILABLE set (that it runs in FAILED at all is the model's choice, log 13); when due, the start timer counts a failed attempt, the stop timer fails the set with
FAIL_TO_STOP and the minimum-down timer ends RESTING; in FIRST_SET and ADD_SETS the sequencer then looks at what the expiry
has made (R145 to R147, SequencerLooks). The minimum-run timer becomes ELAPSED when due, runs on when not (log 2), and
changes nothing else; the dead-bus start timer puts its marked set in FAILED with cause BS_START_FAILED and no attempt
counted. -/
def Obligations.SetTimersExpire : Prop :=
  ∀ (s : State) (i : Fin 8) (dt due : Nat),
    (s.power = .running → SequencerListens s → due ≤ s.clk + dt →
     let r := s.sets[i]
     (r.lostTimer = some due →
       ∃ u t, exec (.lostTimerExpiry i dt) s = .next t ∧ OneSetMoves (s.elapse dt) u i ∧ SequencerLooks u t
         ∧ (r.state = .online → u.sets[i] = { r with lostTimer := none, stale := true })
         ∧ (r.state = .failed ∨ r.state = .unavailable → u.sets[i] = { r with lostTimer := none })
         ∧ (r.state ≠ .online → r.state ≠ .failed → r.state ≠ .unavailable →
             u.sets[i] = { r with
               state := .unavailable, startTimer := none, stopTimer := none, minRun := .absent, minDown := none
               deadBusTimer := none, lostTimer := none, stale := false, mark := false
               directive := u.sets[i].directive, dirSeq := u.sets[i].dirSeq }
             ∧ (0 < s.cfg.roster[i].rating →
                 u.sets[i].directive = wantedDirective s.mode .unavailable false)))
     ∧ (r.state = .starting → r.startTimer = some due →
       ∃ u t, exec (.startTimerExpiry i dt) s = .next t ∧ OneSetMoves (s.elapse dt) u i ∧ SequencerLooks u t
         ∧ u.sets[i].state = stateAfterFailedAttempt s i ∧ u.sets[i].attempts = r.attempts + 1
         ∧ u.sets[i].startTimer = none
         ∧ (u.sets[i].state = .failed → u.sets[i].cause = .startExhausted)
         ∧ (u.sets[i].state = .resting → u.sets[i].minDown = some (s.clk + dt
             + max (10000000 * s.cfg.params[RETRY_DELAY]) (300000000 * s.cfg.roster[i].minDown)))
         ∧ (0 < s.cfg.roster[i].rating →
             u.sets[i].directive = wantedDirective s.mode u.sets[i].state false))
     ∧ (r.state = .stopping → r.stopTimer = some due →
       ∃ u t, exec (.stopTimerExpiry i dt) s = .next t ∧ OneSetMoves (s.elapse dt) u i ∧ SequencerLooks u t
         ∧ u.sets[i].state = .failed ∧ u.sets[i].cause = .failToStop ∧ u.sets[i].stopTimer = none
         ∧ u.sets[i].attempts = r.attempts
         ∧ (0 < s.cfg.roster[i].rating → u.sets[i].directive = wantedDirective s.mode .failed false))
     ∧ (r.state = .resting → r.minDown = some due →
       ∃ u t, exec (.minimumDownExpiry i dt) s = .next t ∧ OneSetMoves (s.elapse dt) u i ∧ SequencerLooks u t
         ∧ u.sets[i].state = .stopped ∧ u.sets[i].minDown = none ∧ u.sets[i].attempts = r.attempts
         ∧ u.sets[i].cause = r.cause
         ∧ (0 < s.cfg.roster[i].rating → u.sets[i].directive = wantedDirective s.mode .stopped false)))
    ∧ (s.power = .running →
       (s.sets[i].minRun = .running due → exec (.minimumRunExpiry i dt) s = .next { s.elapse dt with
         sets := s.sets.set i { s.sets[i] with
           minRun := if due ≤ s.clk + dt then .elapsed else .running due } })
       ∧ (NoAutoStart s → s.sets[i].mark = true → s.sets[i].deadBusTimer = some due → due ≤ s.clk + dt →
         ∃ t, exec (.deadBusStartTimerExpiry i dt) s = .next t ∧ IslandEventFrame (s.elapse dt) t
           ∧ t.feeders = s.feeders ∧ t.plants = s.plants ∧ t.stages = s.stages ∧ t.meter = s.meter.elapse dt
           ∧ t.sets[i].state = .failed ∧ t.sets[i].cause = .bsStartFailed ∧ t.sets[i].mark = false
           ∧ t.sets[i].deadBusTimer = none ∧ t.sets[i].attempts = s.sets[i].attempts
           ∧ (0 < s.cfg.roster[i].rating → t.sets[i].directive = wantedDirective t.mode .failed false)))

/-- R51 to R55, R50, R49: at a publication at which the start rule is evaluated and the island is short, the shortfall
timer runs from the first such publication; when it has reached its length, or the shortfall is deep, the lowest-priority
STOPPING set that still reports ON_BUS returns to ONLINE with its minimum run ELAPSED, else, with fewer than two sets
STARTING, the lowest-priority STOPPED set enters STARTING, and the timer is cleared. With no such set the timer stands; at
a publication that is not short or does not evaluate the rule it is cleared. A start made or a shortfall leaves no surplus
timer. One SET_DIRECTIVE is queued for each configured set. -/
def Obligations.StartRuleStartsOneSetWhenShort : Prop :=
  ∀ (s : State) (r : BalanceRecord),
    let t := s.commitmentTask r
    let timer : SpanTimer := s.shortfall.getD ⟨s.clk, 10000000 * s.cfg.params[START_DELAY]⟩
    let due : Prop := timer.length ≤ s.clk - timer.start ∨ r.sr < effectiveReserve s r / 2
    let noRedirect : Prop := ∀ i, ¬ MayBeRedirected s i
    t = { s with sets := t.sets, shortfall := t.shortfall, surplus := t.surplus, txQueue := t.txQueue }
    ∧ (∀ i : Fin 8, 0 < s.cfg.roster[i].rating →
        .setDirective i s.cfg.roster[i].address t.sets[i].directive t.sets[i].dirSeq ∈ t.txQueue)
    ∧ (StartRuleRuns s → IslandShort s r → t.surplus = none
      ∧ (due → ∀ i, LowestPriority s (MayBeRedirected s) i →
          t.shortfall = none ∧ (∀ j, j ≠ i → t.sets[j] = s.sets[j])
          ∧ t.sets[i] = SetRec.directed { s.sets[i] with
              state := .online, cause := .none, attempts := 0, startTimer := none, stopTimer := none
              minRun := .elapsed, minDown := none, deadBusTimer := none, stale := false, mark := false } .run)
      ∧ (due → noRedirect → countSets s .starting < 2 → ∀ i, LowestPriority s (SetIs s .stopped) i →
          t.shortfall = none ∧ (∀ j, j ≠ i → t.sets[j] = s.sets[j]) ∧ t.sets[i] = startedSet s i)
      ∧ (¬ due ∨ (noRedirect ∧ (2 ≤ countSets s .starting ∨ ∀ i, ¬ SetIs s .stopped i)) →
          t.shortfall = some timer ∧ t.sets = s.sets))
    ∧ (¬ StartRuleRuns s ∨ ¬ IslandShort s r → t.shortfall = none)
    ∧ (¬ StartRuleRuns s → t.surplus = none ∧ t.sets = s.sets)

/-- R51, R56 to R59: in DISPATCH, with no set STARTING or STOPPING, an empty Restoration Queue, at least two sets ONLINE
and no shortfall, the candidate is the highest-priority-number ONLINE set with a fresh report and its minimum run ELAPSED;
while the projection without it shows a surplus the surplus timer runs for it, and at its length the candidate enters
STOPPING with its stop timer and the directive STOP. A candidate without a surplus, no candidate, and a publication at
which the rule is not evaluated clear the timer. No set goes from ONLINE to STOPPING otherwise. -/
def Obligations.StopRuleStopsTheCandidateWithASurplus : Prop :=
  ∀ (s : State) (r : BalanceRecord),
    let t := s.commitmentTask r
    (StopRuleRuns s r → ∀ c, HighestPriority s (MayBeStopped s r) c →
      (HasSurplus s r c →
        (∀ timer, s.surplus = some timer → timer.candidate = c → timer.length ≤ s.clk - timer.start →
          t.surplus = none ∧ (∀ j, j ≠ c → t.sets[j] = s.sets[j])
          ∧ t.sets[c] = SetRec.directed { s.sets[c] with
              state := .stopping, minRun := .absent, stale := false
              stopTimer := some (s.clk + 50000000 * s.cfg.roster[c].startTimeout) }
              (wantedDirective .dispatch .stopping s.sets[c].mark))
        ∧ (∀ timer, s.surplus = some timer → timer.candidate = c → s.clk - timer.start < timer.length →
          t.surplus = some timer ∧ t.sets = s.sets)
        ∧ ((∀ timer, s.surplus = some timer → timer.candidate ≠ c) →
          t.surplus = some ⟨s.clk, 10000000 * s.cfg.params[STOP_DELAY], c⟩ ∧ t.sets = s.sets))
      ∧ (¬ HasSurplus s r c → t.surplus = none ∧ t.sets = s.sets))
    ∧ (StopRuleRuns s r → (∀ c, ¬ MayBeStopped s r c) → t.surplus = none ∧ t.sets = s.sets)
    ∧ (¬ StopRuleRuns s r → t.surplus = none)
    ∧ (∀ i, SetIs s .online i → t.sets[i].state = .stopping →
        StopRuleRuns s r ∧ MayBeStopped s r i ∧ HasSurplus s r i)

/-- R64: Clear Set Fault from a supervisor derives the state of a FAILED set again from the latest report in its slot,
with attempts 0, no fault cause and the lost timer restarted; an empty entry or an index outside 0 to 7 is INVALID,
and a set that is not FAILED is left as it is. In FIRST_SET and ADD_SETS the sequencer then looks at what the request
has made (R145 to R147, SequencerLooks). That the reply carries the state derived again, also where that look orders the
set onto the dead bus and so makes it STARTING at the same event, is the model's choice (log 43: R64 with R145). -/
def Obligations.ClearSetFaultRederivesFromTheSlot : Prop :=
  ∀ (s : State) (rx : Rx) (index : Byte),
    Hears s rx → FromSupervisor rx →
    (8 ≤ index.toNat ∨ (∃ i : Fin 8, i.val = index.toNat ∧ s.cfg.roster[i].rating = 0) →
      exec (.clearSetFault rx index) s =
        .next { s.elapse rx.dt with txQueue := withReply s rx 0x09 .invalid [] })
    ∧ (∀ i : Fin 8, i.val = index.toNat → 0 < s.cfg.roster[i].rating → s.sets[i].state ≠ .failed →
        exec (.clearSetFault rx index) s =
          .next { s.elapse rx.dt with txQueue := withReply s rx 0x09 .acceptedNoEffect [] })
    ∧ (∀ i : Fin 8, i.val = index.toNat → 0 < s.cfg.roster[i].rating → s.sets[i].state = .failed →
        SequencerListens s →
        ∃ u t, exec (.clearSetFault rx index) s = .next t ∧ SequencerLooks u t
          ∧ u = { s.elapse rx.dt with
              sets := u.sets, txQueue := u.txQueue, seq := { s.seq with trigger := none }
              alertPin := u.alertSet.any }
          ∧ (∀ j, j ≠ i → u.sets[j] = s.sets[j])
          ∧ u.sets[i].state = (match s.setSlots[i] with
              | some slot => if slot.state = .off then .stopped else if slot.state = .onBus then .online
                  else .unknown
              | none => .unknown)
          ∧ u.sets[i].attempts = 0 ∧ u.sets[i].cause = .none
          ∧ u.sets[i].lostTimer = some (s.clk + rx.dt + 100000000)
          ∧ u.sets[i].minRun = (if u.sets[i].state = .online then .elapsed else .absent)
          ∧ u.sets[i].directive = wantedDirective s.mode u.sets[i].state false
          ∧ ReplyWaits u rx 0x09 .accepted [byte u.sets[i].state.code])

/-! ## Station Bus Interface -/

/-- R17, R32, R177, R182, R186, R187: TAKE moves the head frame into an empty buffer and fills in the cycle number, the
lane and U (a feeder report stays at the head until its last part has been sent); FRAME_SENT frees the buffer, and lets a
waiting lane change take effect; OFFERED_AGAIN fills nothing in again, and a lane change that waits takes effect at it
(log 25). A TAKE or FRAME_SENT that finds nothing to take or to send lets only time pass (log 4). A change of LANE takes
effect at once unless a frame of the device's own is on the wire (with an empty buffer none is, log 24), and takes a
buffered frame with it; a change of CFGLOCK only takes the level. Outside running only the pin moves. -/
def Obligations.LanesAndBufferCarryTheFrames : Prop :=
  ∀ (s : State) (dt : Nat) (level : Bool) (wire : Wire),
    (s.power = .running →
     let lane : Lane := if s.pins.lane = true then .b else .a
     (∀ parts n rest, s.txBuffer = none → s.txQueue = .feederReport parts n :: rest →
       exec (.take dt) s = .next { s.elapse dt with
         txQueue := .feederReport parts (n + 1) :: rest
         txBuffer := some ⟨.feederReport parts n, s.cycle, s.lane, s.aggU, n⟩ })
     ∧ (∀ f rest, s.txBuffer = none → s.txQueue = f :: rest → f.key ≠ .feederReport →
       exec (.take dt) s = .next { s.elapse dt with
         txQueue := rest, txBuffer := some ⟨f, s.cycle, s.lane, s.aggU, 0⟩ })
     ∧ (s.txBuffer ≠ none ∨ s.txQueue = [] → exec (.take dt) s = .next (s.elapse dt))
     ∧ (s.txBuffer ≠ none →
         (let sent : List Frame := match s.txQueue with
           | .feederReport parts n :: rest => if parts.length ≤ n then rest else .feederReport parts n :: rest
           | queue => queue
         (s.laneWaiting = false → exec (.frameSent dt) s = .next { s.elapse dt with
           txBuffer := none, txQueue := sent })
         ∧ (s.laneWaiting = true → exec (.frameSent dt) s = .next { s.elapse dt with
           txBuffer := none, txQueue := sent, lane := lane, laneWaiting := false })))
     ∧ (s.txBuffer = none → exec (.frameSent dt) s = .next (s.elapse dt))
     ∧ (s.laneWaiting = false → exec (.offeredAgain dt) s = .next (s.elapse dt))
     ∧ (s.laneWaiting = true → exec (.offeredAgain dt) s = .next { s.elapse dt with
         lane := lane, laneWaiting := false, txBuffer := s.txBuffer.map fun b => { b with lane := lane } }))
    ∧ (let laned := { s.elapse dt with pins := { s.pins with lane := level } }
       let keyed := { s.elapse dt with pins := { s.pins with cfglock := level } }
       let lane : Lane := if level = true then .b else .a
       (s.power = .running → s.pins.lane ≠ level → wire ≠ .sending ∨ s.txBuffer = none →
         exec (.laneChange level wire dt) s = .next { laned with
           lane := lane, laneWaiting := false, txBuffer := s.txBuffer.map fun b => { b with lane := lane } })
       ∧ (s.power = .running → s.pins.lane ≠ level → wire = .sending → s.txBuffer ≠ none →
         exec (.laneChange level wire dt) s = .next { laned with laneWaiting := true })
       ∧ (s.power ≠ .running → exec (.laneChange level wire dt) s = .next laned)
       ∧ (s.power = .running → s.pins.cfglock ≠ level →
         exec (.cfglockChange level dt) s = .next { keyed with cfglockLevel := level })
       ∧ (s.power ≠ .running → exec (.cfglockChange level dt) s = .next keyed))

/-- R183, R188: the frame of every well-formed frame command, with its kind, its source address and its data bytes
laid out as 11.5.2 says, spells exactly that command; every frame of at most eight data bytes spells one well-formed
command of its kind, source and data, and a frame received alone is the command the next step runs. Which command stands
for a frame that fits no row is the model's form (log 29). -/
def Obligations.ReceivedFramesSpellTheirCommands : Prop :=
  ∀ (c : Instr) (rx : Rx) (kind : BitVec 5) (data : List Byte) (s : State),
    (c.wf = true → c.rx? = some rx → c.frame? = some (kind, data) →
      decodeFrame rx.dt rx.lane (kind ++ rx.src) data = c)
    ∧ (data.length ≤ 8 → (decodeFrame rx.dt rx.lane (kind ++ rx.src) data).wf = true
      ∧ (decodeFrame rx.dt rx.lane (kind ++ rx.src) data).rx? = some rx
      ∧ (decodeFrame rx.dt rx.lane (kind ++ rx.src) data).frame? = some (kind, data))
    ∧ (s.pending = [] → step (s.receive rx.dt rx.lane (kind ++ rx.src) data)
        = exec (decodeFrame rx.dt rx.lane (kind ++ rx.src) data) s)

/-- R184, R183: a PV_REPORT of a configured plant replaces the whole content of its slot, with its arrival time, and
changes nothing else. R181 to R183, R161: a frame on the lane that is not selected or outside running, a frame of another
kind, a report from an address that no configured entry holds or with a code above 5, and a request from a PV controller
or from an address that is not configured are discarded: only time passes. -/
def Obligations.PvReportsFillSlotsAndBadFramesAreDiscarded : Prop :=
  ∀ (s : State) (c : Instr) (rx : Rx) (output available : BitVec 16) (p : Fin 4),
    (Hears s rx → 0 < s.cfg.pv[p].rating → s.cfg.pv[p].address = rx.src.toNat →
     (∀ j : Fin 4, 0 < s.cfg.pv[j].rating → s.cfg.pv[j].address = rx.src.toNat → j = p) →
     exec (.pvReport rx output available) s = .next { s.elapse rx.dt with
       pvSlots := s.pvSlots.set p (some ⟨output.toNat, available.toNat, s.clk + rx.dt⟩) })
    ∧ (c.rx? = some rx →
       let noSet : Prop := ∀ i : Fin 8, 0 < s.cfg.roster[i].rating → s.cfg.roster[i].address ≠ rx.src.toNat
       let noPlant : Prop := ∀ p : Fin 4, 0 < s.cfg.pv[p].rating → s.cfg.pv[p].address ≠ rx.src.toNat
       (¬ Hears s rx ∨ (∃ kind data, c = .frameOfOtherKind rx kind data)
         ∨ (∃ code output, c = .setReport rx code output ∧ (noSet ∨ 5 < code.toNat))
         ∨ (∃ output available, c = .pvReport rx output available ∧ noPlant)
         ∨ ((c.code?.isSome = true ∨ ∃ code, c = .unknownRequestCode rx code) ∧ ¬ FromSupervisor rx ∧ noSet)) →
       exec c s = .next (s.elapse rx.dt))

/-- R171, R183: an ENTRY_DATA frame from the window's owner with its table identity is written at the pointer, which
advances and wraps, and restarts the idle timer; any other frame while a window is open is counted; with no window a
supervisor is answered NO_WINDOW; a frame of wrong length or from a sender that is not configured is discarded. -/
def Obligations.EntryFramesAreStagedCountedOrAnswered : Prop :=
  ∀ (s : State) (rx : Rx) (first : Byte) (fields : List Byte),
    Hears s rx →
    let configured : Prop := FromSupervisor rx
      ∨ (∃ i : Fin 8, 0 < s.cfg.roster[i].rating ∧ s.cfg.roster[i].address = rx.src.toNat)
      ∨ (∃ p : Fin 4, 0 < s.cfg.pv[p].rating ∧ s.cfg.pv[p].address = rx.src.toNat)
    let fits : Prop := fields.length = if first.toNat / 64 = 0 ∨ first.toNat / 64 = 3 then 7 else 3
    (fits → configured → ∀ w, s.window = some w → rx.src.toNat = w.owner →
        first.toNat / 64 = w.staging.table.code →
      exec (.entryData rx (first :: fields)) s = .next { s.elapse rx.dt with
        window := some { w with
          staging := w.staging.write w.pointer fields
          pointer := if w.pointer = w.last then w.first else w.pointer + 1
          idleEnds := s.clk + rx.dt + 20000000 } })
    ∧ (fits → configured → ∀ w, s.window = some w →
        rx.src.toNat ≠ w.owner ∨ first.toNat / 64 ≠ w.staging.table.code →
      exec (.entryData rx (first :: fields)) s = .next { s.elapse rx.dt with
        window := some { w with rejected := min 255 (w.rejected + 1) } })
    ∧ (fits → s.window = none → FromSupervisor rx →
      exec (.entryData rx (first :: fields)) s = .next { s.elapse rx.dt with
        txQueue := withReply s rx 0x15 .noWindow [] })
    ∧ (¬ fits ∨ ¬ configured ∨ (s.window = none ∧ ¬ FromSupervisor rx) →
      exec (.entryData rx (first :: fields)) s = .next (s.elapse rx.dt))
    ∧ exec (.entryData rx []) s = .next (s.elapse rx.dt)

/-! ## Request Handler -/

/-- R161, R162, 8.4: a request that a check of the order refuses changes nothing but the reply: an unknown code is
INVALID before anything else, then NOT_PERMITTED by role, SEQ_ACTIVE in BLACKSTART, LOCKED under the lock, and BUSY
while a save runs or a window is open. Model's choices: the code field of a reply to an unknown code above 31 is a free
value (log 15), and a refused reply carries no data but the lock bytes of Clear Lock, so that the NOT_PERMITTED and
SEQ_ACTIVE replies to Resume Dispatch and Enter Observe name no mode (log 17: R162 against R163). -/
def Obligations.RefusedRequestsChangeOnlyTheReply : Prop :=
  ∀ (s : State) (c : Instr) (rx : Rx) (code : BitVec 5) (unknown : Byte),
    Hears s rx →
    let answered : Result → List Byte → Prop := fun result data =>
      exec c s = .next { s.elapse rx.dt with txQueue := withReply s rx code result data }
    let locked : Prop := s.cfg.lockFlag = true ∧ s.cfglockLevel = true
    let refusedByMode : Prop := c.refusedInBlackStart = true ∧ s.mode = .blackstart
    (FromSupervisor rx ∨ FromGenset s rx → ∃ field,
        exec (.unknownRequestCode rx unknown) s =
          .next { s.elapse rx.dt with txQueue := withReply s rx field .invalid [] }
        ∧ (unknown.toNat < 32 → field.toNat = unknown.toNat))
    ∧ (c.rx? = some rx → c.code? = some code →
        (FromGenset s rx → code ∉ codesForGensets → answered .notPermitted [])
        ∧ (FromSupervisor rx → refusedByMode → answered .seqActive [])
        ∧ (FromSupervisor rx → ¬ refusedByMode → code ∈ codesUnderLock → locked → answered .locked
            (if code = 0x12 then [1, 1] else []))
        ∧ (FromSupervisor rx → ¬ refusedByMode → ¬ (code ∈ codesUnderLock ∧ locked) →
            (code ∈ codesBusyInSave ∧ s.save ≠ none) ∨ ((code = 0x0E ∨ code = 0x10) ∧ s.window ≠ none) →
            answered .busy []))

/-- R163, R158, R159, R48, R49: Enter Observe in DISPATCH and Resume Dispatch in OBSERVE change the mode, derive every
directive again and clear the timers a mode change clears; their other cases change nothing but the reply, and a
refused one carries no mode (log 17). R140: Resume Dispatch on a dead island with AUTO_BS on starts the trigger timer, and
with a BS_DELAY of 0 goes on to BLACKSTART at the same event, with DISPATCH in its reply (log 39). -/
def Obligations.ResumeAndObserveMoveTheMode : Prop :=
  ∀ (s : State) (rx : Rx),
    Hears s rx → FromSupervisor rx →
    let derived : Mode → State → Prop := fun mode t => ∀ i : Fin 8, t.sets[i] = { s.sets[i] with
      directive := t.sets[i].directive
      dirSeq := s.sets[i].dirSeq + if t.sets[i].directive = s.sets[i].directive then 0 else 1 }
      ∧ (0 < s.cfg.roster[i].rating →
          t.sets[i].directive = wantedDirective mode s.sets[i].state s.sets[i].mark)
      ∧ (t.sets[i].directive ≠ s.sets[i].directive →
          .setDirective i s.cfg.roster[i].address t.sets[i].directive t.sets[i].dirSeq ∈ t.txQueue)
    (s.mode = .dispatch → s.seq.phase = .none →
      ∃ t, exec (.enterObserve rx) s = .next t
        ∧ t = { s.elapse rx.dt with
            mode := .observe, shortfall := none, surplus := none, reserveShed := none, sets := t.sets
            txQueue := t.txQueue, seq := { s.seq with trigger := none }, alertPin := t.alertSet.any }
        ∧ derived .observe t ∧ ReplyWaits t rx 0x02 .accepted [0])
    ∧ (s.mode = .observe → exec (.enterObserve rx) s =
        .next { s.elapse rx.dt with txQueue := withReply s rx 0x02 .acceptedNoEffect [0] })
    ∧ (s.mode = .observe → s.seq.phase = .none → s.window = none →
        (∃ i : Fin 8, 0 < s.cfg.roster[i].rating) → (s.cfg.params[AUTO_BS] = 1 → s.meter.state ≠ .dead) →
      ∃ t, exec (.resumeDispatch rx) s = .next t
        ∧ t = { s.elapse rx.dt with
            mode := .dispatch, shortfall := none, surplus := none, reserveShed := none, sets := t.sets
            txQueue := t.txQueue, seq := { s.seq with trigger := none, failed := false }
            alertPin := t.alertSet.any }
        ∧ derived .dispatch t ∧ ReplyWaits t rx 0x01 .accepted [1])
    ∧ (s.mode = .observe → s.seq.phase = .none → s.seq.trigger = none → s.window = none →
        s.cfg.params[AUTO_BS] = 1 → BlackStartConditions s →
      (0 < s.cfg.params[BS_DELAY] → ∃ t, exec (.resumeDispatch rx) s = .next t
        ∧ t = { s.elapse rx.dt with
            mode := .dispatch, shortfall := none, surplus := none, reserveShed := none, sets := t.sets
            txQueue := t.txQueue, alertPin := t.alertSet.any
            seq := { s.seq with
              trigger := some (s.clk + rx.dt + 10000000 * s.cfg.params[BS_DELAY]), failed := false } }
        ∧ derived .dispatch t ∧ ReplyWaits t rx 0x01 .accepted [1])
      ∧ (s.cfg.params[BS_DELAY] = 0 → SomeFeederOpens s → ∃ t, exec (.resumeDispatch rx) s = .next t
        ∧ IslandEventFrame (s.elapse rx.dt) t ∧ PrepareOrdersGiven s t (s.clk + rx.dt)
        ∧ t.seq.attempts = 1 ∧ t.seq.failed = false ∧ ReplyWaits t rx 0x01 .accepted [1]))
    ∧ (s.mode = .dispatch → exec (.resumeDispatch rx) s =
        .next { s.elapse rx.dt with txQueue := withReply s rx 0x01 .acceptedNoEffect [1] })
    ∧ (s.mode = .observe → s.window ≠ none → exec (.resumeDispatch rx) s =
        .next { s.elapse rx.dt with txQueue := withReply s rx 0x01 .busy [] })
    ∧ (s.mode = .observe → s.window = none → (∀ i : Fin 8, s.cfg.roster[i].rating = 0) →
        exec (.resumeDispatch rx) s =
        .next { s.elapse rx.dt with txQueue := withReply s rx 0x01 .wrongMode [] })

/-- R164: Read Parameter and Read Entry from a supervisor or a genset controller answer with the live and the pending
value and with the runtime record, and change no state but the reply; an unknown parameter, table or index is
INVALID. When no value is pending the reply gives 0 and leaves the value out (log 17). The one-byte field of a value above
255, such as a CLP of 256 to 300, is left open (log 15): a Read Parameter then is answered with some data and changes
nothing else but the index of free values. So is the rounding of an age (log 16). -/
def Obligations.ReadsAnswerAndChangeNothing : Prop :=
  ∀ (s : State) (rx : Rx) (number selector : Byte),
    Hears s rx → FromSupervisor rx ∨ FromGenset s rx →
    let now := s.clk + rx.dt
    let shown : Param → Nat → List Byte := fun p v => if paramRows[p].wide = true then be16 v else [byte v]
    let entry : List Byte → Prop := fun data => exec (.readEntry rx selector) s =
      .next { s.elapse rx.dt with txQueue := withReply s rx 0x0D .accepted data }
    let index := selector.toNat % 16
    (∀ p : Fin 28, p.val = number.toNat → paramRows[p].wide = true ∨ s.cfg.params[p] < 256 →
        (∀ v, s.paramPending[p] = some v → paramRows[p].wide = true ∨ v < 256) →
      exec (.readParameter rx number) s = .next { s.elapse rx.dt with
        txQueue := withReply s rx 0x0C .accepted (shown p s.cfg.params[p] ++
          if paramRows[p].reflection = .nextInterval then
            (match s.paramPending[p] with
              | some v => 1 :: shown p v
              | none => [0])
          else []) })
    ∧ (∀ p : Fin 28, p.val = number.toNat → ∃ data n, exec (.readParameter rx number) s =
        .next { s.elapse rx.dt with txQueue := withReply s rx 0x0C .accepted data, freeCount := n })
    ∧ (28 ≤ number.toNat → exec (.readParameter rx number) s =
        .next { s.elapse rx.dt with txQueue := withReply s rx 0x0C .invalid [] })
    ∧ (selector.toNat / 64 = 0 → ∀ i : Fin 8, i.val = index → entry
        ([byte s.sets[i].state.code, byte s.sets[i].cause.code, byte s.sets[i].attempts,
          byte (16 * s.sets[i].dirSeq.toNat + s.sets[i].directive.code)]
          ++ be16 (ageUnits now (s.setSlots[i].map SetSlot.arrived))))
    ∧ (selector.toNat / 64 = 1 → ∀ p : Fin 4, p.val = index → entry
        (be16 s.plants[p].sent ++ [byte s.plants[p].sentCause.code]
          ++ be16 (ageUnits now (s.pvSlots[p].map PvSlot.arrived))))
    ∧ (selector.toNat / 64 = 2 → ∀ i : Fin 16, i.val = index → entry
        [byte s.feeders[i].state.code, byte s.feeders[i].cause.code,
          byte (if i ∈ s.queue then s.queue.idxOf i + 1 else 0)])
    ∧ (selector.toNat / 64 = 3 → ∀ k : Fin 8, k.val = index → entry [byte s.stages[k].state.code])
    ∧ ((selector.toNat / 64 = 0 ∨ selector.toNat / 64 = 3) ∧ 8 ≤ index ∨ selector.toNat / 64 = 1 ∧ 4 ≤ index →
        exec (.readEntry rx selector) s =
          .next { s.elapse rx.dt with txQueue := withReply s rx 0x0D .invalid [] })

/-- R165, R66, R116, R137: an accepted Soft Reset takes every block to the values those rules give, keeps FAILED sets,
stuck and moving feeders, plants, slots, tables, parameters, the record and the meter, and leaves exactly the feeder
report and its own reply in the Transmit Queue, in this order (the order is the model's choice, log 26). R167: Cycle Reset
from a supervisor sets the cycle number to 0 in every mode and touches nothing else. -/
def Obligations.SoftAndCycleResetTakeTheirBlocks : Prop :=
  ∀ (s : State) (rx : Rx),
    Hears s rx → FromSupervisor rx →
    (s.mode ≠ .blackstart → s.seq.phase = .none →
     ¬ (s.cfg.lockFlag = true ∧ s.cfglockLevel = true) →
     ∃ t, exec (.softReset rx) s = .next t
       ∧ t = { s.elapse rx.dt with
           mode := .observe, window := none, cycle := 0, sets := t.sets, shortfall := none, surplus := none
           freshStart := true, pvReached := false, stages := .replicate 8 ⟨.idle, none⟩, feeders := t.feeders
           exhausted := false, reserveShed := none, reportCount := 0, queue := t.queue, settle := .stopped
           restoreDelay := none, blocked := none, hold := ⟨.none, none, none, none⟩, ordering := false
           seq := { s.seq with trigger := none }
           txQueue := [.feederReport (partsOf t.runs) 0, .reply rx.src.toNat 0x13 .accepted []]
           alertPin := t.alertSet.any }
       ∧ (QueueHoldsShedFeeders s → t.queue = [])
       ∧ (∀ i : Fin 16, t.feeders[i] = if s.feeders[i].state = .openShed
           then ⟨.openHeld, s.feeders[i].cause, none, s.feeders[i].origin, true⟩ else s.feeders[i])
       ∧ (∀ i : Fin 8, 0 < s.cfg.roster[i].rating →
           t.sets[i].directive = .hold ∧ t.sets[i].dirSeq = 0
           ∧ t.sets[i].lostTimer = some (s.clk + rx.dt + 100000000)
           ∧ (s.sets[i].state = .failed → t.sets[i] = { s.sets[i] with
               directive := .hold, dirSeq := 0, lostTimer := t.sets[i].lostTimer })
           ∧ (s.sets[i].state ≠ .failed → t.sets[i] = ⟨.unknown, .none, 0, .hold, 0, none, none, .absent, none,
               none, t.sets[i].lostTimer, false, false⟩)))
    ∧ exec (.cycleReset rx) s = .next { s.elapse rx.dt with
        cycle := 0, txQueue := withReply s rx 0x14 .accepted [] }

/-! ## Tables, parameters, store and lock -/

/-- R176, R19: Set Parameter from a supervisor, with the lock not in force, stores the value clamped to its range, as
the pending value of a NEXT_INTERVAL parameter (in place of an earlier one) and as the live value of any other, in every
mode; the reply names the parameter and the value stored; an unknown parameter is INVALID. The one-byte value of a CLP
above 255 is left open (log 15). That in FIRST_SET and ADD_SETS the sequencer looks at this event as at every other
(SequencerLooks) is the model's choice (log 7): R145 to R147 list no write among their looks. R140: in DISPATCH
with AUTO_BS on after the write, black-start conditions that hold keep a running trigger timer (a written BS_DELAY does not
alter it) or start a clear one with the BS_DELAY that then stands, and a BS_DELAY of 0 begins the sequence at this event,
after the reply is queued (log 26). -/
def Obligations.SetParameterStoresTheClampedValue : Prop :=
  ∀ (s : State) (rx : Rx) (number : Byte) (value : BitVec 16),
    Hears s rx → FromSupervisor rx → ¬ (s.cfg.lockFlag = true ∧ s.cfglockLevel = true) →
    (28 ≤ number.toNat → exec (.setParameter rx number value) s =
        .next { s.elapse rx.dt with txQueue := withReply s rx 0x0B .invalid [] })
    ∧ (∀ p : Fin 28, p.val = number.toNat →
        let stored := max paramRows[p].lo (min paramRows[p].hi value.toNat)
        let result : Result := if paramRows[p].lo ≤ value.toNat ∧ value.toNat ≤ paramRows[p].hi then .accepted
          else .acceptedClamped
        let waits : Prop := paramRows[p].reflection = .nextInterval
        let live : Settings := if waits then s.cfg else { s.cfg with params := s.cfg.params.set p stored }
        ∃ u data, u = { s.elapse rx.dt with
              cfg := live, paramPending := if waits then s.paramPending.set p (some stored) else s.paramPending
              freeCount := u.freeCount, txQueue := withReply s rx 0x0B result (byte p.val :: data)
              seq := { s.seq with trigger := none }, alertPin := s.alertSet.any }
          ∧ (paramRows[p].wide = true → data = be16 stored)
          ∧ (paramRows[p].wide = false → stored < 256 → data = [byte stored])
          ∧ (SequencerListens { s with cfg := live } →
              ∃ t, exec (.setParameter rx number value) s = .next t ∧ SequencerLooks u t)
          ∧ (s.mode = .dispatch → s.seq.phase = .none → live.params[AUTO_BS] = 1 →
              (¬ BlackStartConditions s → exec (.setParameter rx number value) s = .next u)
              ∧ (BlackStartConditions s → s.seq.trigger ≠ none →
                  exec (.setParameter rx number value) s = .next { u with seq := s.seq })
              ∧ (BlackStartConditions s → s.seq.trigger = none → 0 < live.params[BS_DELAY] →
                  exec (.setParameter rx number value) s = .next { u with
                    seq := { s.seq with
                      trigger := some (s.clk + rx.dt + 10000000 * live.params[BS_DELAY]) } })
              ∧ (BlackStartConditions s → s.seq.trigger = none → live.params[BS_DELAY] = 0 → SomeFeederOpens s →
                  ∃ t, exec (.setParameter rx number value) s = .next t ∧ IslandEventFrame u t
                    ∧ PrepareOrdersGiven s t (s.clk + rx.dt) ∧ t.seq.attempts = 1
                    ∧ t.seq.failed = s.seq.failed ∧ ReplyWaits t rx 0x0B result (byte p.val :: data))))

/-- R170, R172: Window Open from a supervisor copies the whole live table, records the owner and starts the idle
timer; bad arguments are INVALID; a close with discard from the owner removes the window and leaves the live table, a
close from the other supervisor is BUSY, and a close with no window is NO_WINDOW. A close with an argument above 1, which
the table gives neither row, is INVALID (log 28). -/
def Obligations.WindowsOpenAndDiscard : Prop :=
  ∀ (s : State) (rx : Rx) (table first last argument : Byte),
    Hears s rx → FromSupervisor rx →
    (s.mode ≠ .blackstart → ¬ (s.cfg.lockFlag = true ∧ s.cfglockLevel = true) → s.window = none →
        s.save = none →
        (∀ id : TableId, TableId.code id = table.toNat → first.toNat ≤ last.toNat →
            last.toNat ≤ id.lastIndex →
          exec (.windowOpen rx table first last) s = .next { s.elapse rx.dt with
            window := some ⟨rx.src.toNat, match id with
              | .roster => .roster s.cfg.roster
              | .pv => .pv s.cfg.pv
              | .feeder => .feeder s.cfg.feeders
              | .stage => .stage s.cfg.stages, first.toNat, last.toNat, first.toNat, 0,
              s.clk + rx.dt + 20000000⟩
            txQueue := withReply s rx 0x0E .accepted [table, first, last] })
        ∧ (4 ≤ table.toNat ∨ last.toNat < first.toNat
            ∨ (∃ id : TableId, TableId.code id = table.toNat ∧ id.lastIndex < last.toNat) →
          exec (.windowOpen rx table first last) s =
            .next { s.elapse rx.dt with txQueue := withReply s rx 0x0E .invalid [] }))
    ∧ (∀ w, s.window = some w → rx.src.toNat = w.owner →
        exec (.windowCloseDiscard rx 0) s = .next { s.elapse rx.dt with
          window := none, txQueue := withReply s rx 0x0F .accepted [byte w.rejected] })
    ∧ (∀ w, s.window = some w → rx.src.toNat ≠ w.owner →
        exec (.windowCloseDiscard rx 0) s =
          .next { s.elapse rx.dt with txQueue := withReply s rx 0x0F .busy [] }
        ∧ (s.mode ≠ .blackstart → exec (.windowCloseCommit rx) s =
          .next { s.elapse rx.dt with txQueue := withReply s rx 0x0F .busy [] }))
    ∧ (s.window = none →
        exec (.windowCloseDiscard rx 0) s =
          .next { s.elapse rx.dt with txQueue := withReply s rx 0x0F .noWindow [] }
        ∧ (s.mode ≠ .blackstart → exec (.windowCloseCommit rx) s =
          .next { s.elapse rx.dt with txQueue := withReply s rx 0x0F .noWindow [] }))
    ∧ (2 ≤ argument.toNat → exec (.windowCloseDiscard rx argument) s =
        .next { s.elapse rx.dt with txQueue := withReply s rx 0x0F .invalid [] })

/-- R173, R174: a staging copy passes validation exactly when no entry fails a check of its table: the ranges, no
priority, address or position twice, rising stage offsets, and no change of what a runtime state keeps in use. -/
def Obligations.ValidationPassesExactlyGoodTables : Prop :=
  ∀ (s : State) (roster : Vector SetEntry 8) (pv : Vector PvEntry 4) (feeders : Vector FeederEntry 16)
    (stages : Vector StageEntry 8),
    (s.validate (.roster roster) = none ↔ ∀ i : Fin 8,
      (0 < roster[i].rating →
        16 ≤ roster[i].address ∧ roster[i].address ≤ 31 ∧ roster[i].rating ≤ 8000 ∧ 1 ≤ roster[i].priority
        ∧ roster[i].priority ≤ 8 ∧ roster[i].minRun ≤ 240 ∧ roster[i].minDown ≤ 120
        ∧ 2 ≤ roster[i].startTimeout ∧ roster[i].startTimeout ≤ 120
        ∧ ∀ j : Fin 8, j < i → 0 < roster[j].rating →
            roster[j].priority ≠ roster[i].priority ∧ roster[j].address ≠ roster[i].address)
      ∧ (s.sets[i].state = .starting ∨ s.sets[i].state = .online ∨ s.sets[i].state = .stopping →
          roster[i].address = s.cfg.roster[i].address ∧ roster[i].rating = s.cfg.roster[i].rating))
    ∧ (s.validate (.pv pv) = none ↔ ∀ p : Fin 4, 0 < pv[p].rating →
        32 ≤ pv[p].address ∧ pv[p].address ≤ 39 ∧ pv[p].rating ≤ 8000
        ∧ ∀ j : Fin 4, j < p → 0 < pv[j].rating → pv[j].address ≠ pv[p].address)
    ∧ (s.validate (.feeder feeders) = none ↔ ∀ i : Fin 16, feeders[i].load ≤ 8000
        ∧ (feeders[i].enabled = true → 1 ≤ feeders[i].position ∧ feeders[i].position ≤ 16
            ∧ ∀ j : Fin 16, j < i → feeders[j].enabled = true → feeders[j].position ≠ feeders[i].position)
        ∧ (s.feeders[i].state ≠ .disabled → s.feeders[i].state ≠ .closed → s.feeders[i].state ≠ .openExt →
            feeders[i].enabled = true ∧ feeders[i].position = s.cfg.feeders[i].position))
    ∧ (s.validate (.stage stages) = none ↔ (∀ k : Fin 8, s.stages[k].state = .idle) ∧ ∀ k : Fin 8,
        stages[k].enabled = true →
        1 ≤ stages[k].width ∧ stages[k].width ≤ 4 ∧ 100 ≤ stages[k].offset ∧ stages[k].offset ≤ 5000
        ∧ stages[k].delay ≤ 1000 ∧ stages[k].rocofLimit ≤ 10000
        ∧ ∀ j : Fin 8, j < k → stages[j].enabled = true → stages[j].offset < stages[k].offset)

/-- R175, R67, R87, R117, R33, R184: a commit that fails a check changes only the window's idle timer and the reply; one
that passes replaces the live table, removes the window, brings DISPATCH to OBSERVE, and takes the runtime states of
the changed entries where those rules say; a directive sequence keeps its count and is raised by one exactly when the
value changes (in a state that keeps DirectivesAlwaysFollowStates and ModeAndMarkAlwaysMatchThePhase). R185: the waiting
frames of a readdressed or emptied entry are removed (staysAtCommit), the others keep their order at the head of the queue,
and only the reply, the SET_DIRECTIVE of a changed directive and a feeder report come new. Model's choices: a waiting
PV_CEILING stays when a rating alone is lowered, also above the new rating (log 46: R78);
where the fields of a Stage Table and its stages both fail, which entry and reason the failed reply names (log 40); an
emptied entry has the directive STOP and runs no lost timer (logs 12, 14); a feeder that is enabled or disabled has no
opening origin (log 36). -/
def Obligations.CommitReplacesTheLiveTable : Prop :=
  ∀ (s : State) (rx : Rx) (w : Window),
    Hears s rx → FromSupervisor rx → s.mode ≠ .blackstart → s.window = some w → rx.src.toNat = w.owner →
    (∀ index reason, s.validate w.staging = some (index, reason) →
      exec (.windowCloseCommit rx) s = .next { s.elapse rx.dt with
        window := some { w with idleEnds := s.clk + rx.dt + 20000000 }
        txQueue := withReply s rx 0x0F .validationFailed [byte index, byte reason.code] })
    ∧ (s.validate w.staging = none → s.seq.phase = .none →
      ∃ t, exec (.windowCloseCommit rx) s = .next t
        ∧ t.window = none ∧ t.mode = .observe
        ∧ ReplyWaits t rx 0x0F .accepted [byte w.rejected, 0, if s.mode = .dispatch then 1 else 0]
        ∧ t.meter = s.meter.elapse rx.dt ∧ t.queue = s.queue ∧ t.stages = s.stages ∧ t.record = s.record
        ∧ t.store = s.store ∧ t.aggU = s.aggU
        ∧ (s.txQueue.filter (staysAtCommit s w.staging)).map Frame.key <+: t.txQueue.map Frame.key
        ∧ (∀ f ∈ t.txQueue, (f ∈ s.txQueue ∧ staysAtCommit s w.staging f = true)
            ∨ f = .reply rx.src.toNat 0x0F .accepted [byte w.rejected, 0, if s.mode = .dispatch then 1 else 0]
            ∨ (∃ i : Fin 8, 0 < t.cfg.roster[i].rating
                ∧ f = .setDirective i t.cfg.roster[i].address t.sets[i].directive t.sets[i].dirSeq)
            ∨ f = .feederReport (partsOf t.runs) 0)
        ∧ (∀ i : Fin 8, 0 < t.cfg.roster[i].rating → t.sets[i].directive ≠ s.sets[i].directive →
            .setDirective i t.cfg.roster[i].address t.sets[i].directive t.sets[i].dirSeq ∈ t.txQueue)
        ∧ FeederReportFollows s t
        ∧ (∀ roster, w.staging = .roster roster → t.cfg = { s.cfg with roster := roster }
            ∧ t.feeders = s.feeders ∧ t.plants = s.plants
            ∧ ∀ i : Fin 8,
              (roster[i].address ≠ s.cfg.roster[i].address ∨ roster[i].rating ≠ s.cfg.roster[i].rating →
                t.sets[i].state = .unknown ∧ t.sets[i].attempts = 0 ∧ t.sets[i].cause = .none
                ∧ (0 < roster[i].rating → t.sets[i].lostTimer = some (s.clk + rx.dt + 100000000)))
              ∧ (roster[i].address = s.cfg.roster[i].address → roster[i].rating = s.cfg.roster[i].rating →
                t.sets[i] = { s.sets[i] with directive := t.sets[i].directive, dirSeq := t.sets[i].dirSeq })
              ∧ t.setSlots[i] = (if roster[i].address = s.cfg.roster[i].address ∧ 0 < roster[i].rating
                  ∧ 0 < s.cfg.roster[i].rating then s.setSlots[i] else none)
              ∧ (0 < roster[i].rating → t.sets[i].directive = .hold ∨ s.mode = .observe)
              ∧ (roster[i].rating = 0 → s.cfg.roster[i].rating ≠ 0 →
                t.sets[i].directive = .stop ∧ t.sets[i].lostTimer = none)
              ∧ (DirectivesFollowStates s → MarkIsCandidate s →
                  (s.cfg.roster[i].rating = 0 → s.sets[i].directive = .stop) →
                t.sets[i].dirSeq = s.sets[i].dirSeq
                  + if t.sets[i].directive = s.sets[i].directive then 0 else 1))
        ∧ (∀ pv, w.staging = .pv pv → t.cfg = { s.cfg with pv := pv }
            ∧ t.feeders = s.feeders
            ∧ ∀ p : Fin 4,
              t.held[p] = (if pv[p].address = s.cfg.pv[p].address ∧ 0 < pv[p].rating then s.held[p] else 0)
              ∧ t.pvSlots[p] = (if pv[p].address = s.cfg.pv[p].address ∧ 0 < pv[p].rating
                  ∧ 0 < s.cfg.pv[p].rating then s.pvSlots[p] else none)
              ∧ (0 < pv[p].rating → s.cfg.pv[p].rating = 0 →
                  t.plants[p] = ⟨pv[p].rating, .balance, pv[p].rating, .balance, none, none, pv[p].rating⟩)
              ∧ (0 < pv[p].rating → 0 < s.cfg.pv[p].rating →
                  t.plants[p].allotment = min s.plants[p].allotment pv[p].rating
                  ∧ t.plants[p].sent = min s.plants[p].sent pv[p].rating))
        ∧ (∀ feeders, w.staging = .feeder feeders → t.cfg = { s.cfg with feeders := feeders }
            ∧ t.plants = s.plants
            ∧ ∀ i : Fin 16, t.feeders[i] =
                if feeders[i].enabled = s.cfg.feeders[i].enabled then s.feeders[i]
                else ⟨if feeders[i].enabled = true then (if s.pins.fstat[i] = true then .closed else .openExt)
                  else .disabled, .none, none, none, false⟩)
        ∧ (∀ stages, w.staging = .stage stages → t.cfg = { s.cfg with stages := stages }
            ∧ t.feeders = s.feeders ∧ t.plants = s.plants))

/-- R177, R179, R180: an accepted Save Settings takes its snapshot, marks the image invalid and queues no reply; at the end
of the write the image is whole, the save state IDLE, and the requester is answered ACCEPTED with the CRC-16 of the image
(the write ends whenever its command comes, log 33; with no save running the command lets only time pass, log 2).
Set Lock and Clear Lock, with no save running, move the lock flag only and answer with the flag and the CFGLOCK level;
while CFGLOCK is high Clear Lock is refused LOCKED, whether the flag is set or not. -/
def Obligations.SaveAndLockRequestsAct : Prop :=
  ∀ (s : State) (rx : Rx) (dt : Nat),
    ((Hears s rx → FromSupervisor rx → ¬ (s.cfg.lockFlag = true ∧ s.cfglockLevel = true) → s.window = none →
         s.save = none →
       exec (.saveSettings rx) s = .next { s.elapse rx.dt with
         save := some ⟨s.cfg.image, rx.src.toNat, s.clk + rx.dt⟩, store := .torn })
     ∧ (s.power = .running → ∀ w, s.save = some w → exec (.endOfTheWrite dt) s = .next { s.elapse dt with
         save := none, store := .whole w.image
         txQueue := enqueue s.txQueue (.reply w.requester 0x10 .accepted (w.image.drop 229)) })
     ∧ (s.power = .running → s.save = none → exec (.endOfTheWrite dt) s = .next (s.elapse dt))
     ∧ s.cfg.image.drop 229 = be16 (crc16 (s.cfg.image.take 229)).toNat)
    ∧ (Hears s rx → FromSupervisor rx → s.save = none →
       let level : Byte := if s.cfglockLevel = true then 1 else 0
       exec (.setLock rx) s = .next { s.elapse rx.dt with
         cfg := { s.cfg with lockFlag := true }
         txQueue := withReply s rx 0x11 (if s.cfg.lockFlag = true then .acceptedNoEffect else .accepted)
           [1, level] }
       ∧ (s.cfglockLevel = false → exec (.clearLock rx) s = .next { s.elapse rx.dt with
           cfg := { s.cfg with lockFlag := false }
           txQueue := withReply s rx 0x12 (if s.cfg.lockFlag = true then .accepted else .acceptedNoEffect)
             [0, 0] })
       ∧ (s.cfglockLevel = true → exec (.clearLock rx) s = .next { s.elapse rx.dt with
           txQueue := withReply s rx 0x12 .locked [if s.cfg.lockFlag = true then 1 else 0, 1] }))

end
end

