-- ==== Sys2Proof/Laws/State.lean ====
section
/-! SUPPORT. What each update of State does to each field, so that no later proof unfolds a record update. -/

namespace Sys2Proof.Machine

variable (s : State)

/-! ### elapse -/

@[simp] theorem State.elapse_pending (dt : Nat) : (s.elapse dt).pending = s.pending := rfl
@[simp] theorem State.elapse_clk (dt : Nat) : (s.elapse dt).clk = s.clk + dt := rfl
@[simp] theorem State.elapse_power (dt : Nat) : (s.elapse dt).power = s.power := rfl
@[simp] theorem State.elapse_startBegan (dt : Nat) : (s.elapse dt).startBegan = s.startBegan := rfl
@[simp] theorem State.elapse_freeCount (dt : Nat) : (s.elapse dt).freeCount = s.freeCount := rfl
@[simp] theorem State.elapse_pins (dt : Nat) : (s.elapse dt).pins = s.pins := rfl
@[simp] theorem State.elapse_alertPin (dt : Nat) : (s.elapse dt).alertPin = s.alertPin := rfl
@[simp] theorem State.elapse_fn (dt : Nat) : (s.elapse dt).fn = s.fn := rfl
@[simp] theorem State.elapse_meter (dt : Nat) : (s.elapse dt).meter = s.meter.elapse dt := rfl
@[simp] theorem State.elapse_tbalEnds (dt : Nat) : (s.elapse dt).tbalEnds = s.tbalEnds := rfl
@[simp] theorem State.elapse_cycle (dt : Nat) : (s.elapse dt).cycle = s.cycle := rfl
@[simp] theorem State.elapse_record (dt : Nat) : (s.elapse dt).record = s.record := rfl
@[simp] theorem State.elapse_held (dt : Nat) : (s.elapse dt).held = s.held := rfl
@[simp] theorem State.elapse_lane (dt : Nat) : (s.elapse dt).lane = s.lane := rfl
@[simp] theorem State.elapse_laneWaiting (dt : Nat) : (s.elapse dt).laneWaiting = s.laneWaiting := rfl
@[simp] theorem State.elapse_setSlots (dt : Nat) : (s.elapse dt).setSlots = s.setSlots := rfl
@[simp] theorem State.elapse_pvSlots (dt : Nat) : (s.elapse dt).pvSlots = s.pvSlots := rfl
@[simp] theorem State.elapse_txQueue (dt : Nat) : (s.elapse dt).txQueue = s.txQueue := rfl
@[simp] theorem State.elapse_txBuffer (dt : Nat) : (s.elapse dt).txBuffer = s.txBuffer := rfl
@[simp] theorem State.elapse_cfg (dt : Nat) : (s.elapse dt).cfg = s.cfg := rfl
@[simp] theorem State.elapse_paramPending (dt : Nat) : (s.elapse dt).paramPending = s.paramPending := rfl
@[simp] theorem State.elapse_sets (dt : Nat) : (s.elapse dt).sets = s.sets := rfl
@[simp] theorem State.elapse_shortfall (dt : Nat) : (s.elapse dt).shortfall = s.shortfall := rfl
@[simp] theorem State.elapse_surplus (dt : Nat) : (s.elapse dt).surplus = s.surplus := rfl
@[simp] theorem State.elapse_plants (dt : Nat) : (s.elapse dt).plants = s.plants := rfl
@[simp] theorem State.elapse_aggU (dt : Nat) : (s.elapse dt).aggU = s.aggU := rfl
@[simp] theorem State.elapse_freshStart (dt : Nat) : (s.elapse dt).freshStart = s.freshStart := rfl
@[simp] theorem State.elapse_forcedZero (dt : Nat) : (s.elapse dt).forcedZero = s.forcedZero := rfl
@[simp] theorem State.elapse_pvReached (dt : Nat) : (s.elapse dt).pvReached = s.pvReached := rfl
@[simp] theorem State.elapse_feeders (dt : Nat) : (s.elapse dt).feeders = s.feeders := rfl
@[simp] theorem State.elapse_stages (dt : Nat) : (s.elapse dt).stages = s.stages := rfl
@[simp] theorem State.elapse_exhausted (dt : Nat) : (s.elapse dt).exhausted = s.exhausted := rfl
@[simp] theorem State.elapse_reserveShed (dt : Nat) : (s.elapse dt).reserveShed = s.reserveShed := rfl
@[simp] theorem State.elapse_mshedLevel (dt : Nat) : (s.elapse dt).mshedLevel = s.mshedLevel := rfl
@[simp] theorem State.elapse_notedMeter (dt : Nat) : (s.elapse dt).notedMeter = s.notedMeter := rfl
@[simp] theorem State.elapse_reportCount (dt : Nat) : (s.elapse dt).reportCount = s.reportCount := rfl
@[simp] theorem State.elapse_firstReport (dt : Nat) : (s.elapse dt).firstReport = s.firstReport := rfl
@[simp] theorem State.elapse_queue (dt : Nat) : (s.elapse dt).queue = s.queue := rfl
@[simp] theorem State.elapse_settle (dt : Nat) : (s.elapse dt).settle = s.settle := rfl
@[simp] theorem State.elapse_restoreDelay (dt : Nat) : (s.elapse dt).restoreDelay = s.restoreDelay := rfl
@[simp] theorem State.elapse_blocked (dt : Nat) : (s.elapse dt).blocked = s.blocked := rfl
@[simp] theorem State.elapse_hold (dt : Nat) : (s.elapse dt).hold = s.hold := rfl
@[simp] theorem State.elapse_ordering (dt : Nat) : (s.elapse dt).ordering = s.ordering := rfl
@[simp] theorem State.elapse_seq (dt : Nat) : (s.elapse dt).seq = s.seq := rfl
@[simp] theorem State.elapse_mode (dt : Nat) : (s.elapse dt).mode = s.mode := rfl
@[simp] theorem State.elapse_cfglockLevel (dt : Nat) : (s.elapse dt).cfglockLevel = s.cfglockLevel := rfl
@[simp] theorem State.elapse_window (dt : Nat) : (s.elapse dt).window = s.window := rfl
@[simp] theorem State.elapse_store (dt : Nat) : (s.elapse dt).store = s.store := rfl
@[simp] theorem State.elapse_save (dt : Nat) : (s.elapse dt).save = s.save := rfl
@[simp] theorem State.elapse_storeBad (dt : Nat) : (s.elapse dt).storeBad = s.storeBad := rfl

/-! ### send -/

@[simp] theorem State.send_pending (f : Frame) : (s.send f).pending = s.pending := rfl
@[simp] theorem State.send_clk (f : Frame) : (s.send f).clk = s.clk := rfl
@[simp] theorem State.send_power (f : Frame) : (s.send f).power = s.power := rfl
@[simp] theorem State.send_startBegan (f : Frame) : (s.send f).startBegan = s.startBegan := rfl
@[simp] theorem State.send_freeCount (f : Frame) : (s.send f).freeCount = s.freeCount := rfl
@[simp] theorem State.send_pins (f : Frame) : (s.send f).pins = s.pins := rfl
@[simp] theorem State.send_alertPin (f : Frame) : (s.send f).alertPin = s.alertPin := rfl
@[simp] theorem State.send_fn (f : Frame) : (s.send f).fn = s.fn := rfl
@[simp] theorem State.send_meter (f : Frame) : (s.send f).meter = s.meter := rfl
@[simp] theorem State.send_tbalEnds (f : Frame) : (s.send f).tbalEnds = s.tbalEnds := rfl
@[simp] theorem State.send_cycle (f : Frame) : (s.send f).cycle = s.cycle := rfl
@[simp] theorem State.send_record (f : Frame) : (s.send f).record = s.record := rfl
@[simp] theorem State.send_held (f : Frame) : (s.send f).held = s.held := rfl
@[simp] theorem State.send_lane (f : Frame) : (s.send f).lane = s.lane := rfl
@[simp] theorem State.send_laneWaiting (f : Frame) : (s.send f).laneWaiting = s.laneWaiting := rfl
@[simp] theorem State.send_setSlots (f : Frame) : (s.send f).setSlots = s.setSlots := rfl
@[simp] theorem State.send_pvSlots (f : Frame) : (s.send f).pvSlots = s.pvSlots := rfl
@[simp] theorem State.send_txQueue (f : Frame) : (s.send f).txQueue = enqueue s.txQueue f := rfl
@[simp] theorem State.send_txBuffer (f : Frame) : (s.send f).txBuffer = s.txBuffer := rfl
@[simp] theorem State.send_cfg (f : Frame) : (s.send f).cfg = s.cfg := rfl
@[simp] theorem State.send_paramPending (f : Frame) : (s.send f).paramPending = s.paramPending := rfl
@[simp] theorem State.send_sets (f : Frame) : (s.send f).sets = s.sets := rfl
@[simp] theorem State.send_shortfall (f : Frame) : (s.send f).shortfall = s.shortfall := rfl
@[simp] theorem State.send_surplus (f : Frame) : (s.send f).surplus = s.surplus := rfl
@[simp] theorem State.send_plants (f : Frame) : (s.send f).plants = s.plants := rfl
@[simp] theorem State.send_aggU (f : Frame) : (s.send f).aggU = s.aggU := rfl
@[simp] theorem State.send_freshStart (f : Frame) : (s.send f).freshStart = s.freshStart := rfl
@[simp] theorem State.send_forcedZero (f : Frame) : (s.send f).forcedZero = s.forcedZero := rfl
@[simp] theorem State.send_pvReached (f : Frame) : (s.send f).pvReached = s.pvReached := rfl
@[simp] theorem State.send_feeders (f : Frame) : (s.send f).feeders = s.feeders := rfl
@[simp] theorem State.send_stages (f : Frame) : (s.send f).stages = s.stages := rfl
@[simp] theorem State.send_exhausted (f : Frame) : (s.send f).exhausted = s.exhausted := rfl
@[simp] theorem State.send_reserveShed (f : Frame) : (s.send f).reserveShed = s.reserveShed := rfl
@[simp] theorem State.send_mshedLevel (f : Frame) : (s.send f).mshedLevel = s.mshedLevel := rfl
@[simp] theorem State.send_notedMeter (f : Frame) : (s.send f).notedMeter = s.notedMeter := rfl
@[simp] theorem State.send_reportCount (f : Frame) : (s.send f).reportCount = s.reportCount := rfl
@[simp] theorem State.send_firstReport (f : Frame) : (s.send f).firstReport = s.firstReport := rfl
@[simp] theorem State.send_queue (f : Frame) : (s.send f).queue = s.queue := rfl
@[simp] theorem State.send_settle (f : Frame) : (s.send f).settle = s.settle := rfl
@[simp] theorem State.send_restoreDelay (f : Frame) : (s.send f).restoreDelay = s.restoreDelay := rfl
@[simp] theorem State.send_blocked (f : Frame) : (s.send f).blocked = s.blocked := rfl
@[simp] theorem State.send_hold (f : Frame) : (s.send f).hold = s.hold := rfl
@[simp] theorem State.send_ordering (f : Frame) : (s.send f).ordering = s.ordering := rfl
@[simp] theorem State.send_seq (f : Frame) : (s.send f).seq = s.seq := rfl
@[simp] theorem State.send_mode (f : Frame) : (s.send f).mode = s.mode := rfl
@[simp] theorem State.send_cfglockLevel (f : Frame) : (s.send f).cfglockLevel = s.cfglockLevel := rfl
@[simp] theorem State.send_window (f : Frame) : (s.send f).window = s.window := rfl
@[simp] theorem State.send_store (f : Frame) : (s.send f).store = s.store := rfl
@[simp] theorem State.send_save (f : Frame) : (s.send f).save = s.save := rfl
@[simp] theorem State.send_storeBad (f : Frame) : (s.send f).storeBad = s.storeBad := rfl

/-! ### reply -/

@[simp] theorem State.reply_pending (dest : Nat) (c : BitVec 5) (r : Result) (data : List Byte) :
    (s.reply dest c r data).pending = s.pending := rfl
@[simp] theorem State.reply_clk (dest : Nat) (c : BitVec 5) (r : Result) (data : List Byte) :
    (s.reply dest c r data).clk = s.clk := rfl
@[simp] theorem State.reply_power (dest : Nat) (c : BitVec 5) (r : Result) (data : List Byte) :
    (s.reply dest c r data).power = s.power := rfl
@[simp] theorem State.reply_startBegan (dest : Nat) (c : BitVec 5) (r : Result) (data : List Byte) :
    (s.reply dest c r data).startBegan = s.startBegan := rfl
@[simp] theorem State.reply_freeCount (dest : Nat) (c : BitVec 5) (r : Result) (data : List Byte) :
    (s.reply dest c r data).freeCount = s.freeCount := rfl
@[simp] theorem State.reply_pins (dest : Nat) (c : BitVec 5) (r : Result) (data : List Byte) :
    (s.reply dest c r data).pins = s.pins := rfl
@[simp] theorem State.reply_alertPin (dest : Nat) (c : BitVec 5) (r : Result) (data : List Byte) :
    (s.reply dest c r data).alertPin = s.alertPin := rfl
@[simp] theorem State.reply_fn (dest : Nat) (c : BitVec 5) (r : Result) (data : List Byte) :
    (s.reply dest c r data).fn = s.fn := rfl
@[simp] theorem State.reply_meter (dest : Nat) (c : BitVec 5) (r : Result) (data : List Byte) :
    (s.reply dest c r data).meter = s.meter := rfl
@[simp] theorem State.reply_tbalEnds (dest : Nat) (c : BitVec 5) (r : Result) (data : List Byte) :
    (s.reply dest c r data).tbalEnds = s.tbalEnds := rfl
@[simp] theorem State.reply_cycle (dest : Nat) (c : BitVec 5) (r : Result) (data : List Byte) :
    (s.reply dest c r data).cycle = s.cycle := rfl
@[simp] theorem State.reply_record (dest : Nat) (c : BitVec 5) (r : Result) (data : List Byte) :
    (s.reply dest c r data).record = s.record := rfl
@[simp] theorem State.reply_held (dest : Nat) (c : BitVec 5) (r : Result) (data : List Byte) :
    (s.reply dest c r data).held = s.held := rfl
@[simp] theorem State.reply_lane (dest : Nat) (c : BitVec 5) (r : Result) (data : List Byte) :
    (s.reply dest c r data).lane = s.lane := rfl
@[simp] theorem State.reply_laneWaiting (dest : Nat) (c : BitVec 5) (r : Result) (data : List Byte) :
    (s.reply dest c r data).laneWaiting = s.laneWaiting := rfl
@[simp] theorem State.reply_setSlots (dest : Nat) (c : BitVec 5) (r : Result) (data : List Byte) :
    (s.reply dest c r data).setSlots = s.setSlots := rfl
@[simp] theorem State.reply_pvSlots (dest : Nat) (c : BitVec 5) (r : Result) (data : List Byte) :
    (s.reply dest c r data).pvSlots = s.pvSlots := rfl
@[simp] theorem State.reply_txQueue (dest : Nat) (c : BitVec 5) (r : Result) (data : List Byte) :
    (s.reply dest c r data).txQueue = enqueue s.txQueue (.reply dest c r data) := rfl
@[simp] theorem State.reply_txBuffer (dest : Nat) (c : BitVec 5) (r : Result) (data : List Byte) :
    (s.reply dest c r data).txBuffer = s.txBuffer := rfl
@[simp] theorem State.reply_cfg (dest : Nat) (c : BitVec 5) (r : Result) (data : List Byte) :
    (s.reply dest c r data).cfg = s.cfg := rfl
@[simp] theorem State.reply_paramPending (dest : Nat) (c : BitVec 5) (r : Result) (data : List Byte) :
    (s.reply dest c r data).paramPending = s.paramPending := rfl
@[simp] theorem State.reply_sets (dest : Nat) (c : BitVec 5) (r : Result) (data : List Byte) :
    (s.reply dest c r data).sets = s.sets := rfl
@[simp] theorem State.reply_shortfall (dest : Nat) (c : BitVec 5) (r : Result) (data : List Byte) :
    (s.reply dest c r data).shortfall = s.shortfall := rfl
@[simp] theorem State.reply_surplus (dest : Nat) (c : BitVec 5) (r : Result) (data : List Byte) :
    (s.reply dest c r data).surplus = s.surplus := rfl
@[simp] theorem State.reply_plants (dest : Nat) (c : BitVec 5) (r : Result) (data : List Byte) :
    (s.reply dest c r data).plants = s.plants := rfl
@[simp] theorem State.reply_aggU (dest : Nat) (c : BitVec 5) (r : Result) (data : List Byte) :
    (s.reply dest c r data).aggU = s.aggU := rfl
@[simp] theorem State.reply_freshStart (dest : Nat) (c : BitVec 5) (r : Result) (data : List Byte) :
    (s.reply dest c r data).freshStart = s.freshStart := rfl
@[simp] theorem State.reply_forcedZero (dest : Nat) (c : BitVec 5) (r : Result) (data : List Byte) :
    (s.reply dest c r data).forcedZero = s.forcedZero := rfl
@[simp] theorem State.reply_pvReached (dest : Nat) (c : BitVec 5) (r : Result) (data : List Byte) :
    (s.reply dest c r data).pvReached = s.pvReached := rfl
@[simp] theorem State.reply_feeders (dest : Nat) (c : BitVec 5) (r : Result) (data : List Byte) :
    (s.reply dest c r data).feeders = s.feeders := rfl
@[simp] theorem State.reply_stages (dest : Nat) (c : BitVec 5) (r : Result) (data : List Byte) :
    (s.reply dest c r data).stages = s.stages := rfl
@[simp] theorem State.reply_exhausted (dest : Nat) (c : BitVec 5) (r : Result) (data : List Byte) :
    (s.reply dest c r data).exhausted = s.exhausted := rfl
@[simp] theorem State.reply_reserveShed (dest : Nat) (c : BitVec 5) (r : Result) (data : List Byte) :
    (s.reply dest c r data).reserveShed = s.reserveShed := rfl
@[simp] theorem State.reply_mshedLevel (dest : Nat) (c : BitVec 5) (r : Result) (data : List Byte) :
    (s.reply dest c r data).mshedLevel = s.mshedLevel := rfl
@[simp] theorem State.reply_notedMeter (dest : Nat) (c : BitVec 5) (r : Result) (data : List Byte) :
    (s.reply dest c r data).notedMeter = s.notedMeter := rfl
@[simp] theorem State.reply_reportCount (dest : Nat) (c : BitVec 5) (r : Result) (data : List Byte) :
    (s.reply dest c r data).reportCount = s.reportCount := rfl
@[simp] theorem State.reply_firstReport (dest : Nat) (c : BitVec 5) (r : Result) (data : List Byte) :
    (s.reply dest c r data).firstReport = s.firstReport := rfl
@[simp] theorem State.reply_queue (dest : Nat) (c : BitVec 5) (r : Result) (data : List Byte) :
    (s.reply dest c r data).queue = s.queue := rfl
@[simp] theorem State.reply_settle (dest : Nat) (c : BitVec 5) (r : Result) (data : List Byte) :
    (s.reply dest c r data).settle = s.settle := rfl
@[simp] theorem State.reply_restoreDelay (dest : Nat) (c : BitVec 5) (r : Result) (data : List Byte) :
    (s.reply dest c r data).restoreDelay = s.restoreDelay := rfl
@[simp] theorem State.reply_blocked (dest : Nat) (c : BitVec 5) (r : Result) (data : List Byte) :
    (s.reply dest c r data).blocked = s.blocked := rfl
@[simp] theorem State.reply_hold (dest : Nat) (c : BitVec 5) (r : Result) (data : List Byte) :
    (s.reply dest c r data).hold = s.hold := rfl
@[simp] theorem State.reply_ordering (dest : Nat) (c : BitVec 5) (r : Result) (data : List Byte) :
    (s.reply dest c r data).ordering = s.ordering := rfl
@[simp] theorem State.reply_seq (dest : Nat) (c : BitVec 5) (r : Result) (data : List Byte) :
    (s.reply dest c r data).seq = s.seq := rfl
@[simp] theorem State.reply_mode (dest : Nat) (c : BitVec 5) (r : Result) (data : List Byte) :
    (s.reply dest c r data).mode = s.mode := rfl
@[simp] theorem State.reply_cfglockLevel (dest : Nat) (c : BitVec 5) (r : Result) (data : List Byte) :
    (s.reply dest c r data).cfglockLevel = s.cfglockLevel := rfl
@[simp] theorem State.reply_window (dest : Nat) (c : BitVec 5) (r : Result) (data : List Byte) :
    (s.reply dest c r data).window = s.window := rfl
@[simp] theorem State.reply_store (dest : Nat) (c : BitVec 5) (r : Result) (data : List Byte) :
    (s.reply dest c r data).store = s.store := rfl
@[simp] theorem State.reply_save (dest : Nat) (c : BitVec 5) (r : Result) (data : List Byte) :
    (s.reply dest c r data).save = s.save := rfl
@[simp] theorem State.reply_storeBad (dest : Nat) (c : BitVec 5) (r : Result) (data : List Byte) :
    (s.reply dest c r data).storeBad = s.storeBad := rfl

/-! ### useFree -/

@[simp] theorem State.useFree_pending : (s.useFree).pending = s.pending := rfl
@[simp] theorem State.useFree_clk : (s.useFree).clk = s.clk := rfl
@[simp] theorem State.useFree_power : (s.useFree).power = s.power := rfl
@[simp] theorem State.useFree_startBegan : (s.useFree).startBegan = s.startBegan := rfl
@[simp] theorem State.useFree_freeCount : (s.useFree).freeCount = s.freeCount + 1 := rfl
@[simp] theorem State.useFree_pins : (s.useFree).pins = s.pins := rfl
@[simp] theorem State.useFree_alertPin : (s.useFree).alertPin = s.alertPin := rfl
@[simp] theorem State.useFree_fn : (s.useFree).fn = s.fn := rfl
@[simp] theorem State.useFree_meter : (s.useFree).meter = s.meter := rfl
@[simp] theorem State.useFree_tbalEnds : (s.useFree).tbalEnds = s.tbalEnds := rfl
@[simp] theorem State.useFree_cycle : (s.useFree).cycle = s.cycle := rfl
@[simp] theorem State.useFree_record : (s.useFree).record = s.record := rfl
@[simp] theorem State.useFree_held : (s.useFree).held = s.held := rfl
@[simp] theorem State.useFree_lane : (s.useFree).lane = s.lane := rfl
@[simp] theorem State.useFree_laneWaiting : (s.useFree).laneWaiting = s.laneWaiting := rfl
@[simp] theorem State.useFree_setSlots : (s.useFree).setSlots = s.setSlots := rfl
@[simp] theorem State.useFree_pvSlots : (s.useFree).pvSlots = s.pvSlots := rfl
@[simp] theorem State.useFree_txQueue : (s.useFree).txQueue = s.txQueue := rfl
@[simp] theorem State.useFree_txBuffer : (s.useFree).txBuffer = s.txBuffer := rfl
@[simp] theorem State.useFree_cfg : (s.useFree).cfg = s.cfg := rfl
@[simp] theorem State.useFree_paramPending : (s.useFree).paramPending = s.paramPending := rfl
@[simp] theorem State.useFree_sets : (s.useFree).sets = s.sets := rfl
@[simp] theorem State.useFree_shortfall : (s.useFree).shortfall = s.shortfall := rfl
@[simp] theorem State.useFree_surplus : (s.useFree).surplus = s.surplus := rfl
@[simp] theorem State.useFree_plants : (s.useFree).plants = s.plants := rfl
@[simp] theorem State.useFree_aggU : (s.useFree).aggU = s.aggU := rfl
@[simp] theorem State.useFree_freshStart : (s.useFree).freshStart = s.freshStart := rfl
@[simp] theorem State.useFree_forcedZero : (s.useFree).forcedZero = s.forcedZero := rfl
@[simp] theorem State.useFree_pvReached : (s.useFree).pvReached = s.pvReached := rfl
@[simp] theorem State.useFree_feeders : (s.useFree).feeders = s.feeders := rfl
@[simp] theorem State.useFree_stages : (s.useFree).stages = s.stages := rfl
@[simp] theorem State.useFree_exhausted : (s.useFree).exhausted = s.exhausted := rfl
@[simp] theorem State.useFree_reserveShed : (s.useFree).reserveShed = s.reserveShed := rfl
@[simp] theorem State.useFree_mshedLevel : (s.useFree).mshedLevel = s.mshedLevel := rfl
@[simp] theorem State.useFree_notedMeter : (s.useFree).notedMeter = s.notedMeter := rfl
@[simp] theorem State.useFree_reportCount : (s.useFree).reportCount = s.reportCount := rfl
@[simp] theorem State.useFree_firstReport : (s.useFree).firstReport = s.firstReport := rfl
@[simp] theorem State.useFree_queue : (s.useFree).queue = s.queue := rfl
@[simp] theorem State.useFree_settle : (s.useFree).settle = s.settle := rfl
@[simp] theorem State.useFree_restoreDelay : (s.useFree).restoreDelay = s.restoreDelay := rfl
@[simp] theorem State.useFree_blocked : (s.useFree).blocked = s.blocked := rfl
@[simp] theorem State.useFree_hold : (s.useFree).hold = s.hold := rfl
@[simp] theorem State.useFree_ordering : (s.useFree).ordering = s.ordering := rfl
@[simp] theorem State.useFree_seq : (s.useFree).seq = s.seq := rfl
@[simp] theorem State.useFree_mode : (s.useFree).mode = s.mode := rfl
@[simp] theorem State.useFree_cfglockLevel : (s.useFree).cfglockLevel = s.cfglockLevel := rfl
@[simp] theorem State.useFree_window : (s.useFree).window = s.window := rfl
@[simp] theorem State.useFree_store : (s.useFree).store = s.store := rfl
@[simp] theorem State.useFree_save : (s.useFree).save = s.save := rfl
@[simp] theorem State.useFree_storeBad : (s.useFree).storeBad = s.storeBad := rfl

/-! ### putFeeder -/

@[simp] theorem State.putFeeder_pending (i : Fin 16) (r : FeederRec) : (s.putFeeder i r).pending = s.pending := rfl
@[simp] theorem State.putFeeder_clk (i : Fin 16) (r : FeederRec) : (s.putFeeder i r).clk = s.clk := rfl
@[simp] theorem State.putFeeder_power (i : Fin 16) (r : FeederRec) : (s.putFeeder i r).power = s.power := rfl
@[simp] theorem State.putFeeder_startBegan (i : Fin 16) (r : FeederRec) :
    (s.putFeeder i r).startBegan = s.startBegan := rfl
@[simp] theorem State.putFeeder_freeCount (i : Fin 16) (r : FeederRec) :
    (s.putFeeder i r).freeCount = s.freeCount := rfl
@[simp] theorem State.putFeeder_pins (i : Fin 16) (r : FeederRec) : (s.putFeeder i r).pins = s.pins := rfl
@[simp] theorem State.putFeeder_alertPin (i : Fin 16) (r : FeederRec) : (s.putFeeder i r).alertPin = s.alertPin := rfl
@[simp] theorem State.putFeeder_fn (i : Fin 16) (r : FeederRec) : (s.putFeeder i r).fn = s.fn := rfl
@[simp] theorem State.putFeeder_meter (i : Fin 16) (r : FeederRec) : (s.putFeeder i r).meter = s.meter := rfl
@[simp] theorem State.putFeeder_tbalEnds (i : Fin 16) (r : FeederRec) : (s.putFeeder i r).tbalEnds = s.tbalEnds := rfl
@[simp] theorem State.putFeeder_cycle (i : Fin 16) (r : FeederRec) : (s.putFeeder i r).cycle = s.cycle := rfl
@[simp] theorem State.putFeeder_record (i : Fin 16) (r : FeederRec) : (s.putFeeder i r).record = s.record := rfl
@[simp] theorem State.putFeeder_held (i : Fin 16) (r : FeederRec) : (s.putFeeder i r).held = s.held := rfl
@[simp] theorem State.putFeeder_lane (i : Fin 16) (r : FeederRec) : (s.putFeeder i r).lane = s.lane := rfl
@[simp] theorem State.putFeeder_laneWaiting (i : Fin 16) (r : FeederRec) :
    (s.putFeeder i r).laneWaiting = s.laneWaiting := rfl
@[simp] theorem State.putFeeder_setSlots (i : Fin 16) (r : FeederRec) : (s.putFeeder i r).setSlots = s.setSlots := rfl
@[simp] theorem State.putFeeder_pvSlots (i : Fin 16) (r : FeederRec) : (s.putFeeder i r).pvSlots = s.pvSlots := rfl
@[simp] theorem State.putFeeder_txQueue (i : Fin 16) (r : FeederRec) : (s.putFeeder i r).txQueue = s.txQueue := rfl
@[simp] theorem State.putFeeder_txBuffer (i : Fin 16) (r : FeederRec) : (s.putFeeder i r).txBuffer = s.txBuffer := rfl
@[simp] theorem State.putFeeder_cfg (i : Fin 16) (r : FeederRec) : (s.putFeeder i r).cfg = s.cfg := rfl
@[simp] theorem State.putFeeder_paramPending (i : Fin 16) (r : FeederRec) :
    (s.putFeeder i r).paramPending = s.paramPending := rfl
@[simp] theorem State.putFeeder_sets (i : Fin 16) (r : FeederRec) : (s.putFeeder i r).sets = s.sets := rfl
@[simp] theorem State.putFeeder_shortfall (i : Fin 16) (r : FeederRec) :
    (s.putFeeder i r).shortfall = s.shortfall := rfl
@[simp] theorem State.putFeeder_surplus (i : Fin 16) (r : FeederRec) : (s.putFeeder i r).surplus = s.surplus := rfl
@[simp] theorem State.putFeeder_plants (i : Fin 16) (r : FeederRec) : (s.putFeeder i r).plants = s.plants := rfl
@[simp] theorem State.putFeeder_aggU (i : Fin 16) (r : FeederRec) : (s.putFeeder i r).aggU = s.aggU := rfl
@[simp] theorem State.putFeeder_freshStart (i : Fin 16) (r : FeederRec) :
    (s.putFeeder i r).freshStart = s.freshStart := rfl
@[simp] theorem State.putFeeder_forcedZero (i : Fin 16) (r : FeederRec) :
    (s.putFeeder i r).forcedZero = s.forcedZero := rfl
@[simp] theorem State.putFeeder_pvReached (i : Fin 16) (r : FeederRec) :
    (s.putFeeder i r).pvReached = s.pvReached := rfl
@[simp] theorem State.putFeeder_feeders (i : Fin 16) (r : FeederRec) :
    (s.putFeeder i r).feeders = s.feeders.set i r := rfl
@[simp] theorem State.putFeeder_stages (i : Fin 16) (r : FeederRec) : (s.putFeeder i r).stages = s.stages := rfl
@[simp] theorem State.putFeeder_exhausted (i : Fin 16) (r : FeederRec) :
    (s.putFeeder i r).exhausted = s.exhausted := rfl
@[simp] theorem State.putFeeder_reserveShed (i : Fin 16) (r : FeederRec) :
    (s.putFeeder i r).reserveShed = s.reserveShed := rfl
@[simp] theorem State.putFeeder_mshedLevel (i : Fin 16) (r : FeederRec) :
    (s.putFeeder i r).mshedLevel = s.mshedLevel := rfl
@[simp] theorem State.putFeeder_notedMeter (i : Fin 16) (r : FeederRec) :
    (s.putFeeder i r).notedMeter = s.notedMeter := rfl
@[simp] theorem State.putFeeder_reportCount (i : Fin 16) (r : FeederRec) :
    (s.putFeeder i r).reportCount = s.reportCount := rfl
@[simp] theorem State.putFeeder_firstReport (i : Fin 16) (r : FeederRec) :
    (s.putFeeder i r).firstReport = s.firstReport := rfl
@[simp] theorem State.putFeeder_queue (i : Fin 16) (r : FeederRec) : (s.putFeeder i r).queue = s.queue := rfl
@[simp] theorem State.putFeeder_settle (i : Fin 16) (r : FeederRec) : (s.putFeeder i r).settle = s.settle := rfl
@[simp] theorem State.putFeeder_restoreDelay (i : Fin 16) (r : FeederRec) :
    (s.putFeeder i r).restoreDelay = s.restoreDelay := rfl
@[simp] theorem State.putFeeder_blocked (i : Fin 16) (r : FeederRec) : (s.putFeeder i r).blocked = s.blocked := rfl
@[simp] theorem State.putFeeder_hold (i : Fin 16) (r : FeederRec) : (s.putFeeder i r).hold = s.hold := rfl
@[simp] theorem State.putFeeder_ordering (i : Fin 16) (r : FeederRec) : (s.putFeeder i r).ordering = s.ordering := rfl
@[simp] theorem State.putFeeder_seq (i : Fin 16) (r : FeederRec) : (s.putFeeder i r).seq = s.seq := rfl
@[simp] theorem State.putFeeder_mode (i : Fin 16) (r : FeederRec) : (s.putFeeder i r).mode = s.mode := rfl
@[simp] theorem State.putFeeder_cfglockLevel (i : Fin 16) (r : FeederRec) :
    (s.putFeeder i r).cfglockLevel = s.cfglockLevel := rfl
@[simp] theorem State.putFeeder_window (i : Fin 16) (r : FeederRec) : (s.putFeeder i r).window = s.window := rfl
@[simp] theorem State.putFeeder_store (i : Fin 16) (r : FeederRec) : (s.putFeeder i r).store = s.store := rfl
@[simp] theorem State.putFeeder_save (i : Fin 16) (r : FeederRec) : (s.putFeeder i r).save = s.save := rfl
@[simp] theorem State.putFeeder_storeBad (i : Fin 16) (r : FeederRec) : (s.putFeeder i r).storeBad = s.storeBad := rfl

/-! ### refreshAlert -/

@[simp] theorem State.refreshAlert_pending : (s.refreshAlert).pending = s.pending := rfl
@[simp] theorem State.refreshAlert_clk : (s.refreshAlert).clk = s.clk := rfl
@[simp] theorem State.refreshAlert_power : (s.refreshAlert).power = s.power := rfl
@[simp] theorem State.refreshAlert_startBegan : (s.refreshAlert).startBegan = s.startBegan := rfl
@[simp] theorem State.refreshAlert_freeCount : (s.refreshAlert).freeCount = s.freeCount := rfl
@[simp] theorem State.refreshAlert_pins : (s.refreshAlert).pins = s.pins := rfl
@[simp] theorem State.refreshAlert_alertPin : (s.refreshAlert).alertPin = s.alertSet.any := rfl
@[simp] theorem State.refreshAlert_fn : (s.refreshAlert).fn = s.fn := rfl
@[simp] theorem State.refreshAlert_meter : (s.refreshAlert).meter = s.meter := rfl
@[simp] theorem State.refreshAlert_tbalEnds : (s.refreshAlert).tbalEnds = s.tbalEnds := rfl
@[simp] theorem State.refreshAlert_cycle : (s.refreshAlert).cycle = s.cycle := rfl
@[simp] theorem State.refreshAlert_record : (s.refreshAlert).record = s.record := rfl
@[simp] theorem State.refreshAlert_held : (s.refreshAlert).held = s.held := rfl
@[simp] theorem State.refreshAlert_lane : (s.refreshAlert).lane = s.lane := rfl
@[simp] theorem State.refreshAlert_laneWaiting : (s.refreshAlert).laneWaiting = s.laneWaiting := rfl
@[simp] theorem State.refreshAlert_setSlots : (s.refreshAlert).setSlots = s.setSlots := rfl
@[simp] theorem State.refreshAlert_pvSlots : (s.refreshAlert).pvSlots = s.pvSlots := rfl
@[simp] theorem State.refreshAlert_txQueue : (s.refreshAlert).txQueue = s.txQueue := rfl
@[simp] theorem State.refreshAlert_txBuffer : (s.refreshAlert).txBuffer = s.txBuffer := rfl
@[simp] theorem State.refreshAlert_cfg : (s.refreshAlert).cfg = s.cfg := rfl
@[simp] theorem State.refreshAlert_paramPending : (s.refreshAlert).paramPending = s.paramPending := rfl
@[simp] theorem State.refreshAlert_sets : (s.refreshAlert).sets = s.sets := rfl
@[simp] theorem State.refreshAlert_shortfall : (s.refreshAlert).shortfall = s.shortfall := rfl
@[simp] theorem State.refreshAlert_surplus : (s.refreshAlert).surplus = s.surplus := rfl
@[simp] theorem State.refreshAlert_plants : (s.refreshAlert).plants = s.plants := rfl
@[simp] theorem State.refreshAlert_aggU : (s.refreshAlert).aggU = s.aggU := rfl
@[simp] theorem State.refreshAlert_freshStart : (s.refreshAlert).freshStart = s.freshStart := rfl
@[simp] theorem State.refreshAlert_forcedZero : (s.refreshAlert).forcedZero = s.forcedZero := rfl
@[simp] theorem State.refreshAlert_pvReached : (s.refreshAlert).pvReached = s.pvReached := rfl
@[simp] theorem State.refreshAlert_feeders : (s.refreshAlert).feeders = s.feeders := rfl
@[simp] theorem State.refreshAlert_stages : (s.refreshAlert).stages = s.stages := rfl
@[simp] theorem State.refreshAlert_exhausted : (s.refreshAlert).exhausted = s.exhausted := rfl
@[simp] theorem State.refreshAlert_reserveShed : (s.refreshAlert).reserveShed = s.reserveShed := rfl
@[simp] theorem State.refreshAlert_mshedLevel : (s.refreshAlert).mshedLevel = s.mshedLevel := rfl
@[simp] theorem State.refreshAlert_notedMeter : (s.refreshAlert).notedMeter = s.notedMeter := rfl
@[simp] theorem State.refreshAlert_reportCount : (s.refreshAlert).reportCount = s.reportCount := rfl
@[simp] theorem State.refreshAlert_firstReport : (s.refreshAlert).firstReport = s.firstReport := rfl
@[simp] theorem State.refreshAlert_queue : (s.refreshAlert).queue = s.queue := rfl
@[simp] theorem State.refreshAlert_settle : (s.refreshAlert).settle = s.settle := rfl
@[simp] theorem State.refreshAlert_restoreDelay : (s.refreshAlert).restoreDelay = s.restoreDelay := rfl
@[simp] theorem State.refreshAlert_blocked : (s.refreshAlert).blocked = s.blocked := rfl
@[simp] theorem State.refreshAlert_hold : (s.refreshAlert).hold = s.hold := rfl
@[simp] theorem State.refreshAlert_ordering : (s.refreshAlert).ordering = s.ordering := rfl
@[simp] theorem State.refreshAlert_seq : (s.refreshAlert).seq = s.seq := rfl
@[simp] theorem State.refreshAlert_mode : (s.refreshAlert).mode = s.mode := rfl
@[simp] theorem State.refreshAlert_cfglockLevel : (s.refreshAlert).cfglockLevel = s.cfglockLevel := rfl
@[simp] theorem State.refreshAlert_window : (s.refreshAlert).window = s.window := rfl
@[simp] theorem State.refreshAlert_store : (s.refreshAlert).store = s.store := rfl
@[simp] theorem State.refreshAlert_save : (s.refreshAlert).save = s.save := rfl
@[simp] theorem State.refreshAlert_storeBad : (s.refreshAlert).storeBad = s.storeBad := rfl

/-! ### handLeft -/

@[simp] theorem State.handLeft_pending (i : Fin 16) : (s.handLeft i).pending = s.pending := rfl
@[simp] theorem State.handLeft_clk (i : Fin 16) : (s.handLeft i).clk = s.clk := rfl
@[simp] theorem State.handLeft_power (i : Fin 16) : (s.handLeft i).power = s.power := rfl
@[simp] theorem State.handLeft_startBegan (i : Fin 16) : (s.handLeft i).startBegan = s.startBegan := rfl
@[simp] theorem State.handLeft_freeCount (i : Fin 16) : (s.handLeft i).freeCount = s.freeCount := rfl
@[simp] theorem State.handLeft_pins (i : Fin 16) : (s.handLeft i).pins = s.pins := rfl
@[simp] theorem State.handLeft_alertPin (i : Fin 16) : (s.handLeft i).alertPin = s.alertPin := rfl
@[simp] theorem State.handLeft_fn (i : Fin 16) : (s.handLeft i).fn = s.fn := rfl
@[simp] theorem State.handLeft_meter (i : Fin 16) : (s.handLeft i).meter = s.meter := rfl
@[simp] theorem State.handLeft_tbalEnds (i : Fin 16) : (s.handLeft i).tbalEnds = s.tbalEnds := rfl
@[simp] theorem State.handLeft_cycle (i : Fin 16) : (s.handLeft i).cycle = s.cycle := rfl
@[simp] theorem State.handLeft_record (i : Fin 16) : (s.handLeft i).record = s.record := rfl
@[simp] theorem State.handLeft_held (i : Fin 16) : (s.handLeft i).held = s.held := rfl
@[simp] theorem State.handLeft_lane (i : Fin 16) : (s.handLeft i).lane = s.lane := rfl
@[simp] theorem State.handLeft_laneWaiting (i : Fin 16) : (s.handLeft i).laneWaiting = s.laneWaiting := rfl
@[simp] theorem State.handLeft_setSlots (i : Fin 16) : (s.handLeft i).setSlots = s.setSlots := rfl
@[simp] theorem State.handLeft_pvSlots (i : Fin 16) : (s.handLeft i).pvSlots = s.pvSlots := rfl
@[simp] theorem State.handLeft_txQueue (i : Fin 16) : (s.handLeft i).txQueue = s.txQueue := rfl
@[simp] theorem State.handLeft_txBuffer (i : Fin 16) : (s.handLeft i).txBuffer = s.txBuffer := rfl
@[simp] theorem State.handLeft_cfg (i : Fin 16) : (s.handLeft i).cfg = s.cfg := rfl
@[simp] theorem State.handLeft_paramPending (i : Fin 16) : (s.handLeft i).paramPending = s.paramPending := rfl
@[simp] theorem State.handLeft_sets (i : Fin 16) : (s.handLeft i).sets = s.sets := rfl
@[simp] theorem State.handLeft_shortfall (i : Fin 16) : (s.handLeft i).shortfall = s.shortfall := rfl
@[simp] theorem State.handLeft_surplus (i : Fin 16) : (s.handLeft i).surplus = s.surplus := rfl
@[simp] theorem State.handLeft_plants (i : Fin 16) : (s.handLeft i).plants = s.plants := rfl
@[simp] theorem State.handLeft_aggU (i : Fin 16) : (s.handLeft i).aggU = s.aggU := rfl
@[simp] theorem State.handLeft_freshStart (i : Fin 16) : (s.handLeft i).freshStart = s.freshStart := rfl
@[simp] theorem State.handLeft_forcedZero (i : Fin 16) : (s.handLeft i).forcedZero = s.forcedZero := rfl
@[simp] theorem State.handLeft_pvReached (i : Fin 16) : (s.handLeft i).pvReached = s.pvReached := rfl
@[simp] theorem State.handLeft_feeders (i : Fin 16) : (s.handLeft i).feeders = s.feeders := rfl
@[simp] theorem State.handLeft_stages (i : Fin 16) : (s.handLeft i).stages = s.stages := rfl
@[simp] theorem State.handLeft_exhausted (i : Fin 16) : (s.handLeft i).exhausted = s.exhausted := rfl
@[simp] theorem State.handLeft_reserveShed (i : Fin 16) : (s.handLeft i).reserveShed = s.reserveShed := rfl
@[simp] theorem State.handLeft_mshedLevel (i : Fin 16) : (s.handLeft i).mshedLevel = s.mshedLevel := rfl
@[simp] theorem State.handLeft_notedMeter (i : Fin 16) : (s.handLeft i).notedMeter = s.notedMeter := rfl
@[simp] theorem State.handLeft_reportCount (i : Fin 16) : (s.handLeft i).reportCount = s.reportCount := rfl
@[simp] theorem State.handLeft_firstReport (i : Fin 16) : (s.handLeft i).firstReport = s.firstReport := rfl
@[simp] theorem State.handLeft_queue (i : Fin 16) : (s.handLeft i).queue = s.queue.erase i := rfl
@[simp] theorem State.handLeft_settle (i : Fin 16) : (s.handLeft i).settle = s.settle := rfl
@[simp] theorem State.handLeft_restoreDelay (i : Fin 16) : (s.handLeft i).restoreDelay = s.restoreDelay := rfl
@[simp] theorem State.handLeft_blocked (i : Fin 16) : (s.handLeft i).blocked = s.blocked := rfl
@[simp] theorem State.handLeft_hold (i : Fin 16) : (s.handLeft i).hold = s.hold := rfl
@[simp] theorem State.handLeft_ordering (i : Fin 16) : (s.handLeft i).ordering = s.ordering := rfl
@[simp] theorem State.handLeft_seq (i : Fin 16) : (s.handLeft i).seq = s.seq := rfl
@[simp] theorem State.handLeft_mode (i : Fin 16) : (s.handLeft i).mode = s.mode := rfl
@[simp] theorem State.handLeft_cfglockLevel (i : Fin 16) : (s.handLeft i).cfglockLevel = s.cfglockLevel := rfl
@[simp] theorem State.handLeft_window (i : Fin 16) : (s.handLeft i).window = s.window := rfl
@[simp] theorem State.handLeft_store (i : Fin 16) : (s.handLeft i).store = s.store := rfl
@[simp] theorem State.handLeft_save (i : Fin 16) : (s.handLeft i).save = s.save := rfl
@[simp] theorem State.handLeft_storeBad (i : Fin 16) : (s.handLeft i).storeBad = s.storeBad := rfl

/-! ### handStageAction -/

@[simp] theorem State.handStageAction_pending : (s.handStageAction).pending = s.pending := rfl
@[simp] theorem State.handStageAction_clk : (s.handStageAction).clk = s.clk := rfl
@[simp] theorem State.handStageAction_power : (s.handStageAction).power = s.power := rfl
@[simp] theorem State.handStageAction_startBegan : (s.handStageAction).startBegan = s.startBegan := rfl
@[simp] theorem State.handStageAction_freeCount : (s.handStageAction).freeCount = s.freeCount := rfl
@[simp] theorem State.handStageAction_pins : (s.handStageAction).pins = s.pins := rfl
@[simp] theorem State.handStageAction_alertPin : (s.handStageAction).alertPin = s.alertPin := rfl
@[simp] theorem State.handStageAction_fn : (s.handStageAction).fn = s.fn := rfl
@[simp] theorem State.handStageAction_meter : (s.handStageAction).meter = s.meter := rfl
@[simp] theorem State.handStageAction_tbalEnds : (s.handStageAction).tbalEnds = s.tbalEnds := rfl
@[simp] theorem State.handStageAction_cycle : (s.handStageAction).cycle = s.cycle := rfl
@[simp] theorem State.handStageAction_record : (s.handStageAction).record = s.record := rfl
@[simp] theorem State.handStageAction_held : (s.handStageAction).held = s.held := rfl
@[simp] theorem State.handStageAction_lane : (s.handStageAction).lane = s.lane := rfl
@[simp] theorem State.handStageAction_laneWaiting : (s.handStageAction).laneWaiting = s.laneWaiting := rfl
@[simp] theorem State.handStageAction_setSlots : (s.handStageAction).setSlots = s.setSlots := rfl
@[simp] theorem State.handStageAction_pvSlots : (s.handStageAction).pvSlots = s.pvSlots := rfl
@[simp] theorem State.handStageAction_txQueue : (s.handStageAction).txQueue = s.txQueue := rfl
@[simp] theorem State.handStageAction_txBuffer : (s.handStageAction).txBuffer = s.txBuffer := rfl
@[simp] theorem State.handStageAction_cfg : (s.handStageAction).cfg = s.cfg := rfl
@[simp] theorem State.handStageAction_paramPending : (s.handStageAction).paramPending = s.paramPending := rfl
@[simp] theorem State.handStageAction_sets : (s.handStageAction).sets = s.sets := rfl
@[simp] theorem State.handStageAction_shortfall : (s.handStageAction).shortfall = s.shortfall := rfl
@[simp] theorem State.handStageAction_surplus : (s.handStageAction).surplus = s.surplus := rfl
@[simp] theorem State.handStageAction_plants : (s.handStageAction).plants = s.plants := rfl
@[simp] theorem State.handStageAction_aggU : (s.handStageAction).aggU = s.aggU := rfl
@[simp] theorem State.handStageAction_freshStart : (s.handStageAction).freshStart = s.freshStart := rfl
@[simp] theorem State.handStageAction_forcedZero : (s.handStageAction).forcedZero = s.forcedZero := rfl
@[simp] theorem State.handStageAction_pvReached : (s.handStageAction).pvReached = s.pvReached := rfl
@[simp] theorem State.handStageAction_feeders : (s.handStageAction).feeders = s.feeders := rfl
@[simp] theorem State.handStageAction_stages : (s.handStageAction).stages = s.stages := rfl
@[simp] theorem State.handStageAction_exhausted : (s.handStageAction).exhausted = s.exhausted := rfl
@[simp] theorem State.handStageAction_reserveShed : (s.handStageAction).reserveShed = s.reserveShed := rfl
@[simp] theorem State.handStageAction_mshedLevel : (s.handStageAction).mshedLevel = s.mshedLevel := rfl
@[simp] theorem State.handStageAction_notedMeter : (s.handStageAction).notedMeter = s.notedMeter := rfl
@[simp] theorem State.handStageAction_reportCount : (s.handStageAction).reportCount = s.reportCount := rfl
@[simp] theorem State.handStageAction_firstReport : (s.handStageAction).firstReport = s.firstReport := rfl
@[simp] theorem State.handStageAction_queue : (s.handStageAction).queue = s.queue := rfl
@[simp] theorem State.handStageAction_settle : (s.handStageAction).settle = .stopped := rfl
@[simp] theorem State.handStageAction_restoreDelay : (s.handStageAction).restoreDelay = s.restoreDelay := rfl
@[simp] theorem State.handStageAction_blocked : (s.handStageAction).blocked = s.blocked := rfl
@[simp] theorem State.handStageAction_hold : (s.handStageAction).hold = s.hold := rfl
@[simp] theorem State.handStageAction_ordering : (s.handStageAction).ordering = s.ordering := rfl
@[simp] theorem State.handStageAction_seq : (s.handStageAction).seq = s.seq := rfl
@[simp] theorem State.handStageAction_mode : (s.handStageAction).mode = s.mode := rfl
@[simp] theorem State.handStageAction_cfglockLevel : (s.handStageAction).cfglockLevel = s.cfglockLevel := rfl
@[simp] theorem State.handStageAction_window : (s.handStageAction).window = s.window := rfl
@[simp] theorem State.handStageAction_store : (s.handStageAction).store = s.store := rfl
@[simp] theorem State.handStageAction_save : (s.handStageAction).save = s.save := rfl
@[simp] theorem State.handStageAction_storeBad : (s.handStageAction).storeBad = s.storeBad := rfl

/-! ### handStageReset -/

@[simp] theorem State.handStageReset_pending (time : Count) : (s.handStageReset time).pending = s.pending := rfl
@[simp] theorem State.handStageReset_clk (time : Count) : (s.handStageReset time).clk = s.clk := rfl
@[simp] theorem State.handStageReset_power (time : Count) : (s.handStageReset time).power = s.power := rfl
@[simp] theorem State.handStageReset_startBegan (time : Count) :
    (s.handStageReset time).startBegan = s.startBegan := rfl
@[simp] theorem State.handStageReset_freeCount (time : Count) : (s.handStageReset time).freeCount = s.freeCount := rfl
@[simp] theorem State.handStageReset_pins (time : Count) : (s.handStageReset time).pins = s.pins := rfl
@[simp] theorem State.handStageReset_alertPin (time : Count) : (s.handStageReset time).alertPin = s.alertPin := rfl
@[simp] theorem State.handStageReset_fn (time : Count) : (s.handStageReset time).fn = s.fn := rfl
@[simp] theorem State.handStageReset_meter (time : Count) : (s.handStageReset time).meter = s.meter := rfl
@[simp] theorem State.handStageReset_tbalEnds (time : Count) : (s.handStageReset time).tbalEnds = s.tbalEnds := rfl
@[simp] theorem State.handStageReset_cycle (time : Count) : (s.handStageReset time).cycle = s.cycle := rfl
@[simp] theorem State.handStageReset_record (time : Count) : (s.handStageReset time).record = s.record := rfl
@[simp] theorem State.handStageReset_held (time : Count) : (s.handStageReset time).held = s.held := rfl
@[simp] theorem State.handStageReset_lane (time : Count) : (s.handStageReset time).lane = s.lane := rfl
@[simp] theorem State.handStageReset_laneWaiting (time : Count) :
    (s.handStageReset time).laneWaiting = s.laneWaiting := rfl
@[simp] theorem State.handStageReset_setSlots (time : Count) : (s.handStageReset time).setSlots = s.setSlots := rfl
@[simp] theorem State.handStageReset_pvSlots (time : Count) : (s.handStageReset time).pvSlots = s.pvSlots := rfl
@[simp] theorem State.handStageReset_txQueue (time : Count) : (s.handStageReset time).txQueue = s.txQueue := rfl
@[simp] theorem State.handStageReset_txBuffer (time : Count) : (s.handStageReset time).txBuffer = s.txBuffer := rfl
@[simp] theorem State.handStageReset_cfg (time : Count) : (s.handStageReset time).cfg = s.cfg := rfl
@[simp] theorem State.handStageReset_paramPending (time : Count) :
    (s.handStageReset time).paramPending = s.paramPending := rfl
@[simp] theorem State.handStageReset_sets (time : Count) : (s.handStageReset time).sets = s.sets := rfl
@[simp] theorem State.handStageReset_shortfall (time : Count) : (s.handStageReset time).shortfall = s.shortfall := rfl
@[simp] theorem State.handStageReset_surplus (time : Count) : (s.handStageReset time).surplus = s.surplus := rfl
@[simp] theorem State.handStageReset_plants (time : Count) : (s.handStageReset time).plants = s.plants := rfl
@[simp] theorem State.handStageReset_aggU (time : Count) : (s.handStageReset time).aggU = s.aggU := rfl
@[simp] theorem State.handStageReset_freshStart (time : Count) :
    (s.handStageReset time).freshStart = s.freshStart := rfl
@[simp] theorem State.handStageReset_forcedZero (time : Count) :
    (s.handStageReset time).forcedZero = s.forcedZero := rfl
@[simp] theorem State.handStageReset_pvReached (time : Count) : (s.handStageReset time).pvReached = s.pvReached := rfl
@[simp] theorem State.handStageReset_feeders (time : Count) : (s.handStageReset time).feeders = s.feeders := rfl
@[simp] theorem State.handStageReset_stages (time : Count) : (s.handStageReset time).stages = s.stages := rfl
@[simp] theorem State.handStageReset_exhausted (time : Count) : (s.handStageReset time).exhausted = s.exhausted := rfl
@[simp] theorem State.handStageReset_reserveShed (time : Count) :
    (s.handStageReset time).reserveShed = s.reserveShed := rfl
@[simp] theorem State.handStageReset_mshedLevel (time : Count) :
    (s.handStageReset time).mshedLevel = s.mshedLevel := rfl
@[simp] theorem State.handStageReset_notedMeter (time : Count) :
    (s.handStageReset time).notedMeter = s.notedMeter := rfl
@[simp] theorem State.handStageReset_reportCount (time : Count) :
    (s.handStageReset time).reportCount = s.reportCount := rfl
@[simp] theorem State.handStageReset_firstReport (time : Count) :
    (s.handStageReset time).firstReport = s.firstReport := rfl
@[simp] theorem State.handStageReset_queue (time : Count) : (s.handStageReset time).queue = s.queue := rfl
@[simp] theorem State.handStageReset_settle (time : Count) : (s.handStageReset time).settle = s.settle := rfl
@[simp] theorem State.handStageReset_restoreDelay (time : Count) :
    (s.handStageReset time).restoreDelay = some (time + sec (s.par RESTORE_DELAY)) := rfl
@[simp] theorem State.handStageReset_blocked (time : Count) : (s.handStageReset time).blocked = s.blocked := rfl
@[simp] theorem State.handStageReset_hold (time : Count) : (s.handStageReset time).hold = s.hold := rfl
@[simp] theorem State.handStageReset_ordering (time : Count) : (s.handStageReset time).ordering = s.ordering := rfl
@[simp] theorem State.handStageReset_seq (time : Count) : (s.handStageReset time).seq = s.seq := rfl
@[simp] theorem State.handStageReset_mode (time : Count) : (s.handStageReset time).mode = s.mode := rfl
@[simp] theorem State.handStageReset_cfglockLevel (time : Count) :
    (s.handStageReset time).cfglockLevel = s.cfglockLevel := rfl
@[simp] theorem State.handStageReset_window (time : Count) : (s.handStageReset time).window = s.window := rfl
@[simp] theorem State.handStageReset_store (time : Count) : (s.handStageReset time).store = s.store := rfl
@[simp] theorem State.handStageReset_save (time : Count) : (s.handStageReset time).save = s.save := rfl
@[simp] theorem State.handStageReset_storeBad (time : Count) : (s.handStageReset time).storeBad = s.storeBad := rfl

/-! ### holdTakesEffect -/

@[simp] theorem State.holdTakesEffect_pending : (s.holdTakesEffect).pending = s.pending := rfl
@[simp] theorem State.holdTakesEffect_clk : (s.holdTakesEffect).clk = s.clk := rfl
@[simp] theorem State.holdTakesEffect_power : (s.holdTakesEffect).power = s.power := rfl
@[simp] theorem State.holdTakesEffect_startBegan : (s.holdTakesEffect).startBegan = s.startBegan := rfl
@[simp] theorem State.holdTakesEffect_freeCount : (s.holdTakesEffect).freeCount = s.freeCount := rfl
@[simp] theorem State.holdTakesEffect_pins : (s.holdTakesEffect).pins = s.pins := rfl
@[simp] theorem State.holdTakesEffect_alertPin : (s.holdTakesEffect).alertPin = s.alertPin := rfl
@[simp] theorem State.holdTakesEffect_fn : (s.holdTakesEffect).fn = s.fn := rfl
@[simp] theorem State.holdTakesEffect_meter : (s.holdTakesEffect).meter = s.meter := rfl
@[simp] theorem State.holdTakesEffect_tbalEnds : (s.holdTakesEffect).tbalEnds = s.tbalEnds := rfl
@[simp] theorem State.holdTakesEffect_cycle : (s.holdTakesEffect).cycle = s.cycle := rfl
@[simp] theorem State.holdTakesEffect_record : (s.holdTakesEffect).record = s.record := rfl
@[simp] theorem State.holdTakesEffect_held : (s.holdTakesEffect).held = s.held := rfl
@[simp] theorem State.holdTakesEffect_lane : (s.holdTakesEffect).lane = s.lane := rfl
@[simp] theorem State.holdTakesEffect_laneWaiting : (s.holdTakesEffect).laneWaiting = s.laneWaiting := rfl
@[simp] theorem State.holdTakesEffect_setSlots : (s.holdTakesEffect).setSlots = s.setSlots := rfl
@[simp] theorem State.holdTakesEffect_pvSlots : (s.holdTakesEffect).pvSlots = s.pvSlots := rfl
@[simp] theorem State.holdTakesEffect_txQueue : (s.holdTakesEffect).txQueue = s.txQueue := rfl
@[simp] theorem State.holdTakesEffect_txBuffer : (s.holdTakesEffect).txBuffer = s.txBuffer := rfl
@[simp] theorem State.holdTakesEffect_cfg : (s.holdTakesEffect).cfg = s.cfg := rfl
@[simp] theorem State.holdTakesEffect_paramPending : (s.holdTakesEffect).paramPending = s.paramPending := rfl
@[simp] theorem State.holdTakesEffect_sets : (s.holdTakesEffect).sets = s.sets := rfl
@[simp] theorem State.holdTakesEffect_shortfall : (s.holdTakesEffect).shortfall = s.shortfall := rfl
@[simp] theorem State.holdTakesEffect_surplus : (s.holdTakesEffect).surplus = s.surplus := rfl
@[simp] theorem State.holdTakesEffect_plants : (s.holdTakesEffect).plants = s.plants := rfl
@[simp] theorem State.holdTakesEffect_aggU : (s.holdTakesEffect).aggU = s.aggU := rfl
@[simp] theorem State.holdTakesEffect_freshStart : (s.holdTakesEffect).freshStart = s.freshStart := rfl
@[simp] theorem State.holdTakesEffect_forcedZero : (s.holdTakesEffect).forcedZero = s.forcedZero := rfl
@[simp] theorem State.holdTakesEffect_pvReached : (s.holdTakesEffect).pvReached = s.pvReached := rfl
@[simp] theorem State.holdTakesEffect_feeders : (s.holdTakesEffect).feeders = s.feeders := rfl
@[simp] theorem State.holdTakesEffect_stages : (s.holdTakesEffect).stages = s.stages := rfl
@[simp] theorem State.holdTakesEffect_exhausted : (s.holdTakesEffect).exhausted = s.exhausted := rfl
@[simp] theorem State.holdTakesEffect_reserveShed : (s.holdTakesEffect).reserveShed = s.reserveShed := rfl
@[simp] theorem State.holdTakesEffect_mshedLevel : (s.holdTakesEffect).mshedLevel = s.mshedLevel := rfl
@[simp] theorem State.holdTakesEffect_notedMeter : (s.holdTakesEffect).notedMeter = s.notedMeter := rfl
@[simp] theorem State.holdTakesEffect_reportCount : (s.holdTakesEffect).reportCount = s.reportCount := rfl
@[simp] theorem State.holdTakesEffect_firstReport : (s.holdTakesEffect).firstReport = s.firstReport := rfl
@[simp] theorem State.holdTakesEffect_queue : (s.holdTakesEffect).queue = s.queue := rfl
@[simp] theorem State.holdTakesEffect_settle : (s.holdTakesEffect).settle = s.settle.pause s.clk := rfl
@[simp] theorem State.holdTakesEffect_restoreDelay : (s.holdTakesEffect).restoreDelay = s.restoreDelay := rfl
@[simp] theorem State.holdTakesEffect_blocked : (s.holdTakesEffect).blocked = s.blocked := rfl
@[simp] theorem State.holdTakesEffect_hold : (s.holdTakesEffect).hold = { s.hold with state := .inEffect } := rfl
@[simp] theorem State.holdTakesEffect_ordering : (s.holdTakesEffect).ordering = s.ordering := rfl
@[simp] theorem State.holdTakesEffect_seq : (s.holdTakesEffect).seq = s.seq := rfl
@[simp] theorem State.holdTakesEffect_mode : (s.holdTakesEffect).mode = s.mode := rfl
@[simp] theorem State.holdTakesEffect_cfglockLevel : (s.holdTakesEffect).cfglockLevel = s.cfglockLevel := rfl
@[simp] theorem State.holdTakesEffect_window : (s.holdTakesEffect).window = s.window := rfl
@[simp] theorem State.holdTakesEffect_store : (s.holdTakesEffect).store = s.store := rfl
@[simp] theorem State.holdTakesEffect_save : (s.holdTakesEffect).save = s.save := rfl
@[simp] theorem State.holdTakesEffect_storeBad : (s.holdTakesEffect).storeBad = s.storeBad := rfl

/-! ### endHold -/

@[simp] theorem State.endHold_pending : (s.endHold).pending = s.pending := rfl
@[simp] theorem State.endHold_clk : (s.endHold).clk = s.clk := rfl
@[simp] theorem State.endHold_power : (s.endHold).power = s.power := rfl
@[simp] theorem State.endHold_startBegan : (s.endHold).startBegan = s.startBegan := rfl
@[simp] theorem State.endHold_freeCount : (s.endHold).freeCount = s.freeCount := rfl
@[simp] theorem State.endHold_pins : (s.endHold).pins = s.pins := rfl
@[simp] theorem State.endHold_alertPin : (s.endHold).alertPin = s.alertPin := rfl
@[simp] theorem State.endHold_fn : (s.endHold).fn = s.fn := rfl
@[simp] theorem State.endHold_meter : (s.endHold).meter = s.meter := rfl
@[simp] theorem State.endHold_tbalEnds : (s.endHold).tbalEnds = s.tbalEnds := rfl
@[simp] theorem State.endHold_cycle : (s.endHold).cycle = s.cycle := rfl
@[simp] theorem State.endHold_record : (s.endHold).record = s.record := rfl
@[simp] theorem State.endHold_held : (s.endHold).held = s.held := rfl
@[simp] theorem State.endHold_lane : (s.endHold).lane = s.lane := rfl
@[simp] theorem State.endHold_laneWaiting : (s.endHold).laneWaiting = s.laneWaiting := rfl
@[simp] theorem State.endHold_setSlots : (s.endHold).setSlots = s.setSlots := rfl
@[simp] theorem State.endHold_pvSlots : (s.endHold).pvSlots = s.pvSlots := rfl
@[simp] theorem State.endHold_txQueue : (s.endHold).txQueue = s.txQueue := rfl
@[simp] theorem State.endHold_txBuffer : (s.endHold).txBuffer = s.txBuffer := rfl
@[simp] theorem State.endHold_cfg : (s.endHold).cfg = s.cfg := rfl
@[simp] theorem State.endHold_paramPending : (s.endHold).paramPending = s.paramPending := rfl
@[simp] theorem State.endHold_sets : (s.endHold).sets = s.sets := rfl
@[simp] theorem State.endHold_shortfall : (s.endHold).shortfall = s.shortfall := rfl
@[simp] theorem State.endHold_surplus : (s.endHold).surplus = s.surplus := rfl
@[simp] theorem State.endHold_plants : (s.endHold).plants = s.plants := rfl
@[simp] theorem State.endHold_aggU : (s.endHold).aggU = s.aggU := rfl
@[simp] theorem State.endHold_freshStart : (s.endHold).freshStart = s.freshStart := rfl
@[simp] theorem State.endHold_forcedZero : (s.endHold).forcedZero = s.forcedZero := rfl
@[simp] theorem State.endHold_pvReached : (s.endHold).pvReached = s.pvReached := rfl
@[simp] theorem State.endHold_feeders : (s.endHold).feeders = s.feeders := rfl
@[simp] theorem State.endHold_stages : (s.endHold).stages = s.stages := rfl
@[simp] theorem State.endHold_exhausted : (s.endHold).exhausted = s.exhausted := rfl
@[simp] theorem State.endHold_reserveShed : (s.endHold).reserveShed = s.reserveShed := rfl
@[simp] theorem State.endHold_mshedLevel : (s.endHold).mshedLevel = s.mshedLevel := rfl
@[simp] theorem State.endHold_notedMeter : (s.endHold).notedMeter = s.notedMeter := rfl
@[simp] theorem State.endHold_reportCount : (s.endHold).reportCount = s.reportCount := rfl
@[simp] theorem State.endHold_firstReport : (s.endHold).firstReport = s.firstReport := rfl
@[simp] theorem State.endHold_queue : (s.endHold).queue = s.queue := rfl
@[simp] theorem State.endHold_settle : (s.endHold).settle = s.settle.resume s.clk := rfl
@[simp] theorem State.endHold_restoreDelay : (s.endHold).restoreDelay = s.restoreDelay := rfl
@[simp] theorem State.endHold_blocked : (s.endHold).blocked = s.blocked := rfl
@[simp] theorem State.endHold_hold : (s.endHold).hold = ⟨.none, none, none, some (s.clk + tHOLDGAP)⟩ := rfl
@[simp] theorem State.endHold_ordering : (s.endHold).ordering = s.ordering := rfl
@[simp] theorem State.endHold_seq : (s.endHold).seq = s.seq := rfl
@[simp] theorem State.endHold_mode : (s.endHold).mode = s.mode := rfl
@[simp] theorem State.endHold_cfglockLevel : (s.endHold).cfglockLevel = s.cfglockLevel := rfl
@[simp] theorem State.endHold_window : (s.endHold).window = s.window := rfl
@[simp] theorem State.endHold_store : (s.endHold).store = s.store := rfl
@[simp] theorem State.endHold_save : (s.endHold).save = s.save := rfl
@[simp] theorem State.endHold_storeBad : (s.endHold).storeBad = s.storeBad := rfl

/-! ### rebuildQueue -/

@[simp] theorem State.rebuildQueue_pending : (s.rebuildQueue).pending = s.pending := rfl
@[simp] theorem State.rebuildQueue_clk : (s.rebuildQueue).clk = s.clk := rfl
@[simp] theorem State.rebuildQueue_power : (s.rebuildQueue).power = s.power := rfl
@[simp] theorem State.rebuildQueue_startBegan : (s.rebuildQueue).startBegan = s.startBegan := rfl
@[simp] theorem State.rebuildQueue_freeCount : (s.rebuildQueue).freeCount = s.freeCount := rfl
@[simp] theorem State.rebuildQueue_pins : (s.rebuildQueue).pins = s.pins := rfl
@[simp] theorem State.rebuildQueue_alertPin : (s.rebuildQueue).alertPin = s.alertPin := rfl
@[simp] theorem State.rebuildQueue_fn : (s.rebuildQueue).fn = s.fn := rfl
@[simp] theorem State.rebuildQueue_meter : (s.rebuildQueue).meter = s.meter := rfl
@[simp] theorem State.rebuildQueue_tbalEnds : (s.rebuildQueue).tbalEnds = s.tbalEnds := rfl
@[simp] theorem State.rebuildQueue_cycle : (s.rebuildQueue).cycle = s.cycle := rfl
@[simp] theorem State.rebuildQueue_record : (s.rebuildQueue).record = s.record := rfl
@[simp] theorem State.rebuildQueue_held : (s.rebuildQueue).held = s.held := rfl
@[simp] theorem State.rebuildQueue_lane : (s.rebuildQueue).lane = s.lane := rfl
@[simp] theorem State.rebuildQueue_laneWaiting : (s.rebuildQueue).laneWaiting = s.laneWaiting := rfl
@[simp] theorem State.rebuildQueue_setSlots : (s.rebuildQueue).setSlots = s.setSlots := rfl
@[simp] theorem State.rebuildQueue_pvSlots : (s.rebuildQueue).pvSlots = s.pvSlots := rfl
@[simp] theorem State.rebuildQueue_txQueue : (s.rebuildQueue).txQueue = s.txQueue := rfl
@[simp] theorem State.rebuildQueue_txBuffer : (s.rebuildQueue).txBuffer = s.txBuffer := rfl
@[simp] theorem State.rebuildQueue_cfg : (s.rebuildQueue).cfg = s.cfg := rfl
@[simp] theorem State.rebuildQueue_paramPending : (s.rebuildQueue).paramPending = s.paramPending := rfl
@[simp] theorem State.rebuildQueue_sets : (s.rebuildQueue).sets = s.sets := rfl
@[simp] theorem State.rebuildQueue_shortfall : (s.rebuildQueue).shortfall = s.shortfall := rfl
@[simp] theorem State.rebuildQueue_surplus : (s.rebuildQueue).surplus = s.surplus := rfl
@[simp] theorem State.rebuildQueue_plants : (s.rebuildQueue).plants = s.plants := rfl
@[simp] theorem State.rebuildQueue_aggU : (s.rebuildQueue).aggU = s.aggU := rfl
@[simp] theorem State.rebuildQueue_freshStart : (s.rebuildQueue).freshStart = s.freshStart := rfl
@[simp] theorem State.rebuildQueue_forcedZero : (s.rebuildQueue).forcedZero = s.forcedZero := rfl
@[simp] theorem State.rebuildQueue_pvReached : (s.rebuildQueue).pvReached = s.pvReached := rfl
@[simp] theorem State.rebuildQueue_feeders : (s.rebuildQueue).feeders = s.feeders := rfl
@[simp] theorem State.rebuildQueue_stages : (s.rebuildQueue).stages = s.stages := rfl
@[simp] theorem State.rebuildQueue_exhausted : (s.rebuildQueue).exhausted = s.exhausted := rfl
@[simp] theorem State.rebuildQueue_reserveShed : (s.rebuildQueue).reserveShed = s.reserveShed := rfl
@[simp] theorem State.rebuildQueue_mshedLevel : (s.rebuildQueue).mshedLevel = s.mshedLevel := rfl
@[simp] theorem State.rebuildQueue_notedMeter : (s.rebuildQueue).notedMeter = s.notedMeter := rfl
@[simp] theorem State.rebuildQueue_reportCount : (s.rebuildQueue).reportCount = s.reportCount := rfl
@[simp] theorem State.rebuildQueue_firstReport : (s.rebuildQueue).firstReport = s.firstReport := rfl
@[simp] theorem State.rebuildQueue_queue : (s.rebuildQueue).queue = s.queue.insertionSort s.higher := rfl
@[simp] theorem State.rebuildQueue_settle : (s.rebuildQueue).settle = .stopped := rfl
@[simp] theorem State.rebuildQueue_restoreDelay : (s.rebuildQueue).restoreDelay = s.restoreDelay := rfl
@[simp] theorem State.rebuildQueue_blocked : (s.rebuildQueue).blocked = none := rfl
@[simp] theorem State.rebuildQueue_hold : (s.rebuildQueue).hold = .none := rfl
@[simp] theorem State.rebuildQueue_ordering : (s.rebuildQueue).ordering = true := rfl
@[simp] theorem State.rebuildQueue_seq : (s.rebuildQueue).seq = s.seq := rfl
@[simp] theorem State.rebuildQueue_mode : (s.rebuildQueue).mode = s.mode := rfl
@[simp] theorem State.rebuildQueue_cfglockLevel : (s.rebuildQueue).cfglockLevel = s.cfglockLevel := rfl
@[simp] theorem State.rebuildQueue_window : (s.rebuildQueue).window = s.window := rfl
@[simp] theorem State.rebuildQueue_store : (s.rebuildQueue).store = s.store := rfl
@[simp] theorem State.rebuildQueue_save : (s.rebuildQueue).save = s.save := rfl
@[simp] theorem State.rebuildQueue_storeBad : (s.rebuildQueue).storeBad = s.storeBad := rfl

/-! ### queueReport -/

@[simp] theorem State.queueReport_pending : (s.queueReport).pending = s.pending := rfl
@[simp] theorem State.queueReport_clk : (s.queueReport).clk = s.clk := rfl
@[simp] theorem State.queueReport_power : (s.queueReport).power = s.power := rfl
@[simp] theorem State.queueReport_startBegan : (s.queueReport).startBegan = s.startBegan := rfl
@[simp] theorem State.queueReport_freeCount : (s.queueReport).freeCount = s.freeCount := rfl
@[simp] theorem State.queueReport_pins : (s.queueReport).pins = s.pins := rfl
@[simp] theorem State.queueReport_alertPin : (s.queueReport).alertPin = s.alertPin := rfl
@[simp] theorem State.queueReport_fn : (s.queueReport).fn = s.fn := rfl
@[simp] theorem State.queueReport_meter : (s.queueReport).meter = s.meter := rfl
@[simp] theorem State.queueReport_tbalEnds : (s.queueReport).tbalEnds = s.tbalEnds := rfl
@[simp] theorem State.queueReport_cycle : (s.queueReport).cycle = s.cycle := rfl
@[simp] theorem State.queueReport_record : (s.queueReport).record = s.record := rfl
@[simp] theorem State.queueReport_held : (s.queueReport).held = s.held := rfl
@[simp] theorem State.queueReport_lane : (s.queueReport).lane = s.lane := rfl
@[simp] theorem State.queueReport_laneWaiting : (s.queueReport).laneWaiting = s.laneWaiting := rfl
@[simp] theorem State.queueReport_setSlots : (s.queueReport).setSlots = s.setSlots := rfl
@[simp] theorem State.queueReport_pvSlots : (s.queueReport).pvSlots = s.pvSlots := rfl
@[simp] theorem State.queueReport_txQueue :
    (s.queueReport).txQueue = enqueue s.txQueue (.feederReport (partsOf s.runs) 0) := rfl
@[simp] theorem State.queueReport_txBuffer : (s.queueReport).txBuffer = s.txBuffer := rfl
@[simp] theorem State.queueReport_cfg : (s.queueReport).cfg = s.cfg := rfl
@[simp] theorem State.queueReport_paramPending : (s.queueReport).paramPending = s.paramPending := rfl
@[simp] theorem State.queueReport_sets : (s.queueReport).sets = s.sets := rfl
@[simp] theorem State.queueReport_shortfall : (s.queueReport).shortfall = s.shortfall := rfl
@[simp] theorem State.queueReport_surplus : (s.queueReport).surplus = s.surplus := rfl
@[simp] theorem State.queueReport_plants : (s.queueReport).plants = s.plants := rfl
@[simp] theorem State.queueReport_aggU : (s.queueReport).aggU = s.aggU := rfl
@[simp] theorem State.queueReport_freshStart : (s.queueReport).freshStart = s.freshStart := rfl
@[simp] theorem State.queueReport_forcedZero : (s.queueReport).forcedZero = s.forcedZero := rfl
@[simp] theorem State.queueReport_pvReached : (s.queueReport).pvReached = s.pvReached := rfl
@[simp] theorem State.queueReport_feeders : (s.queueReport).feeders = s.feeders := rfl
@[simp] theorem State.queueReport_stages : (s.queueReport).stages = s.stages := rfl
@[simp] theorem State.queueReport_exhausted : (s.queueReport).exhausted = s.exhausted := rfl
@[simp] theorem State.queueReport_reserveShed : (s.queueReport).reserveShed = s.reserveShed := rfl
@[simp] theorem State.queueReport_mshedLevel : (s.queueReport).mshedLevel = s.mshedLevel := rfl
@[simp] theorem State.queueReport_notedMeter : (s.queueReport).notedMeter = s.notedMeter := rfl
@[simp] theorem State.queueReport_reportCount : (s.queueReport).reportCount = 0 := rfl
@[simp] theorem State.queueReport_firstReport : (s.queueReport).firstReport = s.firstReport := rfl
@[simp] theorem State.queueReport_queue : (s.queueReport).queue = s.queue := rfl
@[simp] theorem State.queueReport_settle : (s.queueReport).settle = s.settle := rfl
@[simp] theorem State.queueReport_restoreDelay : (s.queueReport).restoreDelay = s.restoreDelay := rfl
@[simp] theorem State.queueReport_blocked : (s.queueReport).blocked = s.blocked := rfl
@[simp] theorem State.queueReport_hold : (s.queueReport).hold = s.hold := rfl
@[simp] theorem State.queueReport_ordering : (s.queueReport).ordering = s.ordering := rfl
@[simp] theorem State.queueReport_seq : (s.queueReport).seq = s.seq := rfl
@[simp] theorem State.queueReport_mode : (s.queueReport).mode = s.mode := rfl
@[simp] theorem State.queueReport_cfglockLevel : (s.queueReport).cfglockLevel = s.cfglockLevel := rfl
@[simp] theorem State.queueReport_window : (s.queueReport).window = s.window := rfl
@[simp] theorem State.queueReport_store : (s.queueReport).store = s.store := rfl
@[simp] theorem State.queueReport_save : (s.queueReport).save = s.save := rfl
@[simp] theorem State.queueReport_storeBad : (s.queueReport).storeBad = s.storeBad := rfl

/-! ### publish -/

@[simp] theorem State.publish_pending : (s.publish).pending = s.pending := rfl
@[simp] theorem State.publish_clk : (s.publish).clk = s.clk := rfl
@[simp] theorem State.publish_power : (s.publish).power = s.power := rfl
@[simp] theorem State.publish_startBegan : (s.publish).startBegan = s.startBegan := rfl
@[simp] theorem State.publish_freeCount : (s.publish).freeCount = s.freeCount := rfl
@[simp] theorem State.publish_pins : (s.publish).pins = s.pins := rfl
@[simp] theorem State.publish_alertPin : (s.publish).alertPin = s.alertPin := rfl
@[simp] theorem State.publish_fn : (s.publish).fn = s.fn := rfl
@[simp] theorem State.publish_meter : (s.publish).meter = s.meter := rfl
@[simp] theorem State.publish_tbalEnds : (s.publish).tbalEnds = s.tbalEnds := rfl
@[simp] theorem State.publish_cycle : (s.publish).cycle = s.cycle := rfl
@[simp] theorem State.publish_record : (s.publish).record = some s.computeRecord := rfl
@[simp] theorem State.publish_held : (s.publish).held = s.heldAfter := rfl
@[simp] theorem State.publish_lane : (s.publish).lane = s.lane := rfl
@[simp] theorem State.publish_laneWaiting : (s.publish).laneWaiting = s.laneWaiting := rfl
@[simp] theorem State.publish_setSlots : (s.publish).setSlots = s.setSlots := rfl
@[simp] theorem State.publish_pvSlots : (s.publish).pvSlots = s.pvSlots := rfl
@[simp] theorem State.publish_txQueue : (s.publish).txQueue = s.txQueue := rfl
@[simp] theorem State.publish_txBuffer : (s.publish).txBuffer = s.txBuffer := rfl
@[simp] theorem State.publish_cfg : (s.publish).cfg = s.cfg := rfl
@[simp] theorem State.publish_paramPending : (s.publish).paramPending = s.paramPending := rfl
@[simp] theorem State.publish_sets : (s.publish).sets = s.sets := rfl
@[simp] theorem State.publish_shortfall : (s.publish).shortfall = s.shortfall := rfl
@[simp] theorem State.publish_surplus : (s.publish).surplus = s.surplus := rfl
@[simp] theorem State.publish_plants : (s.publish).plants = s.plants := rfl
@[simp] theorem State.publish_aggU : (s.publish).aggU = s.aggU := rfl
@[simp] theorem State.publish_freshStart : (s.publish).freshStart = s.freshStart := rfl
@[simp] theorem State.publish_forcedZero : (s.publish).forcedZero = s.forcedZero := rfl
@[simp] theorem State.publish_pvReached : (s.publish).pvReached = s.pvReached := rfl
@[simp] theorem State.publish_feeders : (s.publish).feeders = s.feeders := rfl
@[simp] theorem State.publish_stages : (s.publish).stages = s.stages := rfl
@[simp] theorem State.publish_exhausted : (s.publish).exhausted = s.exhausted := rfl
@[simp] theorem State.publish_reserveShed : (s.publish).reserveShed = s.reserveShed := rfl
@[simp] theorem State.publish_mshedLevel : (s.publish).mshedLevel = s.mshedLevel := rfl
@[simp] theorem State.publish_notedMeter : (s.publish).notedMeter = s.notedMeter := rfl
@[simp] theorem State.publish_reportCount : (s.publish).reportCount = s.reportCount := rfl
@[simp] theorem State.publish_firstReport : (s.publish).firstReport = s.firstReport := rfl
@[simp] theorem State.publish_queue : (s.publish).queue = s.queue := rfl
@[simp] theorem State.publish_settle : (s.publish).settle = s.settle := rfl
@[simp] theorem State.publish_restoreDelay : (s.publish).restoreDelay = s.restoreDelay := rfl
@[simp] theorem State.publish_blocked : (s.publish).blocked = s.blocked := rfl
@[simp] theorem State.publish_hold : (s.publish).hold = s.hold := rfl
@[simp] theorem State.publish_ordering : (s.publish).ordering = s.ordering := rfl
@[simp] theorem State.publish_seq : (s.publish).seq = s.seq := rfl
@[simp] theorem State.publish_mode : (s.publish).mode = s.mode := rfl
@[simp] theorem State.publish_cfglockLevel : (s.publish).cfglockLevel = s.cfglockLevel := rfl
@[simp] theorem State.publish_window : (s.publish).window = s.window := rfl
@[simp] theorem State.publish_store : (s.publish).store = s.store := rfl
@[simp] theorem State.publish_save : (s.publish).save = s.save := rfl
@[simp] theorem State.publish_storeBad : (s.publish).storeBad = s.storeBad := rfl

/-! ### enterRestore -/

@[simp] theorem State.enterRestore_pending : (s.enterRestore).pending = s.pending := rfl
@[simp] theorem State.enterRestore_clk : (s.enterRestore).clk = s.clk := rfl
@[simp] theorem State.enterRestore_power : (s.enterRestore).power = s.power := rfl
@[simp] theorem State.enterRestore_startBegan : (s.enterRestore).startBegan = s.startBegan := rfl
@[simp] theorem State.enterRestore_freeCount : (s.enterRestore).freeCount = s.freeCount := rfl
@[simp] theorem State.enterRestore_pins : (s.enterRestore).pins = s.pins := rfl
@[simp] theorem State.enterRestore_alertPin : (s.enterRestore).alertPin = s.alertPin := rfl
@[simp] theorem State.enterRestore_fn : (s.enterRestore).fn = s.fn := rfl
@[simp] theorem State.enterRestore_meter : (s.enterRestore).meter = s.meter := rfl
@[simp] theorem State.enterRestore_tbalEnds : (s.enterRestore).tbalEnds = s.tbalEnds := rfl
@[simp] theorem State.enterRestore_cycle : (s.enterRestore).cycle = s.cycle := rfl
@[simp] theorem State.enterRestore_record : (s.enterRestore).record = s.record := rfl
@[simp] theorem State.enterRestore_held : (s.enterRestore).held = s.held := rfl
@[simp] theorem State.enterRestore_lane : (s.enterRestore).lane = s.lane := rfl
@[simp] theorem State.enterRestore_laneWaiting : (s.enterRestore).laneWaiting = s.laneWaiting := rfl
@[simp] theorem State.enterRestore_setSlots : (s.enterRestore).setSlots = s.setSlots := rfl
@[simp] theorem State.enterRestore_pvSlots : (s.enterRestore).pvSlots = s.pvSlots := rfl
@[simp] theorem State.enterRestore_txQueue : (s.enterRestore).txQueue = s.txQueue := rfl
@[simp] theorem State.enterRestore_txBuffer : (s.enterRestore).txBuffer = s.txBuffer := rfl
@[simp] theorem State.enterRestore_cfg : (s.enterRestore).cfg = s.cfg := rfl
@[simp] theorem State.enterRestore_paramPending : (s.enterRestore).paramPending = s.paramPending := rfl
@[simp] theorem State.enterRestore_sets : (s.enterRestore).sets = s.sets := rfl
@[simp] theorem State.enterRestore_shortfall : (s.enterRestore).shortfall = s.shortfall := rfl
@[simp] theorem State.enterRestore_surplus : (s.enterRestore).surplus = s.surplus := rfl
@[simp] theorem State.enterRestore_plants : (s.enterRestore).plants = s.plants := rfl
@[simp] theorem State.enterRestore_aggU : (s.enterRestore).aggU = s.aggU := rfl
@[simp] theorem State.enterRestore_freshStart : (s.enterRestore).freshStart = s.freshStart := rfl
@[simp] theorem State.enterRestore_forcedZero : (s.enterRestore).forcedZero = s.forcedZero := rfl
@[simp] theorem State.enterRestore_pvReached : (s.enterRestore).pvReached = s.pvReached := rfl
@[simp] theorem State.enterRestore_feeders : (s.enterRestore).feeders = s.feeders := rfl
@[simp] theorem State.enterRestore_stages : (s.enterRestore).stages = s.stages := rfl
@[simp] theorem State.enterRestore_exhausted : (s.enterRestore).exhausted = s.exhausted := rfl
@[simp] theorem State.enterRestore_reserveShed : (s.enterRestore).reserveShed = s.reserveShed := rfl
@[simp] theorem State.enterRestore_mshedLevel : (s.enterRestore).mshedLevel = s.mshedLevel := rfl
@[simp] theorem State.enterRestore_notedMeter : (s.enterRestore).notedMeter = s.notedMeter := rfl
@[simp] theorem State.enterRestore_reportCount : (s.enterRestore).reportCount = s.reportCount := rfl
@[simp] theorem State.enterRestore_firstReport : (s.enterRestore).firstReport = s.firstReport := rfl
@[simp] theorem State.enterRestore_queue : (s.enterRestore).queue = s.queue := rfl
@[simp] theorem State.enterRestore_settle : (s.enterRestore).settle = s.settle := rfl
@[simp] theorem State.enterRestore_restoreDelay : (s.enterRestore).restoreDelay = s.restoreDelay := rfl
@[simp] theorem State.enterRestore_blocked : (s.enterRestore).blocked = s.blocked := rfl
@[simp] theorem State.enterRestore_hold : (s.enterRestore).hold = s.hold := rfl
@[simp] theorem State.enterRestore_ordering : (s.enterRestore).ordering = s.ordering := rfl
@[simp] theorem State.enterRestore_seq :
    (s.enterRestore).seq = { s.seq with phase := .restore, runOrder := none } := rfl
@[simp] theorem State.enterRestore_mode : (s.enterRestore).mode = s.mode := rfl
@[simp] theorem State.enterRestore_cfglockLevel : (s.enterRestore).cfglockLevel = s.cfglockLevel := rfl
@[simp] theorem State.enterRestore_window : (s.enterRestore).window = s.window := rfl
@[simp] theorem State.enterRestore_store : (s.enterRestore).store = s.store := rfl
@[simp] theorem State.enterRestore_save : (s.enterRestore).save = s.save := rfl
@[simp] theorem State.enterRestore_storeBad : (s.enterRestore).storeBad = s.storeBad := rfl

/-! ### enterPvReturn -/

@[simp] theorem State.enterPvReturn_pending : (s.enterPvReturn).pending = s.pending := rfl
@[simp] theorem State.enterPvReturn_clk : (s.enterPvReturn).clk = s.clk := rfl
@[simp] theorem State.enterPvReturn_power : (s.enterPvReturn).power = s.power := rfl
@[simp] theorem State.enterPvReturn_startBegan : (s.enterPvReturn).startBegan = s.startBegan := rfl
@[simp] theorem State.enterPvReturn_freeCount : (s.enterPvReturn).freeCount = s.freeCount := rfl
@[simp] theorem State.enterPvReturn_pins : (s.enterPvReturn).pins = s.pins := rfl
@[simp] theorem State.enterPvReturn_alertPin : (s.enterPvReturn).alertPin = s.alertPin := rfl
@[simp] theorem State.enterPvReturn_fn : (s.enterPvReturn).fn = s.fn := rfl
@[simp] theorem State.enterPvReturn_meter : (s.enterPvReturn).meter = s.meter := rfl
@[simp] theorem State.enterPvReturn_tbalEnds : (s.enterPvReturn).tbalEnds = s.tbalEnds := rfl
@[simp] theorem State.enterPvReturn_cycle : (s.enterPvReturn).cycle = s.cycle := rfl
@[simp] theorem State.enterPvReturn_record : (s.enterPvReturn).record = s.record := rfl
@[simp] theorem State.enterPvReturn_held : (s.enterPvReturn).held = s.held := rfl
@[simp] theorem State.enterPvReturn_lane : (s.enterPvReturn).lane = s.lane := rfl
@[simp] theorem State.enterPvReturn_laneWaiting : (s.enterPvReturn).laneWaiting = s.laneWaiting := rfl
@[simp] theorem State.enterPvReturn_setSlots : (s.enterPvReturn).setSlots = s.setSlots := rfl
@[simp] theorem State.enterPvReturn_pvSlots : (s.enterPvReturn).pvSlots = s.pvSlots := rfl
@[simp] theorem State.enterPvReturn_txQueue : (s.enterPvReturn).txQueue = s.txQueue := rfl
@[simp] theorem State.enterPvReturn_txBuffer : (s.enterPvReturn).txBuffer = s.txBuffer := rfl
@[simp] theorem State.enterPvReturn_cfg : (s.enterPvReturn).cfg = s.cfg := rfl
@[simp] theorem State.enterPvReturn_paramPending : (s.enterPvReturn).paramPending = s.paramPending := rfl
@[simp] theorem State.enterPvReturn_sets : (s.enterPvReturn).sets = s.sets := rfl
@[simp] theorem State.enterPvReturn_shortfall : (s.enterPvReturn).shortfall = s.shortfall := rfl
@[simp] theorem State.enterPvReturn_surplus : (s.enterPvReturn).surplus = s.surplus := rfl
@[simp] theorem State.enterPvReturn_plants : (s.enterPvReturn).plants = s.plants := rfl
@[simp] theorem State.enterPvReturn_aggU : (s.enterPvReturn).aggU = s.aggU := rfl
@[simp] theorem State.enterPvReturn_freshStart : (s.enterPvReturn).freshStart = s.freshStart := rfl
@[simp] theorem State.enterPvReturn_forcedZero : (s.enterPvReturn).forcedZero = false := rfl
@[simp] theorem State.enterPvReturn_pvReached : (s.enterPvReturn).pvReached = s.pvReached := rfl
@[simp] theorem State.enterPvReturn_feeders : (s.enterPvReturn).feeders = s.feeders := rfl
@[simp] theorem State.enterPvReturn_stages : (s.enterPvReturn).stages = s.stages := rfl
@[simp] theorem State.enterPvReturn_exhausted : (s.enterPvReturn).exhausted = s.exhausted := rfl
@[simp] theorem State.enterPvReturn_reserveShed : (s.enterPvReturn).reserveShed = s.reserveShed := rfl
@[simp] theorem State.enterPvReturn_mshedLevel : (s.enterPvReturn).mshedLevel = s.mshedLevel := rfl
@[simp] theorem State.enterPvReturn_notedMeter : (s.enterPvReturn).notedMeter = s.notedMeter := rfl
@[simp] theorem State.enterPvReturn_reportCount : (s.enterPvReturn).reportCount = s.reportCount := rfl
@[simp] theorem State.enterPvReturn_firstReport : (s.enterPvReturn).firstReport = s.firstReport := rfl
@[simp] theorem State.enterPvReturn_queue : (s.enterPvReturn).queue = s.queue := rfl
@[simp] theorem State.enterPvReturn_settle : (s.enterPvReturn).settle = s.settle := rfl
@[simp] theorem State.enterPvReturn_restoreDelay : (s.enterPvReturn).restoreDelay = s.restoreDelay := rfl
@[simp] theorem State.enterPvReturn_blocked : (s.enterPvReturn).blocked = s.blocked := rfl
@[simp] theorem State.enterPvReturn_hold : (s.enterPvReturn).hold = s.hold := rfl
@[simp] theorem State.enterPvReturn_ordering : (s.enterPvReturn).ordering = s.ordering := rfl
@[simp] theorem State.enterPvReturn_seq :
    (s.enterPvReturn).seq = { s.seq with phase := .pvReturn, block := none } := rfl
@[simp] theorem State.enterPvReturn_mode : (s.enterPvReturn).mode = s.mode := rfl
@[simp] theorem State.enterPvReturn_cfglockLevel : (s.enterPvReturn).cfglockLevel = s.cfglockLevel := rfl
@[simp] theorem State.enterPvReturn_window : (s.enterPvReturn).window = s.window := rfl
@[simp] theorem State.enterPvReturn_store : (s.enterPvReturn).store = s.store := rfl
@[simp] theorem State.enterPvReturn_save : (s.enterPvReturn).save = s.save := rfl
@[simp] theorem State.enterPvReturn_storeBad : (s.enterPvReturn).storeBad = s.storeBad := rfl

/-! ### receive -/

@[simp] theorem State.receive_pending (dt : Nat) (lane : Lane) (ident : BitVec 11) (data : List Byte) :
    (s.receive dt lane ident data).pending = s.pending ++ [decodeFrame dt lane ident data] := rfl
@[simp] theorem State.receive_clk (dt : Nat) (lane : Lane) (ident : BitVec 11) (data : List Byte) :
    (s.receive dt lane ident data).clk = s.clk := rfl
@[simp] theorem State.receive_power (dt : Nat) (lane : Lane) (ident : BitVec 11) (data : List Byte) :
    (s.receive dt lane ident data).power = s.power := rfl
@[simp] theorem State.receive_startBegan (dt : Nat) (lane : Lane) (ident : BitVec 11) (data : List Byte) :
    (s.receive dt lane ident data).startBegan = s.startBegan := rfl
@[simp] theorem State.receive_freeCount (dt : Nat) (lane : Lane) (ident : BitVec 11) (data : List Byte) :
    (s.receive dt lane ident data).freeCount = s.freeCount := rfl
@[simp] theorem State.receive_pins (dt : Nat) (lane : Lane) (ident : BitVec 11) (data : List Byte) :
    (s.receive dt lane ident data).pins = s.pins := rfl
@[simp] theorem State.receive_alertPin (dt : Nat) (lane : Lane) (ident : BitVec 11) (data : List Byte) :
    (s.receive dt lane ident data).alertPin = s.alertPin := rfl
@[simp] theorem State.receive_fn (dt : Nat) (lane : Lane) (ident : BitVec 11) (data : List Byte) :
    (s.receive dt lane ident data).fn = s.fn := rfl
@[simp] theorem State.receive_meter (dt : Nat) (lane : Lane) (ident : BitVec 11) (data : List Byte) :
    (s.receive dt lane ident data).meter = s.meter := rfl
@[simp] theorem State.receive_tbalEnds (dt : Nat) (lane : Lane) (ident : BitVec 11) (data : List Byte) :
    (s.receive dt lane ident data).tbalEnds = s.tbalEnds := rfl
@[simp] theorem State.receive_cycle (dt : Nat) (lane : Lane) (ident : BitVec 11) (data : List Byte) :
    (s.receive dt lane ident data).cycle = s.cycle := rfl
@[simp] theorem State.receive_record (dt : Nat) (lane : Lane) (ident : BitVec 11) (data : List Byte) :
    (s.receive dt lane ident data).record = s.record := rfl
@[simp] theorem State.receive_held (dt : Nat) (lane : Lane) (ident : BitVec 11) (data : List Byte) :
    (s.receive dt lane ident data).held = s.held := rfl
@[simp] theorem State.receive_lane (dt : Nat) (lane : Lane) (ident : BitVec 11) (data : List Byte) :
    (s.receive dt lane ident data).lane = s.lane := rfl
@[simp] theorem State.receive_laneWaiting (dt : Nat) (lane : Lane) (ident : BitVec 11) (data : List Byte) :
    (s.receive dt lane ident data).laneWaiting = s.laneWaiting := rfl
@[simp] theorem State.receive_setSlots (dt : Nat) (lane : Lane) (ident : BitVec 11) (data : List Byte) :
    (s.receive dt lane ident data).setSlots = s.setSlots := rfl
@[simp] theorem State.receive_pvSlots (dt : Nat) (lane : Lane) (ident : BitVec 11) (data : List Byte) :
    (s.receive dt lane ident data).pvSlots = s.pvSlots := rfl
@[simp] theorem State.receive_txQueue (dt : Nat) (lane : Lane) (ident : BitVec 11) (data : List Byte) :
    (s.receive dt lane ident data).txQueue = s.txQueue := rfl
@[simp] theorem State.receive_txBuffer (dt : Nat) (lane : Lane) (ident : BitVec 11) (data : List Byte) :
    (s.receive dt lane ident data).txBuffer = s.txBuffer := rfl
@[simp] theorem State.receive_cfg (dt : Nat) (lane : Lane) (ident : BitVec 11) (data : List Byte) :
    (s.receive dt lane ident data).cfg = s.cfg := rfl
@[simp] theorem State.receive_paramPending (dt : Nat) (lane : Lane) (ident : BitVec 11) (data : List Byte) :
    (s.receive dt lane ident data).paramPending = s.paramPending := rfl
@[simp] theorem State.receive_sets (dt : Nat) (lane : Lane) (ident : BitVec 11) (data : List Byte) :
    (s.receive dt lane ident data).sets = s.sets := rfl
@[simp] theorem State.receive_shortfall (dt : Nat) (lane : Lane) (ident : BitVec 11) (data : List Byte) :
    (s.receive dt lane ident data).shortfall = s.shortfall := rfl
@[simp] theorem State.receive_surplus (dt : Nat) (lane : Lane) (ident : BitVec 11) (data : List Byte) :
    (s.receive dt lane ident data).surplus = s.surplus := rfl
@[simp] theorem State.receive_plants (dt : Nat) (lane : Lane) (ident : BitVec 11) (data : List Byte) :
    (s.receive dt lane ident data).plants = s.plants := rfl
@[simp] theorem State.receive_aggU (dt : Nat) (lane : Lane) (ident : BitVec 11) (data : List Byte) :
    (s.receive dt lane ident data).aggU = s.aggU := rfl
@[simp] theorem State.receive_freshStart (dt : Nat) (lane : Lane) (ident : BitVec 11) (data : List Byte) :
    (s.receive dt lane ident data).freshStart = s.freshStart := rfl
@[simp] theorem State.receive_forcedZero (dt : Nat) (lane : Lane) (ident : BitVec 11) (data : List Byte) :
    (s.receive dt lane ident data).forcedZero = s.forcedZero := rfl
@[simp] theorem State.receive_pvReached (dt : Nat) (lane : Lane) (ident : BitVec 11) (data : List Byte) :
    (s.receive dt lane ident data).pvReached = s.pvReached := rfl
@[simp] theorem State.receive_feeders (dt : Nat) (lane : Lane) (ident : BitVec 11) (data : List Byte) :
    (s.receive dt lane ident data).feeders = s.feeders := rfl
@[simp] theorem State.receive_stages (dt : Nat) (lane : Lane) (ident : BitVec 11) (data : List Byte) :
    (s.receive dt lane ident data).stages = s.stages := rfl
@[simp] theorem State.receive_exhausted (dt : Nat) (lane : Lane) (ident : BitVec 11) (data : List Byte) :
    (s.receive dt lane ident data).exhausted = s.exhausted := rfl
@[simp] theorem State.receive_reserveShed (dt : Nat) (lane : Lane) (ident : BitVec 11) (data : List Byte) :
    (s.receive dt lane ident data).reserveShed = s.reserveShed := rfl
@[simp] theorem State.receive_mshedLevel (dt : Nat) (lane : Lane) (ident : BitVec 11) (data : List Byte) :
    (s.receive dt lane ident data).mshedLevel = s.mshedLevel := rfl
@[simp] theorem State.receive_notedMeter (dt : Nat) (lane : Lane) (ident : BitVec 11) (data : List Byte) :
    (s.receive dt lane ident data).notedMeter = s.notedMeter := rfl
@[simp] theorem State.receive_reportCount (dt : Nat) (lane : Lane) (ident : BitVec 11) (data : List Byte) :
    (s.receive dt lane ident data).reportCount = s.reportCount := rfl
@[simp] theorem State.receive_firstReport (dt : Nat) (lane : Lane) (ident : BitVec 11) (data : List Byte) :
    (s.receive dt lane ident data).firstReport = s.firstReport := rfl
@[simp] theorem State.receive_queue (dt : Nat) (lane : Lane) (ident : BitVec 11) (data : List Byte) :
    (s.receive dt lane ident data).queue = s.queue := rfl
@[simp] theorem State.receive_settle (dt : Nat) (lane : Lane) (ident : BitVec 11) (data : List Byte) :
    (s.receive dt lane ident data).settle = s.settle := rfl
@[simp] theorem State.receive_restoreDelay (dt : Nat) (lane : Lane) (ident : BitVec 11) (data : List Byte) :
    (s.receive dt lane ident data).restoreDelay = s.restoreDelay := rfl
@[simp] theorem State.receive_blocked (dt : Nat) (lane : Lane) (ident : BitVec 11) (data : List Byte) :
    (s.receive dt lane ident data).blocked = s.blocked := rfl
@[simp] theorem State.receive_hold (dt : Nat) (lane : Lane) (ident : BitVec 11) (data : List Byte) :
    (s.receive dt lane ident data).hold = s.hold := rfl
@[simp] theorem State.receive_ordering (dt : Nat) (lane : Lane) (ident : BitVec 11) (data : List Byte) :
    (s.receive dt lane ident data).ordering = s.ordering := rfl
@[simp] theorem State.receive_seq (dt : Nat) (lane : Lane) (ident : BitVec 11) (data : List Byte) :
    (s.receive dt lane ident data).seq = s.seq := rfl
@[simp] theorem State.receive_mode (dt : Nat) (lane : Lane) (ident : BitVec 11) (data : List Byte) :
    (s.receive dt lane ident data).mode = s.mode := rfl
@[simp] theorem State.receive_cfglockLevel (dt : Nat) (lane : Lane) (ident : BitVec 11) (data : List Byte) :
    (s.receive dt lane ident data).cfglockLevel = s.cfglockLevel := rfl
@[simp] theorem State.receive_window (dt : Nat) (lane : Lane) (ident : BitVec 11) (data : List Byte) :
    (s.receive dt lane ident data).window = s.window := rfl
@[simp] theorem State.receive_store (dt : Nat) (lane : Lane) (ident : BitVec 11) (data : List Byte) :
    (s.receive dt lane ident data).store = s.store := rfl
@[simp] theorem State.receive_save (dt : Nat) (lane : Lane) (ident : BitVec 11) (data : List Byte) :
    (s.receive dt lane ident data).save = s.save := rfl
@[simp] theorem State.receive_storeBad (dt : Nat) (lane : Lane) (ident : BitVec 11) (data : List Byte) :
    (s.receive dt lane ident data).storeBad = s.storeBad := rfl

end Sys2Proof.Machine
end

