-- ==== Sys2Proof/Laws/Ops.lean ====
section
/-! SUPPORT. What the shared operations can do, said once for each: the Transmit Queue, timers, directives, events,
frames, requests and the publication's order. -/

namespace Sys2Proof.Machine

/-! ## The Transmit Queue -/

/-- The keys after a frame is queued: as before when its key waits already, else with its key at the tail. -/
theorem enqueue_keys (q : List Frame) (f : Frame) :
    (enqueue q f).map Frame.key =
      if f.key ∈ q.map Frame.key then q.map Frame.key else q.map Frame.key ++ [f.key] := by
  have hmap : (q.map fun g => if g.key = f.key then f else g).map Frame.key = q.map Frame.key := by
    simp only [List.map_map, List.map_inj_left, Function.comp]
    intro g _
    split <;> simp_all
  unfold enqueue
  by_cases h : f.key ∈ q.map Frame.key
  · have hany : (q.any fun g => decide (g.key = f.key)) = true := by
      simpa [List.any_eq_true, List.mem_map] using h
    rw [if_pos hany, if_pos h, hmap]
  · have hany : ¬ (q.any fun g => decide (g.key = f.key)) = true := by
      simpa [List.any_eq_true, List.mem_map] using h
    rw [if_neg hany, if_neg h]
    simp

/-- A queued frame waits afterwards. -/
theorem self_mem_enqueue (q : List Frame) (f : Frame) : f ∈ enqueue q f := by
  unfold enqueue
  split
  · rename_i h
    obtain ⟨g, hg, hk⟩ := List.any_eq_true.mp h
    exact List.mem_map.mpr ⟨g, hg, by simp_all⟩
  · simp

/-- What waits after a frame is queued is that frame, or waited before under another key. -/
theorem mem_enqueue {q : List Frame} {f g : Frame} :
    g ∈ enqueue q f ↔ g = f ∨ (g ∈ q ∧ g.key ≠ f.key) := by
  unfold enqueue
  split
  · rename_i h
    constructor
    · intro hg
      obtain ⟨x, hx, rfl⟩ := List.mem_map.mp hg
      by_cases hk : x.key = f.key <;> simp_all
    · rintro (rfl | ⟨hg, hk⟩)
      · obtain ⟨x, hx, hk⟩ := List.any_eq_true.mp h
        exact List.mem_map.mpr ⟨x, hx, by simp_all⟩
      · exact List.mem_map.mpr ⟨g, hg, by simp [hk]⟩
  · rename_i h
    have hno : ∀ x ∈ q, x.key ≠ f.key := by simpa [List.any_eq_true] using h
    constructor
    · intro hg
      rcases List.mem_append.mp hg with hg | hg
      · exact .inr ⟨hg, hno g hg⟩
      · exact .inl (by simpa using hg)
    · rintro (rfl | ⟨hg, _⟩) <;> simp_all

/-- A frame with a new key joins the tail. -/
theorem enqueue_of_new {q : List Frame} {f : Frame} (h : f.key ∉ q.map Frame.key) : enqueue q f = q ++ [f] := by
  unfold enqueue
  rw [if_neg]
  simpa [List.any_eq_true, List.mem_map] using h

/-- A frame leaves the frames of other keys where they stand. -/
theorem map_replace_of_new {q : List Frame} {f : Frame} (h : f.key ∉ q.map Frame.key) :
    (q.map fun g => if g.key = f.key then f else g) = q := by
  conv_rhs => rw [← List.map_id q]
  refine List.map_congr_left fun g hg => if_neg fun hk => h ?_
  exact List.mem_map.mpr ⟨g, hg, hk⟩

/-- A frame takes the place of the one waiting frame of its key. -/
theorem enqueue_in_place {before after : List Frame} {old f : Frame} (hk : old.key = f.key)
    (hb : f.key ∉ before.map Frame.key) (ha : f.key ∉ after.map Frame.key) :
    enqueue (before ++ old :: after) f = before ++ f :: after := by
  unfold enqueue
  rw [if_pos (by simp [hk]), List.map_append, List.map_cons, if_pos hk, map_replace_of_new hb,
    map_replace_of_new ha]

/-- Queueing keeps the keys distinct (R185). -/
theorem enqueue_nodup {q : List Frame} (h : (q.map Frame.key).Nodup) (f : Frame) :
    ((enqueue q f).map Frame.key).Nodup := by
  rw [enqueue_keys]
  split
  · exact h
  · rename_i hf
    exact List.nodup_append.mpr ⟨h, by simp, by intro a ha b hb; simp at hb; rintro rfl; exact hf (hb ▸ ha)⟩

/-! ## Timers -/

/-- A timer is due exactly when it runs and its end is reached. -/
theorem due_iff (s : State) (t : Option Count) : s.due t = true ↔ ∃ ends, t = some ends ∧ ends ≤ s.clk := by
  cases t <;> simp [State.due]

@[simp] theorem Meter.elapse_state (m : Meter) (dt : Nat) : (m.elapse dt).state = m.state := by
  unfold Meter.elapse; split <;> rfl

@[simp] theorem Meter.elapse_freq (m : Meter) (dt : Nat) : (m.elapse dt).freq = m.freq := by
  unfold Meter.elapse; split <;> rfl

@[simp] theorem Meter.elapse_rocof (m : Meter) (dt : Nat) : (m.elapse dt).rocof = m.rocof := by
  unfold Meter.elapse; split <;> rfl

@[simp] theorem Meter.elapse_periods (m : Meter) (dt : Nat) : (m.elapse dt).periods = m.periods := by
  unfold Meter.elapse; split <;> rfl

@[simp] theorem Meter.elapse_freqs (m : Meter) (dt : Nat) : (m.elapse dt).freqs = m.freqs := by
  unfold Meter.elapse; split <;> rfl

@[simp] theorem Meter.elapse_acqCount (m : Meter) (dt : Nat) : (m.elapse dt).acqCount = m.acqCount := by
  unfold Meter.elapse; split <;> rfl

@[simp] theorem Meter.elapse_waitFrom (m : Meter) (dt : Nat) : (m.elapse dt).waitFrom = m.waitFrom := by
  unfold Meter.elapse; split <;> rfl

/-- The power state is not touched by passing time. -/
theorem elapse_running (s : State) (dt : Nat) : (s.elapse dt).power = .running ↔ s.power = .running := Iff.rfl

/-! ## Events and frames -/

/-- In the running device a quiet command lets time pass and acts. -/
theorem quiet_of_running {s : State} (h : s.power = .running) (dt : Nat) (f : State → State) :
    s.quiet dt f = f (s.elapse dt) := by
  simp [State.quiet, h]

/-- Outside running only time passes (R181). -/
theorem quiet_of_not_running {s : State} (h : s.power ≠ .running) (dt : Nat) (f : State → State) :
    s.quiet dt f = s.elapse dt := by
  simp [State.quiet, h]

/-- In the running device an event acts, and then it ends. -/
theorem event_of_running {s : State} (h : s.power = .running) (dt : Nat) (f : State → State) :
    s.event dt f = (f (s.elapse dt)).finish (s.elapse dt) := by
  rw [State.event, quiet_of_running h]; rfl

/-- Outside running only time passes at an event. -/
theorem event_of_not_running {s : State} (h : s.power ≠ .running) (dt : Nat) (f : State → State) :
    s.event dt f = s.elapse dt := quiet_of_not_running h dt _

/-- A frame on the selected lane of the running device is taken (R182, R183). -/
theorem frameEvent_of_heard {s : State} {rx : Rx} (h : Hears s rx) (f : State → State) :
    s.frameEvent rx f = f (s.elapse rx.dt) := by
  rw [State.frameEvent, quiet_of_running h.1]
  simp [h.2]

/-- A frame on the other lane, or outside running, is not taken. -/
theorem frameEvent_of_not_heard {s : State} {rx : Rx} (h : ¬ Hears s rx) (f : State → State) :
    s.frameEvent rx f = s.elapse rx.dt := by
  by_cases hp : s.power = .running
  · rw [State.frameEvent, quiet_of_running hp]
    have : rx.lane ≠ s.lane := fun hl => h ⟨hp, hl⟩
    simp [this]
  · exact quiet_of_not_running hp _ _

/-! ## Roles and requests (R161) -/

/-- The configured roster entry found at an address holds it. -/
theorem setAt_some {s : State} {a : Nat} {i : Fin 8} (h : s.setAt a = some i) :
    0 < s.cfg.roster[i].rating ∧ s.cfg.roster[i].address = a := by
  have := List.find?_some h
  simpa [State.setConfigured] using this

/-- No configured roster entry holds an address that is not found. -/
theorem setAt_none {s : State} {a : Nat} (h : s.setAt a = none) (i : Fin 8)
    (hr : 0 < s.cfg.roster[i].rating) : s.cfg.roster[i].address ≠ a := by
  have := List.find?_eq_none.mp h i (mem_indices i)
  simp only [State.setConfigured, Bool.and_eq_true, decide_eq_true_eq, not_and] at this
  exact this hr

/-- The configured PV entry found at an address holds it. -/
theorem plantAt_some {s : State} {a : Nat} {p : Fin 4} (h : s.plantAt a = some p) :
    0 < s.cfg.pv[p].rating ∧ s.cfg.pv[p].address = a := by
  have := List.find?_some h
  simpa [State.plantConfigured] using this

/-- No configured PV entry holds an address that is not found. -/
theorem plantAt_none {s : State} {a : Nat} (h : s.plantAt a = none) (p : Fin 4)
    (hr : 0 < s.cfg.pv[p].rating) : s.cfg.pv[p].address ≠ a := by
  have := List.find?_eq_none.mp h p (mem_indices p)
  simp only [State.plantConfigured, Bool.and_eq_true, decide_eq_true_eq, not_and] at this
  exact this hr

/-- Addresses 1 and 2 are the supervisors. -/
theorem roleOf_supervisor {s : State} {rx : Rx} (h : FromSupervisor rx) :
    s.roleOf rx.src.toNat = .supervisor := by
  simp only [State.roleOf]
  exact if_pos h

/-- The genset controller of a configured entry has its role. -/
theorem roleOf_genset {s : State} {rx : Rx} (h : FromGenset s rx) :
    ∃ i, s.roleOf rx.src.toNat = .genset i ∧ s.cfg.roster[i].address = rx.src.toNat := by
  obtain ⟨hs, i, hr, ha⟩ := h
  cases hfind : s.setAt rx.src.toNat with
  | none => exact absurd ha (setAt_none hfind i hr)
  | some j => exact ⟨j, by rw [State.roleOf, if_neg hs, hfind], (setAt_some hfind).2⟩

/-- A request from a supervisor that no check refuses takes its own cases. -/
theorem request_of_passed {s : State} {rx : Rx} {code : BitVec 5} {g : Gate} {own : State → State}
    (h : FromSupervisor rx) (hr : s.refusal .supervisor g = none) : s.request rx code g own = own s := by
  rw [State.request, roleOf_supervisor h]; simp only [hr]

/-- A request from a supervisor that a check refuses only queues the reply. -/
theorem request_of_refused {s : State} {rx : Rx} {code : BitVec 5} {g : Gate} {own : State → State}
    {r : Result} (h : FromSupervisor rx) (hr : s.refusal .supervisor g = some r) :
    ∃ data, s.request rx code g own = s.answer rx code r data := by
  rw [State.request, roleOf_supervisor h]
  simp only [hr]
  cases r <;> exact ⟨_, rfl⟩

/-! ## Directives (R48, R49) -/

/-- The directive a set should hold is the one of the table of R48. -/
theorem directiveOf_eq (mode : Mode) (r : SetRec) : directiveOf mode r = wantedDirective mode r.state r.mark := by
  unfold directiveOf wantedDirective
  cases mode <;> cases r.state <;> simp

/-- A derivation either finds the directive standing, and changes nothing, or puts the new one with a raised
sequence and queues it. -/
theorem redirect_cases (s : State) (i : Fin 8) :
    s.redirect i = s ∨
      (0 < s.cfg.roster[i].rating ∧ directiveOf s.mode s.sets[i] ≠ s.sets[i].directive
        ∧ s.redirect i = { s with
            sets := s.sets.set i { s.sets[i] with
              directive := directiveOf s.mode s.sets[i], dirSeq := s.sets[i].dirSeq + 1 }
            txQueue := enqueue s.txQueue (.setDirective i s.cfg.roster[i].address
              (directiveOf s.mode s.sets[i]) (s.sets[i].dirSeq + 1)) }) := by
  unfold State.redirect
  by_cases h : s.setConfigured i = true ∧ directiveOf s.mode s.sets[i] ≠ s.sets[i].directive
  · right
    refine ⟨by simpa [State.setConfigured] using h.1, h.2, ?_⟩
    simp only [if_pos h]
    simp [State.sendDirective, State.send]
  · left
    simp only [if_neg h]

/-! ## The Restoration Queue (R119 to R122) -/

/-- Placing a feeder adds it to the queue and moves nothing else. -/
theorem placeShed_mem (s : State) (i : Fin 16) (reverted : Bool) (j : Fin 16) :
    j ∈ (s.placeShed i reverted).queue ↔ j = i ∨ j ∈ s.queue := by
  simp only [State.placeShed]
  split
  · simp [List.mem_orderedInsert]
  · split <;> simp [or_comm]

/-- Placing a feeder that is not in the queue keeps the places distinct. -/
theorem placeShed_nodup {s : State} {i : Fin 16} (reverted : Bool) (h : s.queue.Nodup) (hi : i ∉ s.queue) :
    (s.placeShed i reverted).queue.Nodup := by
  have hperm : (s.placeShed i reverted).queue.Perm (i :: s.queue) := by
    simp only [State.placeShed]
    split
    · exact List.perm_orderedInsert _ _ _
    · split
      · exact .refl _
      · exact List.perm_append_singleton _ _
  exact hperm.nodup_iff.mpr (List.nodup_cons.mpr ⟨hi, h⟩)

/-- A feeder that leaves the queue leaves it, and no other does (R122). -/
theorem handLeft_mem {s : State} (h : s.queue.Nodup) (i j : Fin 16) :
    j ∈ (s.handLeft i).queue ↔ j ≠ i ∧ j ∈ s.queue := by
  simp only [State.handLeft_queue]
  exact h.mem_erase_iff

/-! ## Feeder transitions (R89, R90, R92) -/

@[simp] theorem FeederRec.enter_state (r : FeederRec) (st : FeederState) (now : Count) :
    (r.enter st now).state = st := rfl

@[simp] theorem FeederRec.enter_feed (r : FeederRec) (st : FeederState) (now : Count) :
    (r.enter st now).feed = st.feedAsserted := rfl

@[simp] theorem FeederRec.enter_origin (r : FeederRec) (st : FeederState) (now : Count) :
    (r.enter st now).origin = r.origin := rfl

/-- FEED is asserted in the four states R90 names. -/
theorem feedAsserted_iff (st : FeederState) :
    st.feedAsserted = true ↔ st = .opening ∨ st = .openShed ∨ st = .openHeld ∨ st = .stuckClosed := by
  cases st <;> simp [FeederState.feedAsserted]

/-- The breaker timer runs in OPENING and CLOSING. -/
theorem timed_iff (st : FeederState) : st.timed = true ↔ st = .opening ∨ st = .closing := by
  cases st <;> simp [FeederState.timed]

/-! ## The walk (R88, R95, R96) -/

/-- The ladder holds the enabled feeders. -/
theorem mem_ladder (s : State) (i : Fin 16) : i ∈ s.ladder ↔ s.cfg.feeders[i].enabled = true := by
  simp [State.ladder, List.mem_insertionSort]

/-- The protected region is the one of R95. -/
theorem isProtected_iff (s : State) (position : Nat) :
    s.isProtected position = true ↔ InProtectedRegion s position := by
  unfold State.isProtected InProtectedRegion State.parOn State.par
  by_cases h : s.cfg.params[PROTECT_INV] = 1 <;> simp [h]

/-- The feeders of the ladder that a walk may choose are those `MayBeChosen` names. -/
theorem eligible_iff (s : State) (reach : Reach) (i : Fin 16) :
    (i ∈ s.ladder ∧ s.eligible reach i = true) ↔ MayBeChosen s reach i := by
  have hp := isProtected_iff s (s.position i)
  rw [mem_ladder]
  unfold State.eligible MayBeChosen
  simp only [Bool.and_eq_true, Bool.or_eq_true, decide_eq_true_eq, Bool.not_eq_true']
  rw [← Bool.not_eq_true, hp]
  rfl

/-- A walk chooses only feeders it may choose. -/
theorem mem_chosen {s : State} {reach : Reach} {width : Nat} {i : Fin 16}
    (h : i ∈ s.chosen reach width) : MayBeChosen s reach i := by
  have := List.mem_of_mem_take h
  rw [List.mem_filter] at this
  exact (eligible_iff s reach i).mp this

/-! ## Publications (R30) -/

/-- The tasks of a publication are the six of R18 and R30, each once, in whatever order the free value gives
(log 5). -/
theorem taskOrder_perm (index : Nat) : (taskOrder index).Perm allTasks := List.perm_insertionSort _ _

/-! ## Feeder reports (R114) -/

/-- Two states have the same feeder states exactly when every feeder's state is the same in both. -/
theorem feederStates_eq_iff (s t : State) :
    t.feederStates = s.feederStates ↔ ∀ i : Fin 16, t.feeders[i].state = s.feeders[i].state := by
  simp [State.feederStates, indices, List.map_inj_left]

/-- Queueing a frame of another key leaves the entries of a key as they are. -/
theorem enqueue_filter_ne {k : Key} {f : Frame} (h : f.key ≠ k) (q : List Frame) :
    (enqueue q f).filter (fun g => g.key = k) = q.filter fun g => g.key = k := by
  unfold enqueue
  split
  · clear * - h
    induction q with
    | nil => rfl
    | cons g q ih =>
      rw [List.map_cons, List.filter_cons, ih, List.filter_cons]
      split <;> simp_all
  · simp [List.filter_append, h]

/-- The end of an event that has left the report count and the waiting feeder report alone: the report follows the
feeder states. -/
theorem reportChanges_follows {s before : State} (hc : s.reportCount = before.reportCount)
    (hq : s.txQueue.filter (fun f => f.key = .feederReport) = before.txQueue.filter fun f => f.key = .feederReport) :
    FeederReportFollows before (s.reportChanges before) := by
  unfold State.reportChanges
  split
  · exact ⟨fun h => absurd ‹_› h, fun _ => ⟨hc, hq⟩⟩
  · exact ⟨fun _ => ⟨rfl, self_mem_enqueue _ _⟩, fun h => absurd h ‹_›⟩

/-! ## Commits (R67, R185) -/

/-- What a roster commit leaves in the queue is what R185 says stays. -/
theorem keepsSetFrame_eq (s : State) (roster : Vector SetEntry 8) (f : Frame) :
    s.keepsSetFrame roster f = staysAtCommit s (.roster roster) f := by
  rw [Bool.eq_iff_iff]
  cases f <;> simp [State.keepsSetFrame, staysAtCommit, indices, or_assoc]

/-- What a PV commit leaves in the queue is what R185 says stays. -/
theorem keepsPvFrame_eq (s : State) (pv : Vector PvEntry 4) (f : Frame) :
    s.keepsPvFrame pv f = staysAtCommit s (.pv pv) f := by
  cases f <;> simp [State.keepsPvFrame, staysAtCommit]

@[simp] theorem SetRec.emptied_state (r : SetRec) : r.emptied.state = r.state := rfl
@[simp] theorem SetRec.emptied_cause (r : SetRec) : r.emptied.cause = r.cause := rfl
@[simp] theorem SetRec.emptied_attempts (r : SetRec) : r.emptied.attempts = r.attempts := rfl
@[simp] theorem SetRec.emptied_directive (r : SetRec) : r.emptied.directive = .stop := rfl
@[simp] theorem SetRec.emptied_dirSeq (r : SetRec) :
    r.emptied.dirSeq = r.dirSeq + if r.directive = .stop then 0 else 1 := rfl
@[simp] theorem SetRec.emptied_lostTimer (r : SetRec) : r.emptied.lostTimer = none := rfl
@[simp] theorem SetRec.emptied_mark (r : SetRec) : r.emptied.mark = r.mark := rfl

end Sys2Proof.Machine
end

