-- ==== Sys2Proof/Laws/Island.lean ====
section
/-! SUPPORT. The operations of the blocks that act on the island touch nothing else: no configuration, slot,
record, pin, lane, window, store, buffer, count or waiting command. One lemma for each shared operation. -/

namespace Sys2Proof.Machine

/-! ## The frame composes -/

theorem island_refl (s : State) : IslandEventFrame s s := rfl

theorem island_trans {a b c : State} (h1 : IslandEventFrame a b) (h2 : IslandEventFrame b c) :
    IslandEventFrame a c := by
  unfold IslandEventFrame at *
  rw [h2, h1]

/-- The frame composes, the later step given first. -/
theorem island_after {a b c : State} (h2 : IslandEventFrame b c) (h1 : IslandEventFrame a b) :
    IslandEventFrame a c := island_trans h1 h2

/-- A fold of steps that keep the frame keeps it. -/
theorem island_foldl {α : Type} {f : State → α → State} (h : ∀ s a, IslandEventFrame s (f s a)) (l : List α)
    (s : State) : IslandEventFrame s (l.foldl f s) := by
  induction l generalizing s with
  | nil => rfl
  | cons a l ih => exact island_trans (h s a) (ih _)

/-- A choice between two steps that keep the frame keeps it. -/
theorem island_ite {c : Prop} [Decidable c] {s a b : State} (ha : IslandEventFrame s a)
    (hb : IslandEventFrame s b) : IslandEventFrame s (if c then a else b) := by
  split <;> assumption

/-! ## Commitment Unit -/

theorem send_island (s : State) (f : Frame) : IslandEventFrame s (s.send f) := rfl

theorem sendDirective_island (s : State) (i : Fin 8) : IslandEventFrame s (s.sendDirective i) := rfl

theorem redirect_island (s : State) (i : Fin 8) : IslandEventFrame s (s.redirect i) := by
  rcases redirect_cases s i with h | ⟨_, _, h⟩ <;> rw [h] <;> rfl

theorem updateSet_island (s : State) (i : Fin 8) (f : SetRec → SetRec) :
    IslandEventFrame s (s.updateSet i f) :=
  island_trans (b := { s with sets := modifyAt s.sets i f }) rfl (redirect_island _ i)

theorem redirectAll_island (s : State) : IslandEventFrame s s.redirectAll :=
  island_foldl redirect_island _ s

theorem setOnline_island (s : State) (i : Fin 8) : IslandEventFrame s (s.setOnline i) := updateSet_island s i _

theorem startSet_island (s : State) (i : Fin 8) : IslandEventFrame s (s.startSet i) := updateSet_island s i _

theorem setLeftBus_island (s : State) (i : Fin 8) : IslandEventFrame s (s.setLeftBus i) :=
  updateSet_island s i _

theorem failedAttempt_island (s : State) (i : Fin 8) : IslandEventFrame s (s.failedAttempt i) :=
  updateSet_island s i _

theorem deadBusOrder_island (s : State) (i : Fin 8) : IslandEventFrame s (s.deadBusOrder i) :=
  updateSet_island s i _

theorem clearMark_island (s : State) (i : Fin 8) : IslandEventFrame s (s.clearMark i) := by
  unfold State.clearMark
  refine island_ite ?_ rfl
  exact island_ite (island_trans (updateSet_island s i _) (setOnline_island _ i)) (updateSet_island s i _)

theorem clearMarks_island (s : State) : IslandEventFrame s s.clearMarks := island_foldl clearMark_island _ s

theorem stopOne_island (s : State) (i : Fin 8) : IslandEventFrame s (s.stopOne i) := by
  unfold State.stopOne
  split
  · exact updateSet_island s i _
  · exact setLeftBus_island s i
  all_goals rfl

theorem stopAll_island (s : State) : IslandEventFrame s s.stopAll :=
  island_trans (b := { s with shortfall := none, surplus := none }) rfl (island_foldl stopOne_island _ _)

theorem reportEvent_island (s : State) (i : Fin 8) (c : ControllerState) :
    IslandEventFrame s (s.reportEvent i c) := by
  unfold State.reportEvent
  split
  all_goals first
    | exact updateSet_island s i _
    | exact island_ite rfl (updateSet_island s i _)
    | exact island_ite (updateSet_island s i _) (updateSet_island s i _)
    | rfl

theorem lostExpiry_island (s : State) (i : Fin 8) : IslandEventFrame s (s.lostExpiry i) := by
  unfold State.lostExpiry
  simp only
  split
  · rfl
  all_goals first
    | rfl
    | exact island_trans (b := { s with sets := modifyAt s.sets i fun r => { r with lostTimer := none } }) rfl
        (updateSet_island _ i _)

/-! ## Shed Ladder and Restoration Unit -/

theorem placeShed_island (s : State) (i : Fin 16) (r : Bool) : IslandEventFrame s (s.placeShed i r) := rfl

theorem closingEnded_island (s : State) : IslandEventFrame s s.closingEnded := island_ite rfl rfl

theorem handReverted_island (s : State) (i : Fin 16) : IslandEventFrame s (s.handReverted i) :=
  island_trans (placeShed_island s i true) (closingEnded_island _)

theorem handClosed_island (s : State) : IslandEventFrame s s.handClosed :=
  island_trans (b := s.startSettle) rfl (closingEnded_island _)

theorem putFeeder_island (s : State) (i : Fin 16) (r : FeederRec) : IslandEventFrame s (s.putFeeder i r) := rfl

theorem revert_island (s : State) (i : Fin 16) (c : FeederCause) : IslandEventFrame s (s.revert i c) :=
  island_trans (b := s.shedFeeder i c) rfl (handReverted_island _ i)

theorem breakerEvent_island (s : State) (i : Fin 16) (level : Bool) :
    IslandEventFrame s (s.breakerEvent i level) := by
  unfold State.breakerEvent
  split
  all_goals first
    | rfl
    | exact island_trans (b := s.moveFeeder i .closed) rfl (handClosed_island _)

theorem closeFeeder_island (s : State) (i : Fin 16) : IslandEventFrame s (s.closeFeeder i) := island_ite rfl rfl

theorem restorationClose_island (s : State) (i : Fin 16) : IslandEventFrame s (s.restorationClose i) :=
  island_ite (closeFeeder_island s i) rfl

theorem walk_island (s : State) (reach : Reach) (causes : List FeederCause) :
    IslandEventFrame s (s.walk reach causes) :=
  island_foldl (f := fun (s : State) (x : Fin 16 × FeederCause) => s.tripFeeder x.1 x.2 (some reach))
    (fun _ _ => rfl) _ s

theorem shedOne_island (s : State) (cause : FeederCause) : IslandEventFrame s (s.shedOne cause) :=
  island_trans (walk_island s .shallow [cause]) rfl

theorem substitute_island (s : State) (reach : Reach) (cause : FeederCause) :
    IslandEventFrame s (s.substitute reach cause) := island_trans (walk_island s reach [cause]) rfl

theorem breakerExpiry_island (s : State) (i : Fin 16) : IslandEventFrame s (s.breakerExpiry i) := by
  unfold State.breakerExpiry
  simp only
  split
  · split
    · exact island_ite rfl (island_trans (b := s.moveFeeder i .stuckClosed) rfl (substitute_island _ _ _))
    · rfl
  · exact island_trans (b := s.moveFeeder i .stuckOpen) rfl (closingEnded_island _)
  all_goals rfl

theorem combinedAction_island (s : State) (firing : List (Fin 8)) :
    IslandEventFrame s (s.combinedAction firing) := by
  unfold State.combinedAction
  split
  · rfl
  · exact island_trans (island_foldl (fun s i => revert_island s i _) _ s)
      (island_trans (walk_island _ _ _) (island_trans (walk_island _ _ _) rfl))

theorem clearExhaustedIfIdle_island (s : State) (b : Bool) : IslandEventFrame s (s.clearExhaustedIfIdle b) :=
  island_ite rfl rfl

theorem evaluateStages_island (s : State) (f : Nat) (time : Count) (rocof : Option Int) :
    IslandEventFrame s (s.evaluateStages f time rocof) := by
  unfold State.evaluateStages
  refine island_after (combinedAction_island _ _) (island_after (clearExhaustedIfIdle_island _ _) ?_)
  exact island_ite rfl rfl

theorem ladderMeter_island (s : State) (ev : MeterEvent) : IslandEventFrame s (s.ladderMeter ev) := by
  unfold State.ladderMeter
  simp only
  split
  · exact island_trans (b := { s with notedMeter := ev.state }) rfl (evaluateStages_island _ _ _ _)
  · exact island_trans (b := { s with notedMeter := ev.state }) rfl
      (island_trans (b := { s with
        notedMeter := ev.state
        stages := tabulate fun (k : Fin 8) =>
          if s.stages[k].state = .timing then StageRec.idle else s.stages[k] }) rfl
        (clearExhaustedIfIdle_island _ _))

theorem openForBlackStart_island (s : State) (i : Fin 16) : IslandEventFrame s (s.openForBlackStart i) := by
  unfold State.openForBlackStart
  split
  all_goals first
    | rfl
    | exact revert_island s i _

theorem openAll_island (s : State) : IslandEventFrame s s.openAll := island_foldl openForBlackStart_island _ s

theorem openByRequest_island (s : State) (i : Fin 16) : IslandEventFrame s (s.openByRequest i) := by
  unfold State.openByRequest
  split
  all_goals first
    | rfl
    | exact revert_island s i _

theorem rederiveFeeder_island (s : State) (i : Fin 16) : IslandEventFrame s (s.rederiveFeeder i) := by
  unfold State.rederiveFeeder
  split <;> rfl

theorem examine_island (s : State) (rec : BalanceRecord) : IslandEventFrame s (s.examine rec) := by
  unfold State.examine
  have hlapse : IslandEventFrame s s.lapseRestoreDelay := island_ite rfl rfl
  simp only
  split
  · exact island_trans hlapse rfl
  · refine island_ite (island_ite ?_ ?_) ?_
    · exact island_trans hlapse
        (island_trans (b := { s.lapseRestoreDelay with blocked := none }) rfl (restorationClose_island _ _))
    · exact island_trans hlapse rfl
    · exact island_trans hlapse rfl

/-! ## Curtailment Unit -/

theorem sendCeiling_island (s : State) (p : Fin 4) : IslandEventFrame s (s.sendCeiling p) := rfl

theorem lowerCeiling_island (s : State) (p : Fin 4) : IslandEventFrame s (s.lowerCeiling p) := by
  unfold State.lowerCeiling
  simp only
  split
  · exact island_ite (island_ite rfl rfl) rfl
  · rfl

theorem curtailmentMeter_island (s : State) (ev : MeterEvent) : IslandEventFrame s (s.curtailmentMeter ev) := by
  unfold State.curtailmentMeter
  split
  · exact island_trans (b := s.limitPlants _) rfl (island_foldl lowerCeiling_island _ _)
  · rfl

theorem forceZero_island (s : State) : IslandEventFrame s s.forceZero := by
  unfold State.forceZero
  exact island_after (island_foldl sendCeiling_island _ _) rfl

theorem sendCeilings_island (s : State) : IslandEventFrame s s.sendCeilings :=
  island_foldl sendCeiling_island _ s

theorem curtailmentWork_island (s : State) (rec : BalanceRecord) :
    IslandEventFrame s (s.curtailmentWork rec) := by
  unfold State.curtailmentWork
  split
  · exact island_trans (b := s.computeCeilings rec) rfl (sendCeilings_island _)
  · exact island_trans (b := s.formCeilings) rfl (sendCeilings_island _)
  · refine island_ite ?_ (sendCeilings_island s)
    exact island_trans (b := s.computeCeilings rec) rfl (island_trans (sendCeilings_island _) rfl)

/-! ## Black-Start Sequencer -/

theorem setMode_island (s : State) (m : Mode) : IslandEventFrame s (s.setMode m) := by
  unfold State.setMode
  refine island_ite rfl ?_
  exact island_after (redirectAll_island _) rfl

theorem endInObserve_island (s : State) (failed : Bool) : IslandEventFrame s (s.endInObserve failed) := by
  unfold State.endInObserve
  exact island_trans (b := { s with seq := s.seq.ended failed, ordering := false, forcedZero := false }) rfl
    (island_trans (setMode_island _ _) (clearMarks_island _))

theorem completeBlackStart_island (s : State) : IslandEventFrame s s.completeBlackStart :=
  island_trans (b := { s with seq := s.seq.ended false }) rfl (setMode_island _ _)

theorem restoreCheck_island (s : State) : IslandEventFrame s s.restoreCheck := by
  unfold State.restoreCheck
  refine island_ite (island_ite rfl ?_) rfl
  split
  · exact island_ite rfl rfl
  · rfl

theorem lookAddSets_island (s : State) : IslandEventFrame s s.lookAddSets := by
  unfold State.lookAddSets
  refine island_ite rfl ?_
  split
  · exact island_after (startSet_island _ _) rfl
  · rfl

theorem enterAddSets_island (s : State) : IslandEventFrame s s.enterAddSets := by
  unfold State.enterAddSets
  exact island_after (lookAddSets_island _) rfl

theorem addSetsCheck_island (s : State) : IslandEventFrame s s.addSetsCheck := by
  unfold State.addSetsCheck
  refine island_ite ?_ rfl
  split
  · exact island_ite rfl (island_after (lookAddSets_island _) rfl)
  · rfl

theorem lookFirstSet_island (s : State) : IslandEventFrame s s.lookFirstSet := by
  unfold State.lookFirstSet
  refine island_ite (enterAddSets_island s) ?_
  split
  · exact island_after (deadBusOrder_island _ _) rfl
  · exact island_ite rfl (endInObserve_island s true)

theorem candidateCheck_island (s : State) : IslandEventFrame s s.candidateCheck := by
  unfold State.candidateCheck
  split
  · exact island_ite (island_after (lookFirstSet_island _) rfl) rfl
  · exact lookFirstSet_island s

theorem formedCheck_island (s : State) : IslandEventFrame s s.formedCheck := by
  unfold State.formedCheck
  split
  · refine island_ite (island_ite ?_ (island_ite ?_ rfl)) rfl
    · exact island_trans (setOnline_island _ _) (enterAddSets_island _)
    · exact island_trans (clearMark_island _ _) (enterAddSets_island _)
  · rfl

theorem firstSetCheck_island (s : State) : IslandEventFrame s s.firstSetCheck := by
  unfold State.firstSetCheck
  refine island_ite ?_ rfl
  exact island_ite (island_trans (candidateCheck_island s) (formedCheck_island _)) (candidateCheck_island s)

theorem enterPrepare_island (s : State) : IslandEventFrame s s.enterPrepare := by
  unfold State.enterPrepare
  exact island_after (island_trans (b := State.rebuildQueue _) rfl
    (island_trans (openAll_island _) (island_trans (forceZero_island _) (stopAll_island _)))) rfl

theorem prepareCheck_island (s : State) : IslandEventFrame s s.prepareCheck := island_ite rfl rfl

theorem beginSequence_island (s : State) : IslandEventFrame s s.beginSequence := by
  unfold State.beginSequence
  exact island_after (island_trans (setMode_island _ _) (enterPrepare_island _)) rfl

theorem lossOfBus_island (s : State) : IslandEventFrame s s.lossOfBus := by
  unfold State.lossOfBus
  exact island_ite (island_after (endInObserve_island _ true) rfl) (island_after (enterPrepare_island _) rfl)

theorem sequencerMeter_island (s : State) (ev : MeterEvent) : IslandEventFrame s (s.sequencerMeter ev) :=
  island_ite (lossOfBus_island s) rfl

theorem triggerCheck_island (s : State) : IslandEventFrame s s.triggerCheck := by
  unfold State.triggerCheck
  refine island_ite ?_ rfl
  split
  · rfl
  · exact island_ite (beginSequence_island s) rfl

theorem sequencerReact_island (s : State) : IslandEventFrame s s.sequencerReact := by
  unfold State.sequencerReact
  exact island_trans (triggerCheck_island s) (island_trans (prepareCheck_island _)
    (island_trans (firstSetCheck_island _) (addSetsCheck_island _)))

/-! ## Events -/

theorem meterEvent_island (s : State) (ev : MeterEvent) : IslandEventFrame s (s.meterEvent ev) :=
  island_trans (ladderMeter_island s ev) (island_trans (curtailmentMeter_island _ ev) (sequencerMeter_island _ ev))

theorem reportChanges_island (s before : State) : IslandEventFrame s (s.reportChanges before) :=
  island_ite rfl rfl

theorem refreshAlert_island (s : State) : IslandEventFrame s s.refreshAlert := rfl

/-- The end of an event keeps the frame. -/
theorem finish_island (s before : State) : IslandEventFrame s (s.finish before) := by
  unfold State.finish
  exact island_trans (sequencerReact_island s)
    (island_trans (reportChanges_island _ before) (refreshAlert_island _))

/-- An act that keeps the frame, and the end of its event. -/
theorem ending_island (s : State) {f : State → State} (hf : ∀ s, IslandEventFrame s (f s)) :
    IslandEventFrame s (s.ending f) := island_trans (hf s) (finish_island _ _)

/-- Changes of FSTAT that come together keep the frame, one event after the other. -/
theorem fstatChanges_island (s : State) (old new : Vector Bool 16) : IslandEventFrame s (s.fstatChanges old new) :=
  island_foldl (fun s i => ending_island s fun s => breakerEvent_island s i new[i]) _ s

/-- An event of the running device whose act keeps the frame keeps it as a whole. -/
theorem event_island {s : State} (h : s.power = .running) (dt : Nat) {f : State → State}
    (hf : ∀ s, IslandEventFrame s (f s)) : IslandEventFrame (s.elapse dt) (s.event dt f) := by
  rw [event_of_running h]
  exact island_trans (hf _) (finish_island _ _)

end Sys2Proof.Machine
end

