-- ==== Sys2Proof/Tests/Slice0.lean ====
section
/-! SUPPORT. Tests: what the well-formedness check refuses, the spec's worked figures, one step of each command on
a small state, and for each obligation with hypotheses a state and operands that meet them. -/

namespace Sys2Proof.Tests

open Sys2Proof Machine

/-! ## Well-formedness: each check refuses an ill-formed command -/

theorem test_wf_report_code : (Instr.setReport ⟨0, .a, 16⟩ 6 100).wf = false := by decide
theorem test_wf_report_code_ok : (Instr.setReport ⟨0, .a, 16⟩ 5 100).wf = true := by decide
theorem test_wf_entry_length : (Instr.entryData ⟨0, .a, 1⟩ [0x40, 1, 2]).wf = false := by decide
theorem test_wf_entry_empty : (Instr.entryData ⟨0, .a, 1⟩ []).wf = false := by decide
theorem test_wf_entry_ok : (Instr.entryData ⟨0, .a, 1⟩ [0x40, 1, 2, 3]).wf = true := by decide
theorem test_wf_other_kind : (Instr.frameOfOtherKind ⟨0, .a, 1⟩ 9 (.replicate 9 0)).wf = false := by decide
theorem test_wf_unknown_code : (Instr.unknownRequestCode ⟨0, .a, 1⟩ 0x14).wf = false := by decide
theorem test_wf_unknown_code_ok : (Instr.unknownRequestCode ⟨0, .a, 1⟩ 0x15).wf = true := by decide
theorem test_wf_discard : (Instr.windowCloseDiscard ⟨0, .a, 1⟩ 1).wf = false := by decide

/-- A frame of another kind or of wrong length fits no row of R183: a SET_REPORT of three bytes does. -/
theorem test_wf_other_kind_fits : (Instr.frameOfOtherKind ⟨0, .a, 0x13⟩ 0x08 [3, 0x03, 0xE8]).wf = false
    ∧ (Instr.frameOfOtherKind ⟨0, .a, 0x13⟩ 0x08 [3, 0x03]).wf = true := by decide

/-! ## Frames written out from 11.2 and 11.5.2: kind in the upper 5 bits of the identifier, source in the lower 6 -/

/-- Kind 0x08 from address 0x13: ON_BUS with 1,000 kW, the most significant byte first. -/
theorem test_frame_set_report : decodeFrame 7 .a 0b01000_010011#11 [3, 0x03, 0xE8]
    = .setReport ⟨7, .a, 0x13⟩ 3 1000 := by decide
/-- Kind 0x09 from address 0x21: 800 kW of 1,100 kW. -/
theorem test_frame_pv_report : decodeFrame 7 .b 0b01001_100001#11 [0x03, 0x20, 0x04, 0x4C]
    = .pvReport ⟨7, .b, 0x21⟩ 800 1100 := by decide
/-- Kind 0x0A from address 2: Set Parameter (0x0B) of parameter 4 to 300, and Window Close with commit. -/
theorem test_frame_request : decodeFrame 7 .a 0b01010_000010#11 [0x0B, 4, 0x01, 0x2C]
      = .setParameter ⟨7, .a, 2⟩ 4 300
    ∧ decodeFrame 7 .a 0b01010_000010#11 [0x0F, 1] = .windowCloseCommit ⟨7, .a, 2⟩ := by decide
/-- Kind 0x0B from address 1: the PV form of ENTRY_DATA. -/
theorem test_frame_entry_data : decodeFrame 7 .a 0b01011_000001#11 [0x41, 0x27, 0x03, 0xE8]
    = .entryData ⟨7, .a, 1⟩ [0x41, 0x27, 0x03, 0xE8] := by decide
/-- A REQUEST of wrong length, a report code above 5 and a kind of the device's own fit no row. -/
theorem test_frame_discarded : decodeFrame 7 .a 0b01010_000001#11 [0x01, 0]
      = .frameOfOtherKind ⟨7, .a, 1⟩ 0x0A [0x01, 0]
    ∧ decodeFrame 7 .a 0b01000_010011#11 [6, 0, 0] = .frameOfOtherKind ⟨7, .a, 0x13⟩ 0x08 [6, 0, 0]
    ∧ decodeFrame 7 .a 0b00001_000000#11 [1, 2] = .frameOfOtherKind ⟨7, .a, 0⟩ 0x01 [1, 2] := by decide
/-- A received frame runs at the next step. -/
theorem test_receive (s : State) : (s.receive 7 .a 0b01010_000010#11 [0x14]).pending
    = s.pending ++ [.cycleReset ⟨7, .a, 2⟩] := rfl

/-- No row of the table gives a command any bits. -/
theorem test_no_word_spells : decodeTableWord 16 0x1234 = none := rfl

/-! ## A small station -/

/-- Three sets, two plants, six feeders on the ladder, two stages; every parameter at its default. -/
def site : Settings where
  roster := #v[⟨0x10, 1000, 1, true, 2, 1, 4⟩, ⟨0x11, 1600, 2, false, 0, 0, 4⟩, ⟨0x12, 1200, 3, true, 1, 1, 4⟩,
    .empty, .empty, .empty, .empty, .empty]
  pv := #v[⟨0x20, 2500⟩, ⟨0x21, 1500⟩, .empty, .empty]
  feeders := tabulate fun i => if i.val < 6 then ⟨true, i.val + 1, 100 * (i.val + 1)⟩ else .disabled
  stages := #v[⟨true, .shallow, 2, 500, 20, 0⟩, ⟨true, .deep, 1, 900, 0, 1000⟩,
    .disabled, .disabled, .disabled, .disabled, .disabled, .disabled]
  params := defaultParams
  lockFlag := false

/-- A feeder record in one state, with the timer, the FEED level and no cause that belong to it. -/
def feederIn (st : FeederState) : FeederRec := { FeederRec.reset.enter st 1000 with origin := some .shallow }

/-- A runtime record in one state, with its timers and the directive of DISPATCH. -/
def setIn (st : SetState) : SetRec where
  state := st
  cause := if st = .failed then .tripped else .none
  attempts := 0
  directive := if st = .starting ∨ st = .online then .run else .stop
  dirSeq := 0
  startTimer := if st = .starting then some 5000 else none
  stopTimer := if st = .stopping then some 5000 else none
  minRun := if st = .online then .running 5000 else .absent
  minDown := if st = .resting then some 5000 else none
  deadBusTimer := none
  lostTimer := some 9000
  stale := false
  mark := false

/-- The station in DISPATCH at count 1000, with a VALID meter at 50,000 mHz: set 0 ONLINE, set 1 STOPPED, set 2
STARTING; the six feeders CLOSED. -/
def site0 : State := { State.reset with
  power := .running, clk := 1000, cfg := site, mode := .dispatch
  meter := ⟨.valid, some 0, 4, [200000, 200000, 200000, 200000], [50000], some 50000, none, none⟩
  notedMeter := .valid, tbalEnds := some 3000
  sets := #v[setIn .online, setIn .stopped, setIn .starting, .reset, .reset, .reset, .reset, .reset]
  setSlots := #v[some ⟨.onBus, 700, 900⟩, some ⟨.off, 0, 900⟩, none, none, none, none, none, none]
  pvSlots := #v[some ⟨800, 900, 900⟩, none, none, none]
  plants := #v[.default 2500, .default 1500, .default 0, .default 0]
  aggU := 4000, freshStart := false
  feeders := tabulate fun (i : Fin 16) => if i.val < 6 then foundFeeder true true else .reset
  pins := ⟨true, false, false, false, false, tabulate fun (i : Fin 16) => decide (i.val < 6)⟩ }

/-- A frame from the first supervisor on lane A. -/
abbrev sup : Rx := ⟨10, .a, 1⟩
/-- A frame from the controller of set 0. -/
abbrev gen0 : Rx := ⟨10, .a, 0x10⟩

/-- The state after a command, from the outcome it answers. -/
def after (i : Instr) (s : State) : State :=
  match exec i s with
  | .next t => t
  | .fault _ | .refused _ => s

/-- A feeder of the station in one state. -/
def withFeeder (s : State) (i : Fin 16) (st : FeederState) : State := s.putFeeder i (feederIn st)

/-- One FSTAT line alone. -/
def lineOf (i : Fin 16) : Vector Bool 16 := .set (.replicate 16 false) i true
/-- All lines low. -/
def low : Vector Bool 16 := .replicate 16 false

/-- A set of the station in one state. -/
def withSet (s : State) (i : Fin 8) (st : SetState) : State := { s with sets := s.sets.set i (setIn st) }

/-- The station with a dark bus: the meter DEAD, no set ONLINE. -/
def dark : State := { withSet (withSet site0 0 .stopped) 2 .stopped with
  meter := ⟨.dead, some 1000001, 0, [], [], none, none, none⟩, notedMeter := .dead }

/-- The station in a phase of a black start. -/
def inPhase (s : State) (p : Phase) : State :=
  { s with mode := .blackstart, seq := { s.seq with phase := p, attempts := 1 } }

/-- The station in OBSERVE. -/
def observing : State := { site0 with
  mode := .observe, sets := site0.sets.map fun r => { r with directive := .hold } }

/-! ## The spec's worked figures -/

/-- 1.6.1. -/
theorem test_frequency_value : frequencyOf (200400 + 200600 + 200800 + 201000) = 49826 := by decide
theorem test_frequency_bounds : frequencyOf 571432 = 70000 ∧ frequencyOf 1000000 = 40000 := by decide
/-- 1.7.1: truncation toward zero, and the clamped case. -/
theorem test_rocof : rocofOf 49800 50000 2004000 = -998 ∧ rocofOf 47000 50000 2100000 = -14285
    ∧ rocofOf 46000 52000 2000000 = -20000 := by decide
/-- 4.4.1. -/
theorem test_limit : limitAt 1400 40 300 = 1232 ∧ limitAt 1400 40 330 = 1215 ∧ limitAt 1400 40 2500 = 0 := by
  decide
/-- 4.5 and R80: the margin of a 2,500 kW plant is 50 kW. -/
theorem test_extra_margin : extraMargin 2500 = 50 ∧ extraMargin 49 = 0 := by decide

/-- The noon interval of 2.7. -/
def noon : State := { site0 with
  cfg := { site with
    roster := #v[⟨0x10, 1600, 1, true, 0, 0, 4⟩, ⟨0x11, 1600, 2, true, 0, 0, 4⟩, ⟨0x12, 1000, 3, true, 0, 0, 4⟩,
      ⟨0x13, 1000, 4, true, 0, 0, 4⟩, .empty, .empty, .empty, .empty] }
  sets := #v[setIn .online, setIn .online, setIn .online, setIn .stopped, .reset, .reset, .reset, .reset]
  setSlots := #v[some ⟨.onBus, 820, 900⟩, some ⟨.onBus, 810, 900⟩, some ⟨.onBus, 520, 900⟩, none, none, none,
    none, none]
  pvSlots := #v[some ⟨1400, 1900, 900⟩, some ⟨800, 1100, 900⟩, none, none] }

theorem test_noon_sums : (noon.computeRecord.cOn, noon.computeRecord.d, noon.computeRecord.q,
    noon.computeRecord.a, noon.computeRecord.l, noon.computeRecord.sr) = (4200, 2150, 2200, 3000, 4350, 2050) := by
  decide
theorem test_noon_terms : (noon.computeRecord.n1, noon.computeRecord.pvt, noon.computeRecord.rr,
    noon.computeRecord.dmin, noon.computeRecord.uTarget, noon.computeRecord.valid)
      = (820, 1320, 1520, 1260, 3090, true) := by decide
/-- 3.7.1: the stop of S2 is refused. -/
theorem test_noon_no_surplus : noon.hasSurplus noon.computeRecord 2 = false := by decide

/-- 4.3.1: the shares of three plants with 1,000 kW available each, at U = 1,001. -/
def shares : State := { noon with
  cfg := { noon.cfg with pv := #v[⟨0x20, 2500⟩, ⟨0x21, 2500⟩, ⟨0x22, 2500⟩, .empty] }
  pvSlots := #v[some ⟨0, 1000, 900⟩, some ⟨0, 1000, 900⟩, some ⟨0, 1000, 900⟩, none] }
theorem test_shares : ([0, 1, 2] : List (Fin 4)).map (shares.allot shares.computeRecord 1001) = [334, 334, 333] := by decide

/-- 5.9.1: twelve runs in four parts. -/
def spread : State := { site0 with feeders := tabulate fun (i : Fin 16) => feederIn (
  if i.val = 0 then .stuckClosed
  else if i.val = 3 ∨ i.val = 5 ∨ i.val = 9 ∨ i.val = 12 then .openShed
  else if i.val = 7 then .openExt else .closed) }
theorem test_runs : (partsOf spread.runs).map List.length = [3, 3, 3, 3]
    ∧ (partsOf spread.runs).getLast? = some [⟨10, 2, .closed⟩, ⟨12, 1, .openShed⟩, ⟨13, 3, .closed⟩] := by decide

/-- 5.6.1: the combined action of stages 3, 4 and 5, feeder `i` at position `i + 1`. -/
def ladder16 : State := { site0 with
  cfg := { site with
    feeders := tabulate fun i => ⟨true, i.val + 1, 100⟩
    params := (site.params.set PROTECT_FROM 13).set PROTECT_INV 0
    stages := #v[.disabled, .disabled, .disabled, ⟨true, .shallow, 2, 500, 0, 0⟩, ⟨true, .shallow, 1, 600, 0, 0⟩,
      ⟨true, .deep, 2, 700, 0, 0⟩, .disabled, .disabled] }
  feeders := tabulate fun (i : Fin 16) => feederIn (
    if i.val < 8 then .openShed else if i.val = 9 then .openExt else if i.val = 11 then .closing else .closed) }
theorem test_combined_action :
    ((indices 16).filter fun i =>
      decide ((ladder16.combinedAction [3, 4, 5]).feeders[i].state = .opening)) = [8, 10, 12, 13] := by decide
theorem test_combined_exhausted : (ladder16.combinedAction [3, 4, 5]).exhausted = true
    ∧ (ladder16.combinedAction [3, 4, 5]).feeders[11].cause = .stage 3 := by decide

/-- The check value of the CRC-16 with polynomial 0x1021, initial value 0xFFFF and no reflection (R178). -/
theorem test_crc : crc16 [0x31, 0x32, 0x33, 0x34, 0x35, 0x36, 0x37, 0x38, 0x39] = 0x29B1#16 := by decide +kernel

/-- 11.5.1: the bytes of a STATUS_B and of a SET_DIRECTIVE. -/
theorem test_status_b_bytes : (TxBuffer.bytes ⟨.statusB 2050 1520 4350, 7, .a, 3090, 0⟩)
    = [0x08, 0x02, 0x05, 0xF0, 0x0C, 0x12, 0x10, 0xFE] := by decide
theorem test_directive_bytes : (TxBuffer.bytes ⟨.setDirective 0 0x10 .run 3, 7, .a, 0, 0⟩) = [0x31, 0x07]
    ∧ (TxBuffer.ident ⟨.setDirective 0 0x10 .run 3, 7, .a, 0, 0⟩).toNat = 2 * 64 + 16 := by decide

/-! ## One step of each command -/

theorem test_powerOnReset : (after (.powerOnReset true 5) site0).fn = 60000
    ∧ (after (.powerOnReset true 5) site0).power = .startUp := by decide
theorem test_resetnAssert : (after (.resetnAssert 5) site0).power = .held := by decide
theorem test_resetnRelease : (after (.resetnRelease false 5) (after (.resetnAssert 5) site0)).power = .startUp := by
  decide
theorem test_endOfStartUp : (after (.endOfStartUp 5) State.reset).storeBad = true
    ∧ (after (.endOfStartUp 5) State.reset).alertPin = true
    ∧ (after (.endOfStartUp 5) State.reset).tbalEnds = some 2000005 := by decide
theorem test_gtick_period : (after (.gtickRisingEdge 201000) site0).meter.freq = some 49938 := by decide
theorem test_gtick_glitch : (after (.gtickRisingEdge 142857) site0).meter.elapsed = some 142857 := by decide
theorem test_lossExpiry : (after (.lossExpiry 250001) site0).meter.state = .lost
    ∧ (after (.lossExpiry 250000) site0).meter.state = .valid := by decide
/-- One stage TIMING and SHED_EXHAUSTED set. -/
def timing : State := { site0 with stages := site0.stages.set 0 ⟨.timing, some 900⟩, exhausted := true }
/-- R106, R99: the loss returns the TIMING stage, which leaves every stage IDLE. -/
theorem test_loss_withdraws_stages : (after (.lossExpiry 250001) timing).stages[0] = ⟨.idle, none⟩
    ∧ (after (.lossExpiry 250001) timing).exhausted = false := by decide
/-- The meter LOST, with no automatic start allowed. -/
def lost : State := { site0 with meter := ⟨.lost, some 250001, 0, [], [], none, none, none⟩, notedMeter := .lost }
theorem test_deadExpiry : (after (.deadExpiry 750000) lost).meter.state = .dead
    ∧ (after (.deadExpiry 749999) lost).meter.state = .lost := by decide +kernel
/-- The meter before its first edge. -/
def silent : State := { site0 with
  meter := ⟨.noSignal, none, 0, [], [], none, none, some 500⟩, notedMeter := .noSignal }
theorem test_startUpWait : (after (.startUpWait 999501) silent).meter.state = .dead
    ∧ (after (.startUpWait 999500) silent).meter.state = .noSignal := by decide
theorem test_tbal_cycle : (site0.beginInterval 3000).cycle = 1
    ∧ (site0.beginInterval 3000).tbalEnds = some 2003000 := by decide
theorem test_tbal_status : (site0.statusTask site0.computeRecord).txQueue.map Frame.key = [.statusA, .statusB] := by
  decide
theorem test_fstat_opens : (after (.fstatChange (lineOf 2) low 5) site0).feeders[2].state = .openExt := by decide
theorem test_fstat_shed : (after (.fstatChange (lineOf 2) low 5) (withFeeder site0 2 .opening)).queue = [2] := by decide
/-- Feeders 1 and 4 OPENING, at ladder positions 5 and 2. -/
def twoOpening : State := { withFeeder (withFeeder site0 1 .opening) 4 .opening with
  cfg := { site with
    feeders := (site.feeders.set 1 ⟨true, 5, 200⟩).set 4 ⟨true, 2, 500⟩ } }
/-- Their two lines. -/
def bothLines : Vector Bool 16 := (lineOf 1).set 4 true
/-- R93: they are taken in ascending ladder position, so feeder 1 comes second and stands at the head. -/
theorem test_fstat_together : (after (.fstatChange bothLines low 5) twoOpening).queue = [1, 4] := by decide
theorem test_breaker_expiry : (after (.breakerTimerExpiry 2 4000000) (withFeeder site0 2 .opening)).feeders[2].state
    = .stuckClosed
    ∧ (after (.breakerTimerExpiry 2 4000000) (withFeeder site0 2 .opening)).feeders[0].state = .opening := by decide
theorem test_mshed : (after (.mshedEdge true 5) site0).feeders[0].state = .opening := by decide
theorem test_bsabort : (after (.bsabortEdge true 5) (inPhase dark .restore)).mode = .observe := by decide +kernel
theorem test_cfglock : (after (.cfglockChange true 5) site0).cfglockLevel = true := by decide
theorem test_lane_at_once : (after (.laneChange true .idle 5) site0).lane = .b := by decide
theorem test_lane_waits : (after (.laneChange true .sending 5)
    { site0 with txBuffer := some ⟨.statusB 1 2 3, 0, .a, 0, 0⟩ }).lane = .a := by decide
theorem test_setReport_tripped : (after (.setReport gen0 4 0) site0).sets[0].state = .failed
    ∧ (after (.setReport gen0 4 0) site0).alertPin = true := by decide
theorem test_setReport_online : (after (.setReport ⟨10, .a, 0x12⟩ 3 50) site0).sets[2].minRun
    = .running (1010 + 300000000) := by decide
theorem test_pvReport : (after (.pvReport ⟨10, .a, 0x21⟩ 300 400) site0).pvSlots[1] = some ⟨300, 400, 1010⟩ := by
  decide
theorem test_lostTimer : (after (.lostTimerExpiry 0 8000) site0).sets[0].stale = true
    ∧ (after (.lostTimerExpiry 1 8000) site0).sets[1].state = .unavailable := by decide
theorem test_startTimer : (after (.startTimerExpiry 2 4000) site0).sets[2].state = .resting
    ∧ (after (.startTimerExpiry 2 4000) site0).sets[2].attempts = 1 := by decide
theorem test_stopTimer : (after (.stopTimerExpiry 0 4000) (withSet site0 0 .stopping)).sets[0].cause
    = .failToStop := by decide
theorem test_minimumRun : (after (.minimumRunExpiry 0 4000) site0).sets[0].minRun = .elapsed := by decide
theorem test_minimumDown : (after (.minimumDownExpiry 1 4000) (withSet site0 1 .resting)).sets[1].state
    = .stopped := by decide
/-- FIRST_SET with set 0 under the dead-bus start order. -/
def deadBus : State :=
  let r := setIn .starting
  { inPhase dark .firstSet with
    sets := dark.sets.set 0 { r with startTimer := none, deadBusTimer := some 5000, mark := true, directive := .runDeadbus }
    seq := { dark.seq with phase := .firstSet, attempts := 1, candidate := some 0 } }
theorem test_deadBusTimer : (after (.deadBusStartTimerExpiry 0 4000) deadBus).sets[0].cause = .bsStartFailed
    ∧ (after (.deadBusStartTimerExpiry 0 4000) deadBus).seq.candidate = some 2 := by decide +kernel
/-- The settle timer running to count 5000. -/
def settling : State := { site0 with settle := .running 5000, queue := [5], feeders := (withFeeder site0 5 .openShed).feeders }
theorem test_settleExpiry : (after (.settleExpiry 4000) settling).settle = .stopped
    ∧ (after (.settleExpiry 3999) settling).settle = .running 5000 := by decide
/-- A hold in effect, held by supervisor 1, with 300 counts of the settle timer kept. -/
def held : State := { settling with settle := .paused 300, hold := ⟨.inEffect, some 1, some 5000, none⟩ }
/-- The gap after a hold. -/
def gap : State := { settling with hold := ⟨.none, none, none, some 5000⟩ }
theorem test_tholdmax : (after (.tholdmaxExpiry 4000) held).settle = .running 5300 := by decide
theorem test_tholdgap : (after (.tholdgapEnd 4000) gap).hold = ⟨.none, none, none, none⟩ := by decide
/-- The trigger timer running to count 5000. -/
def triggered : State := { dark with
  cfg := { site with params := site.params.set AUTO_BS 1 }, seq := { dark.seq with trigger := some 5000 } }
theorem test_trigger : (after (.triggerTimerExpiry 4000) triggered).seq.phase = .prepare
    ∧ (after (.triggerTimerExpiry 4000) triggered).aggU = 0 := by decide +kernel
/-- A window of supervisor 1 on the PV table. -/
def windowed : State := { observing with window := some ⟨1, .pv site.pv, 0, 1, 1, 0, 5000⟩ }
theorem test_idleExpiry : (after (.idleExpiry 4000) windowed).window = none := by decide
theorem test_entryData : (after (.entryData sup [0x41, 0x27, 0x03, 0xE8]) windowed).window
    = some ⟨1, .pv #v[⟨0x20, 2500⟩, ⟨0x27, 1000⟩, .empty, .empty], 0, 1, 0, 0, 1010 + 20000000⟩ := by decide
theorem test_entryData_no_window : (after (.entryData sup [0x41, 0x27, 0x03, 0xE8]) site0).txQueue
    = [.reply 1 0x15 .noWindow []] := by decide
theorem test_frameOfOtherKind : (after (.frameOfOtherKind sup 9 []) site0).txQueue = [] := by decide
theorem test_unknownRequestCode : (after (.unknownRequestCode sup 0x15) site0).txQueue
    = [.reply 1 0x15 .invalid []] := by decide
theorem test_resumeDispatch : (after (.resumeDispatch sup) observing).mode = .dispatch
    ∧ (after (.resumeDispatch sup) observing).sets[0].directive = .run := by decide +kernel
theorem test_enterObserve : (after (.enterObserve sup) site0).sets[1].directive = .hold
    ∧ (after (.enterObserve sup) site0).sets[1].dirSeq = 1 := by decide +kernel
theorem test_blackStart : (after (.blackStart sup) dark).feeders[3].cause = .blackstart
    ∧ (after (.blackStart sup) dark).sets[0].directive = .stop := by decide +kernel
theorem test_holdRestoration : (after (.holdRestoration gen0) settling).settle = .paused (5000 - 1010)
    ∧ (after (.holdRestoration gen0) settling).txQueue = [.reply 0x10 0x04 .accepted [2, 0x10, 0, 30]] := by decide
theorem test_resumeRestoration : (after (.resumeRestoration sup) held).settle = .running 1310
    ∧ (after (.resumeRestoration gen0) held).txQueue = [.reply 0x10 0x05 .notHolder [2]] := by decide
theorem test_shedStep : (after (.shedStep sup) site0).txQueue.head? = some (.reply 1 0x06 .accepted [0, 1]) := by
  decide
theorem test_openFeeder : (after (.openFeeder sup 4) site0).feeders[4].origin = none
    ∧ (after (.openFeeder sup 4) site0).feeders[4].state = .opening := by decide
theorem test_restoreFeeder : (after (.restoreFeeder sup 5) settling).feeders[5].state = .closing
    ∧ (after (.restoreFeeder sup 5) settling).queue = [] := by decide
theorem test_clearSetFault : (after (.clearSetFault sup 0) (withSet site0 0 .failed)).sets[0].state = .online
    ∧ (after (.clearSetFault sup 3) site0).txQueue = [.reply 1 0x09 .invalid []] := by decide
theorem test_clearFeederFault : (after (.clearFeederFault sup 1) (withFeeder site0 1 .stuckClosed)).feeders[1].state
    = .closed := by decide
theorem test_setParameter_clamped : (after (.setParameter sup 8 9) site0).cfg.params[MAX_ATTEMPTS] = 5
    ∧ (after (.setParameter sup 8 9) site0).txQueue = [.reply 1 0x0B .acceptedClamped [8, 5]] := by decide
theorem test_setParameter_pending : (after (.setParameter sup 0 300) site0).paramPending[RES_MARGIN] = some 300
    ∧ (after (.setParameter sup 0 300) site0).cfg.params[RES_MARGIN] = 200 := by decide
theorem test_readParameter : (after (.readParameter sup 0) site0).txQueue
    = [.reply 1 0x0C .accepted [0, 200, 0]] := by decide
theorem test_readEntry : (after (.readEntry sup 0x81) site0).txQueue = [.reply 1 0x0D .accepted [1, 11, 0]] := by
  decide
theorem test_windowOpen : ((after (.windowOpen sup 1 0 3) observing).window.map Window.last) = some 3
    ∧ (after (.windowOpen sup 1 0 4) observing).txQueue = [.reply 1 0x0E .invalid []] := by decide
theorem test_windowCloseDiscard : (after (.windowCloseDiscard sup 0) windowed).window = none := by decide
theorem test_windowCloseCommit : (after (.windowCloseCommit sup)
    { windowed with window := some ⟨1, .pv (site.pv.set 1 ⟨0x21, 1000⟩), 0, 1, 1, 0, 5000⟩ }).plants[1].sent
    = 1000 := by decide
/-- The Set Roster staged in OBSERVE with entry 1 emptied, while frames wait. -/
def rosterWindow : State := { observing with
  sets := tabulate fun (i : Fin 8) => if i.val < 3 then observing.sets[i] else { SetRec.reset with directive := .stop }
  txQueue := [.statusB 1 2 3, .setDirective 1 0x11 .hold 0, .reply 0x11 0x04 .accepted [], .pvCeiling 0 0x20 900 .balance]
  window := some ⟨1, .roster (site.roster.set 1 .empty), 0, 1, 1, 0, 5000⟩ }
/-- R67, R185: the emptied entry held HOLD; its directive value changes to STOP, with the sequence raised and no frame, and
its waiting frames go. -/
theorem test_commit_emptied : (after (.windowCloseCommit sup) rosterWindow).sets[1].directive = .stop
    ∧ (after (.windowCloseCommit sup) rosterWindow).sets[1].dirSeq = 1
    ∧ (after (.windowCloseCommit sup) rosterWindow).txQueue
      = [.statusB 1 2 3, .pvCeiling 0 0x20 900 .balance, .reply 1 0x0F .accepted [0, 0, 0]] := by
  decide +kernel
theorem test_saveSettings : (after (.saveSettings sup) site0).store = .torn
    ∧ (after (.saveSettings sup) site0).txQueue = [] := by decide
theorem test_endOfTheWrite : (after (.endOfTheWrite 5) { site0 with save := some ⟨[1, 2], 1, 900⟩ }).store
    = .whole [1, 2] := by decide
theorem test_setLock : (after (.setLock sup) site0).cfg.lockFlag = true := by decide
theorem test_clearLock_refused : (after (.clearLock sup) { site0 with cfglockLevel := true }).txQueue
    = [.reply 1 0x12 .locked [0, 1]] := by decide
theorem test_softReset : (after (.softReset sup) settling).feeders[5].state = .openHeld
    ∧ (after (.softReset sup) settling).queue = [] := by decide +kernel
theorem test_cycleReset : (after (.cycleReset sup) { site0 with cycle := 9 }).cycle = 0 := by decide
/-- Two frames wait, the buffer is empty. -/
def sending : State := { site0 with txQueue := [.feederReport [[], []] 0, .statusB 1 2 3] }
theorem test_take : (after (.take 5) sending).txQueue = [.feederReport [[], []] 1, .statusB 1 2 3] := by decide
theorem test_frameSent : (after (.frameSent 5) { sending with
    txQueue := [.feederReport [[], []] 2], txBuffer := some ⟨.feederReport [[], []] 1, 0, .a, 0, 1⟩ }).txQueue
    = [] := by decide
theorem test_offeredAgain : (after (.offeredAgain 5) { sending with
    pins := { sending.pins with lane := true }, laneWaiting := true }).lane = .b := by decide

/-- Start-up ends at the latest tLOAD after it began. -/
theorem test_idle_step : ({ State.reset with clk := 499999 } : State).tick.pending = [.endOfStartUp 0]
    ∧ ({ State.reset with clk := 499998 } : State).tick.pending = [] := by decide

/-- PREPARE with one feeder still OPENING. -/
def lastOpening : State := { inPhase dark .prepare with
  feeders := (withFeeder dark 2 .opening).feeders, ordering := true }
/-- The meter LOST in DISPATCH with AUTO_BS on and this BS_DELAY, no set ONLINE. -/
def dying (delay : Nat) : State := { dark with
  meter := lost.meter, notedMeter := .lost
  cfg := { site with params := (site.params.set AUTO_BS 1).set BS_DELAY delay } }
/-- The trigger timer running on a ladder whose feeders are all open. -/
def allOpen : State := { triggered with
  feeders := tabulate fun (i : Fin 16) => if i.val < 6 then foundFeeder true false else .reset }
/-- The station in OBSERVE on a dark bus, with AUTO_BS on and this BS_DELAY. -/
def darkObserving (delay : Nat) : State := { dying delay with
  meter := dark.meter, notedMeter := .dead, mode := .observe }

/-! ## States and operands that meet the hypotheses of the obligations, clause by clause -/

/-- The tBAL expiry at count 3000 is due after the tick that ends there, and not after the one before. -/
theorem witness_IdleStepRaisesDueExpiries : State.reset.pending = [] ∧ site0.tbalEnds = some 3000
    ∧ ({ site0 with clk := 2999 } : State).tick.pending = [.tbalExpiry 0]
    ∧ ({ site0 with clk := 2998 } : State).tick.pending = [] ∧ site0.power = .running
    ∧ State.reset.power = .startUp ∧ State.reset.startBegan = 0 := by decide

/-- RESETn held low. -/
def heldLow : State := after (.resetnAssert 5) site0

theorem witness_NominalFrequencyIsHeld : heldLow.pins.resetn = false
    ∧ (∀ f d, Instr.take 0 ≠ .powerOnReset f d)
    ∧ (∀ f d, Instr.take 0 = .resetnRelease f d → site0.pins.resetn = true) :=
  ⟨by decide, nofun, nofun⟩

/-- The small station keeps every promise that the invariants speak of, and its step answers. -/
def steady : State := { site0 with
  meter := { site0.meter with waitFrom := none }
  feeders := tabulate fun (i : Fin 16) => if i.val < 6 then foundFeeder true true else .reset }

theorem witness_FeedAlwaysFollowsFeederState : FeedFollowsState steady ∧ step steady = .next steady.tick :=
  ⟨by decide, rfl⟩
theorem witness_RecordsStayConsistent : FeederRecordsAgree steady ∧ SetRecordsAgree steady
    ∧ MeterRecordAgrees steady ∧ HoldRecordAgrees steady ∧ step steady = .next steady.tick :=
  ⟨by decide, by decide, by decide, by decide, rfl⟩
theorem witness_QueueAlwaysHoldsExactlyShedFeeders : QueueHoldsShedFeeders steady
    ∧ step steady = .next steady.tick := ⟨by decide, rfl⟩
theorem witness_TransmitQueueKeysStayDistinct : QueueKeysDistinct steady ∧ step steady = .next steady.tick :=
  ⟨⟨by decide, by simp [steady, site0, State.reset], by simp [steady, site0, State.reset]⟩, rfl⟩
/-- A queue with a waiting SET_DIRECTIVE between two neighbours, and without a STATUS_A. -/
theorem witness_TransmitQueueKeysStayDistinct_places : QueueKeysDistinct rosterWindow
    ∧ rosterWindow.txQueue = [.statusB 1 2 3] ++ .setDirective 1 0x11 .hold 0
        :: [.reply 0x11 0x04 .accepted [], .pvCeiling 0 0x20 900 .balance]
    ∧ (Frame.setDirective 1 0x11 .hold 0).key = (Frame.setDirective 1 0x11 .stop 1).key
    ∧ (Frame.feederReport [] 0).key ∉ rosterWindow.txQueue.map Frame.key := by
  refine ⟨⟨by decide +kernel, ?_, by decide +kernel⟩, rfl, rfl, by decide +kernel⟩
  intro dest h
  have hd : dest = 0x11 := by simpa [rosterWindow, Frame.key] using h
  subst hd
  exact .inr (.inr ⟨1, by decide +kernel, by decide +kernel⟩)
theorem witness_AlertAlwaysFollowsAlertSet : AlertFollowsSet steady ∧ step steady = .next steady.tick :=
  ⟨by decide, rfl⟩
theorem witness_ModeAndMarkAlwaysMatchThePhase : ModeMatchesPhase steady ∧ SetRecordsAgree steady
    ∧ MarkIsCandidate steady ∧ TriggerFollowsConditions steady ∧ step steady = .next steady.tick :=
  ⟨by decide, by decide, by decide, by decide, rfl⟩
/-- The trigger timer runs while its conditions hold, and a mark is its candidate's. -/
theorem witness_ModeAndMarkAlwaysMatchThePhase_set : TriggerFollowsConditions triggered
    ∧ triggered.seq.trigger ≠ none ∧ ModeMatchesPhase triggered ∧ MarkIsCandidate deadBus
    ∧ deadBus.sets[0].mark = true := by decide
theorem witness_DirectivesAlwaysFollowStates : DirectivesFollowStates steady ∧ step steady = .next steady.tick :=
  ⟨by decide, rfl⟩
theorem witness_ValuesStayInRange : CeilingsWithinRatings steady ∧ ParametersInRange steady
    ∧ step steady = .next steady.tick := ⟨by decide, by decide +kernel, rfl⟩

theorem witness_ResetsAndStartUpGiveEveryBlockItsState : site0.pins.resetn = true ∧ heldLow.pins.resetn = false
    ∧ State.reset.power = .startUp := by decide
theorem witness_StoreLoadsSavedSettingsOrDefaults_saved : SettingsFit site ∧ site.contentOk = true :=
  ⟨by unfold SettingsFit; decide, by decide +kernel⟩
/-- Bytes whose CRC-16 is 0 whatever their number: 0xFF 0xFF takes the CRC to 0, where zeros leave it. -/
theorem crc_zeros (n : Nat) : crc16 (0xFF :: 0xFF :: .replicate n 0) = 0#16 := by
  have h : ∀ m : Nat, (List.replicate m (0 : Byte)).foldl crcByte 0#16 = 0#16 := fun m => by
    induction m with
    | zero => rfl
    | succ m ih => rw [List.replicate_succ, List.foldl_cons, show crcByte 0#16 0 = 0#16 by decide, ih]
  rw [crc16, List.foldl_cons, List.foldl_cons,
    show crcByte (crcByte 0xFFFF#16 0xFF) 0xFF = 0#16 by decide +kernel, h]
/-- An image of the right length whose last byte is not that of its CRC-16. -/
def badCrc : List Byte := 0xFF :: 0xFF :: (.replicate 227 0 ++ [0, 1])
/-- One image for each way to be bad: its length, its CRC-16, its content. -/
theorem witness_StoreLoadsSavedSettingsOrDefaults_bad : ([] : List Byte).length ≠ 231
    ∧ badCrc.length = 231 ∧ word badCrc 229 ≠ (crc16 (badCrc.take 229)).toNat
    ∧ (Settings.ofContent ((List.replicate 231 0xFF).take 229)).contentOk = false := by
  refine ⟨by decide, by decide +kernel, ?_, by decide +kernel⟩
  rw [show badCrc.take 229 = 0xFF :: 0xFF :: .replicate 227 0 by decide +kernel, crc_zeros]
  decide +kernel

/-- The meter ACQUIRING with three periods accepted. -/
def acquiring : State := { site0 with
  meter := ⟨.acquiring, some 0, 3, [200000, 200000, 200000], [], none, none, none⟩ }
/-- The meter VALID with both histories full. -/
def full : State := { site0 with
  meter := ⟨.valid, some 0, 4, .replicate 10 200000, .replicate 11 50000, some 50000, some 0, none⟩ }
theorem witness_RisingEdgeMovesMeterRecord_reference : silent.power = .running ∧ silent.meter.state = .noSignal
    ∧ lost.meter.state = .lost ∧ dark.meter.state = .dead := by decide
theorem witness_RisingEdgeMovesMeterRecord_lengths : (acquiring.meter.elapse 142857).elapsed = some 142857
    ∧ (acquiring.meter.elapse 142858).elapsed = some 142858 ∧ (acquiring.meter.elapse 250000).elapsed = some 250000
    ∧ (acquiring.meter.elapse 250001).elapsed = some 250001 ∧ acquiring.meter.state = .acquiring
    ∧ acquiring.power = .running := by decide
theorem witness_RisingEdgeMovesMeterRecord_histories :
    acquiring.meter.periods.length < 10 ∧ full.meter.periods.length = 10
    ∧ site0.meter.freqs.length < 11 ∧ full.meter.freqs.length = 11 ∧ full.meter.state = .valid := by decide
theorem witness_FrequencyValueIsNearestMillihertz : 571432 ≤ 571432 ∧ 571432 ≤ 1000000 := by decide
theorem witness_MeterExpiriesWithdrawFrequency :
    MeterRecordAgrees site0 ∧ (site0.meter.elapse 250001).elapsed = some 250001
    ∧ (site0.meter.elapse 250000).elapsed = some 250000
    ∧ MeterRecordAgrees lost ∧ (lost.meter.elapse 750000).elapsed = some 1000001
    ∧ (lost.meter.elapse 749999).elapsed = some 1000000
    ∧ MeterRecordAgrees silent ∧ silent.meter.waitFrom = some 500
    ∧ 1000000 < silent.clk + 999501 - 500 ∧ silent.clk + 999500 - 500 ≤ 1000000 := by decide
theorem witness_FrequencyValueMovesEveryStage :
    GivesValue site0 142858 142858 ∧ GivesValue acquiring 250000 250000 := by
  unfold GivesValue; decide
/-- A stage FIRED, which resets at 50,000 mHz. -/
def fired : State := { site0 with stages := site0.stages.set 0 ⟨.fired, none⟩, exhausted := true }
/-- At the low value stage 1 fires and stage 0 is TIMING; at the high value none moves; at 50,000 mHz the FIRED stage
resets, and a TIMING one returns. -/
theorem witness_FrequencyValueMovesEveryStage_stages :
    ((after (.gtickRisingEdge 250000) acquiring).stages.toList.take 2).map StageRec.state = [.timing, .fired]
    ∧ (after (.gtickRisingEdge 142858) site0).stages = site0.stages ∧ (∀ k : Fin 8, site0.stages[k].state = .idle)
    ∧ GivesValue fired 200000 200000 ∧ (after (.gtickRisingEdge 200000) fired).stages[0].state = .idle
    ∧ GivesValue timing 200000 200000 ∧ (after (.gtickRisingEdge 200000) timing).stages[0].state = .idle := by
  unfold GivesValue; decide +kernel
/-- Stages that a meter event without a frequency returns to IDLE, all of them or with a FIRED one left; no sequence and
no automatic start. -/
theorem witness_StagesWithdrawn : timing.stages[0].state = .timing ∧ (∀ k : Fin 8, timing.stages[k].state ≠ .fired)
    ∧ fired.stages[0].state = .fired ∧ timing.seq.phase = .none ∧ timing.cfg.params[AUTO_BS] ≠ 1 := by decide
/-- An event that changes a feeder state, and one that changes none: the line of a DISABLED feeder. -/
theorem witness_FeederReportFollows :
    (after (.fstatChange (lineOf 2) low 5) site0).feederStates ≠ site0.feederStates
    ∧ (after (.fstatChange (lineOf 7) (lineOf 7) 5) site0).feederStates = site0.feederStates := by decide
/-- The same two values lie above and below the over-frequency start point. -/
theorem witness_FrequencyValueLimitsEveryPlant : 0 < site0.cfg.pv[0].rating
    ∧ ((after (.gtickRisingEdge 142858) site0).meter.freq.map fun f =>
        decide (site0.fn + site0.cfg.params[OF_START] < f)) = some true
    ∧ ((after (.gtickRisingEdge 250000) acquiring).meter.freq.map fun f =>
        decide (f ≤ acquiring.fn + acquiring.cfg.params[OF_START])) = some true := by decide
theorem witness_TbalExpiryPublishesTheRecord : site0.power = .running ∧ site0.tbalEnds = some 3000
    ∧ 3000 ≤ site0.clk + 2000 := by decide
theorem witness_SpinningReserveIsUnusedCapacity : dark.computeRecord.onlineCount = 0
    ∧ (({ site0 with setSlots := .replicate 8 none } : State).computeRecord.sets.any fun e => e.stale) = true := by
  decide
/-- In the combined action of 5.6.1, stage 5 is DEEP with a width, feeder 11 is CLOSING and feeder 8 may be chosen. -/
theorem witness_FiringStagesRevertAndShed : ladder16.cfg.stages[5].reach = .deep
    ∧ 0 < ladder16.cfg.stages[5].width ∧ ladder16.cfg.feeders[11].enabled = true
    ∧ ladder16.feeders[11].state = .closing ∧ MayBeChosen ladder16 .shallow 8 ∧ MayBeChosen ladder16 .deep 12
    ∧ ladder16.ordering = false
    ∧ (∀ i : Fin 16, ladder16.feeders[i].state = .closing → i = 11) := by
  decide
theorem witness_RecordSumsReportsAndFormsTerms : site0.cfg.params[N1_COVER] = 1 ∧ 2 ≤ noon.computeRecord.onlineCount
    ∧ site0.computeRecord.onlineCount < 2 ∧ dark.computeRecord.onlineCount = 0 := by decide
theorem witness_AllotmentsShareTheCeiling :
    noon.computeRecord.a ≤ (noon.computeCeilings noon.computeRecord).aggU
    ∧ ({ shares with aggU := 0 }.computeCeilings shares.computeRecord).aggU < shares.computeRecord.a := by decide
theorem witness_PublicationFormsTheCeilings : site0.mode = .dispatch ∧ observing.mode = .observe
    ∧ (inPhase dark .pvReturn).mode = .blackstart ∧ (inPhase dark .pvReturn).seq.phase = .pvReturn
    ∧ (inPhase dark .restore).seq.phase ≠ .pvReturn ∧ 0 < site0.cfg.pv[0].rating := by decide

theorem witness_FstatChangesMoveTheirFeeders : site0.power = .running ∧ NoAutoStart site0
    ∧ site0.fstatAfter (lineOf 2) low = site0.pins.fstat.set 2 (!site0.pins.fstat[2])
    ∧ (∀ i : Fin 16, (site0.fstatAfter (lineOf 2) low)[i]
        = if (lineOf 2)[i] = true then low[i] else site0.pins.fstat[i])
    ∧ site0.fstatAfter (lineOf 2) low ≠ site0.pins.fstat ∧ heldLow.power ≠ .running
    ∧ site0.pins.fstat = site0.fstatAfter low low := by decide
/-- The transitions that give a notice: an OPENING feeder opens, an OPEN_SHED and a CLOSING one close. -/
theorem witness_FstatChangesMoveTheirFeeders_notices : stateAfterFstat .opening false = .openShed
    ∧ stateAfterFstat .openShed true = .stuckClosed ∧ stateAfterFstat .closing true = .closed
    ∧ (withFeeder site0 2 .opening).feeders[2].state = .opening
    ∧ (withFeeder site0 2 .closing).feeders[2].state = .closing := by decide
/-- Two feeders open together. -/
theorem witness_FstatChangesMoveTheirFeeders_together :
    let new := twoOpening.fstatAfter bothLines low
    twoOpening.power = .running ∧ NoAutoStart twoOpening
    ∧ twoOpening.ordering = false ∧ new[1] ≠ twoOpening.pins.fstat[1] ∧ new[4] ≠ twoOpening.pins.fstat[4]
    ∧ ∀ i : Fin 16, new[i] ≠ twoOpening.pins.fstat[i] → new[i] = false
        ∧ twoOpening.feeders[i].state = .opening ∧ twoOpening.cfg.feeders[i].enabled = true := by decide
theorem witness_BreakerTimerExpiryLeavesFeederStuck : (withFeeder site0 2 .opening).feeders[2].timer = some 4001000
    ∧ 4001000 ≤ site0.clk + 4000000 ∧ (withFeeder site0 2 .opening).feeders[2].origin = some .shallow
    ∧ (withFeeder site0 2 .closing).feeders[2].timer = some 4001000 ∧ NoAutoStart (withFeeder site0 2 .opening)
    ∧ (withFeeder site0 2 .opening).seq.phase ≠ .prepare := by decide
theorem witness_ManualShedActionsShedOneFeeder : site0.power = .running ∧ NoAutoStart site0 ∧ site0.pins.mshed = !true
    ∧ site0.mshedLevel = !true ∧ Hears site0 sup ∧ FromSupervisor sup ∧ heldLow.power ≠ .running := by decide
/-- A Balance Record with this spinning reserve and this required reserve. -/
def recordWith (sr rr : Nat) : BalanceRecord := { site0.computeRecord with sr := sr, rr := rr, cStart := 0 }
/-- The station with set 0 ONLINE alone, no set STARTING or STOPPED. -/
def alone : State := withSet (withSet site0 1 .unavailable) 2 .unavailable
/-- The reserve just below the floor and at it; a timer that has just run its length, and one count short of it; the
report count at its last value and below. -/
theorem witness_LadderShedsOnReserveAndReports : ReserveShort alone (recordWith (alone.cfg.params[SHED_FLOOR] - 1) 0)
    ∧ ¬ ReserveShort alone (recordWith alone.cfg.params[SHED_FLOOR] 0) ∧ 0 < alone.cfg.params[SHED_FLOOR]
    ∧ alone.reserveShed = none ∧ alone.clk - 0 = 1000 ∧ alone.clk - 0 < 1001
    ∧ ({ alone with reserveShed := some ⟨0, 1000⟩ } : State).reserveShed = some ⟨0, 1000⟩
    ∧ ({ alone with firstReport := true } : State).firstReport = true
    ∧ 25 ≤ ({ alone with reportCount := 24 } : State).reportCount + 1
    ∧ ({ alone with reportCount := 23 } : State).reportCount + 1 < 25 ∧ alone.firstReport = false := by decide
theorem witness_OpenFeederOpensTheNamedFeeder : Hears site0 sup ∧ FromSupervisor sup ∧ NoAutoStart site0
    ∧ 16 ≤ (16 : Byte).toNat ∧ (15 : Fin 16).val = (15 : Byte).toNat ∧ site0.feeders[15].state = .disabled
    ∧ site0.feeders[5].state = .closed ∧ settling.feeders[5].state = .openShed
    ∧ (withFeeder site0 5 .closing).feeders[5].state = .closing
    ∧ (withFeeder site0 5 .openExt).feeders[5].state = .openExt := by decide
theorem witness_RestoreAndClearFaultActOnTheNamedFeeder :
    settling.meter.state = .valid ∧ settling.feeders[5].state = .openShed
    ∧ (5 : Fin 16).val = (5 : Byte).toNat ∧ Hears settling sup ∧ NoAutoStart settling ∧ lost.meter.state ≠ .valid
    ∧ (withFeeder site0 1 .stuckClosed).feeders[1].state = .stuckClosed
    ∧ (withFeeder site0 1 .stuckOpen).feeders[1].state = .stuckOpen := by decide

/-- A station whose head of the queue can be restored. -/
def restorable : State := { settling with settle := .stopped, restoreDelay := none }
/-- Reserve for the head's 600 kW, and one kilowatt less. -/
theorem witness_ExaminationClosesOnlyAReadyHead : restorable.queue.head? = some 5 ∧ restorable.mode = .dispatch
    ∧ restorable.hold.state = .none ∧ restorable.settle = .stopped
    ∧ (∀ i : Fin 16, restorable.feeders[i].state ≠ .closing) ∧ (∀ k : Fin 8, restorable.stages[k].state = .idle)
    ∧ restorable.meter.state = .valid ∧ restorable.fn ≤ 50000 + restorable.cfg.params[RESTORE_FREQ]
    ∧ restorable.notedMeter = .valid ∧ restorable.feeders[5].state = .openShed
    ∧ (restorable.cfg.feeders[5].load * 100 + 99) / 100 = 600
    ∧ 600 + (recordWith 800 200).rr ≤ (recordWith 800 200).sr
    ∧ (recordWith 799 200).sr < 600 + (recordWith 799 200).rr ∧ site0.queue = [] := by decide
/-- The restore delay at its end and one count before, with an empty queue (R128). -/
theorem witness_ExaminationClosesOnlyAReadyHead_delay :
    (({ site0 with restoreDelay := some 1000 } : State).examine (recordWith 0 0)).restoreDelay = none
    ∧ (({ site0 with restoreDelay := some 1001 } : State).examine (recordWith 0 0)).restoreDelay = some 1001 := by
  decide
theorem witness_HoldsStartAndEnd : Hears settling sup ∧ FromSupervisor sup ∧ FromGenset settling gen0
    ∧ held.hold.state ≠ .none ∧ held.hold.holder = some 1 ∧ held.hold.maxEnds = some 5000
    ∧ gap.hold = ⟨.none, none, none, some 5000⟩ ∧ site0.hold = ⟨.none, none, none, none⟩ ∧ site0.queue = []
    ∧ site0.settle = .stopped ∧ settling.hold = ⟨.none, none, none, none⟩ ∧ settling.queue ≠ []
    ∧ (∃ i : Fin 16, (withFeeder site0 5 .closing).feeders[i].state = .closing)
    ∧ held.hold.holder ≠ some gen0.src.toNat := by decide
theorem witness_RestorationAndWindowTimersExpire : settling.settle = .running 5000 ∧ held.hold.maxEnds = some 5000
    ∧ gap.hold.gapEnds = some 5000 ∧ (windowed.window.map Window.idleEnds) = some 5000
    ∧ 5000 ≤ settling.clk + 4000 ∧ settling.clk + 3999 < 5000 ∧ settling.power = .running := by decide

theorem witness_TriggersBeginTheSequence : triggered.seq.trigger = some 5000 ∧ 5000 ≤ triggered.clk + 4000
    ∧ SomeFeederOpens triggered ∧ triggered.power = .running
    ∧ Hears dark sup ∧ FromSupervisor sup ∧ dark.mode ≠ .blackstart ∧ dark.meter.state = .dead ∧ NoSetOnline dark
    ∧ dark.seq.abortLevel = false ∧ dark.storeBad = false ∧ SomeCapableSet dark ∧ SomeFeederOpens dark
    ∧ site0.meter.state ≠ .dead ∧ ({ dark with storeBad := true } : State).storeBad = true := by decide
/-- The dead expiry that makes the conditions hold, with a delay and without one. -/
theorem witness_TriggersBeginTheSequence_automatic :
    (dying 5).power = .running ∧ MeterRecordAgrees (dying 5) ∧ (dying 5).meter.state = .lost
    ∧ ((dying 5).meter.elapse 750000).elapsed = some 1000001 ∧ (dying 5).mode = .dispatch
    ∧ (dying 5).seq.phase = .none ∧ (dying 5).seq.trigger = none ∧ (dying 5).cfg.params[AUTO_BS] = 1
    ∧ BlackStartConditions { dying 5 with meter := { (dying 5).meter with state := .dead } }
    ∧ 0 < (dying 1).cfg.params[BS_DELAY] ∧ (dying 0).cfg.params[BS_DELAY] = 0 ∧ SomeFeederOpens (dying 0)
    ∧ BlackStartConditions { dying 0 with meter := { (dying 0).meter with state := .dead } } := by decide
theorem witness_PrepareEndsWithTheFirstSetNamed : lastOpening.power = .running ∧ lastOpening.mode = .blackstart
    ∧ lastOpening.seq.phase = .prepare
    ∧ lastOpening.meter.state ≠ .valid ∧ lastOpening.pins.fstat[2] = true ∧ lastOpening.feeders[2].state = .opening
    ∧ (∀ j : Fin 16, j ≠ 2 → lastOpening.feeders[j].state ≠ .opening)
    ∧ LowestPriority lastOpening (FirstSetCandidate lastOpening) 0 := by decide
/-- An entry into PREPARE that finds no feeder to open. -/
theorem witness_PrepareEndsWithTheFirstSetNamed_atEntry : allOpen.power = .running
    ∧ allOpen.seq.trigger = some 5000 ∧ 5000 ≤ allOpen.clk + 4000 ∧ allOpen.mode = .dispatch
    ∧ ModeMatchesPhase allOpen ∧ ¬ SomeFeederOpens allOpen ∧ NoSetOnline allOpen ∧ allOpen.meter.state ≠ .valid
    ∧ LowestPriority allOpen (fun k => 0 < allOpen.cfg.roster[k].rating ∧ allOpen.cfg.roster[k].capable = true
        ∧ (allOpen.sets[k].state = .stopped ∨ allOpen.sets[k].state = .resting
          ∨ allOpen.sets[k].state = .starting)) 0 := by decide
/-- A loss of the bus in RESTORE, at the given attempt. -/
def losing (attempts : Nat) : State := { inPhase lost .restore with
  seq := { lost.seq with phase := .restore, attempts := attempts } }
theorem witness_LossOfTheBusRepeatsOrFails : (losing 1).power = .running ∧ MeterRecordAgrees (losing 1)
    ∧ (losing 1).meter.state = .lost ∧ ((losing 1).meter.elapse 750000).elapsed = some 1000001
    ∧ (losing 1).mode = .blackstart ∧ (losing 1).seq.phase = .restore
    ∧ (losing 1).seq.attempts + 1 < 3 ∧ 3 ≤ (losing 2).seq.attempts + 1 ∧ SomeFeederOpens (losing 1)
    ∧ MeterRecordAgrees (losing 2) := by decide
/-- FIRST_SET with candidate 0 under the mark, on a bus that carries a frequency. -/
def formed : State := { deadBus with meter := site0.meter, notedMeter := .valid }
/-- The same with the candidate's latest report OFF, and set 1 ONLINE. -/
def overtaken : State := { withSet formed 1 .online with setSlots := formed.setSlots.set 0 (some ⟨.off, 0, 900⟩) }
/-- FIRST_SET with no candidate, and sets 0 and 2 in these states. -/
def seeking (first third : SetState) : State := inPhase (withSet (withSet dark 0 first) 2 third) .firstSet
theorem witness_FirstSetIsFormedLostOrAwaited : formed.seq.phase = .firstSet ∧ formed.mode = .blackstart
    ∧ formed.seq.candidate = some 0 ∧ 0 < formed.cfg.roster[0].rating ∧ formed.sets[0].state = .starting
    ∧ formed.meter.state = .valid ∧ formed.reportsOnBus 0 = true ∧ formed.sets[0].mark = true
    ∧ overtaken.reportsOnBus 0 = false ∧ overtaken.meter.state = .valid ∧ (1 : Fin 8) ≠ 0
    ∧ SetIs overtaken .online 1 ∧ overtaken.sets[0].mark = true ∧ overtaken.sets[0].state = .starting
    ∧ deadBus.meter.state ≠ .valid ∧ site0.seq.phase ≠ .firstSet := by decide
/-- No candidate, or a FAILED one: a bus already formed, a set to order, sets to wait for, and none left. -/
theorem witness_FirstSetIsFormedLostOrAwaited_next : (seeking .stopped .resting).seq.candidate = none
    ∧ ({ seeking .failed .stopped with seq := { deadBus.seq with candidate := some 0 } } : State).sets[0].state
        = .failed
    ∧ ¬ NoSetOnline overtaken
    ∧ LowestPriority (seeking .stopped .resting) (FirstSetCandidate (seeking .stopped .resting)) 0
    ∧ (seeking .stopped .resting).meter.state ≠ .valid
    ∧ NoSetOnline { seeking .stopped .resting with meter := site0.meter, setSlots := .replicate 8 none }
    ∧ (∀ i, ¬ FirstSetCandidate (seeking .unknown .starting) i) ∧ SomeCapableSet (seeking .unknown .starting)
    ∧ (∀ i, ¬ FirstSetCandidate (seeking .failed .unavailable) i)
    ∧ ¬ SomeCapableSet (seeking .failed .unavailable) := by decide
/-- RESTORE with feeder 5 waiting, blocked on reserve since count 0, under a block timer of this length. -/
def blockedHead (length : Nat) : State := { inPhase settling .restore with
  blocked := some ⟨600, 0⟩, seq := { settling.seq with phase := .restore, attempts := 1, block := some ⟨0, length⟩ } }
theorem witness_SequenceGoesOnToItsCompletion :
    (withSet (withSet dark 0 .online) 1 .online).cfg.params[BS_SETS]
        ≤ countSets (withSet (withSet dark 0 .online) 1 .online) .online
    ∧ countSets dark .online < dark.cfg.params[BS_SETS]
    ∧ LowestPriority dark (fun i => SetIs dark .stopped i ∧ i ∉ dark.seq.passedOver) 0
    ∧ (∀ i, ¬ (SetIs alone .stopped i ∧ i ∉ alone.seq.passedOver)) := by decide
/-- A run order that has ended and one that has not; a queue that is done and one that is not; the block timer at its
length and one count short of it. -/
theorem witness_SequenceGoesOnToItsCompletion_phases :
    (inPhase dark .addSets).seq.phase = .addSets ∧ (inPhase dark .addSets).seq.runOrder = none
    ∧ (inPhase dark .addSets).sets[1].state ≠ .starting
    ∧ (inPhase site0 .restore).queue = [] ∧ (∀ i : Fin 16, (inPhase site0 .restore).feeders[i].state ≠ .closing)
    ∧ (blockedHead 1000).queue ≠ [] ∧ (blockedHead 1000).seq.phase = .restore
    ∧ (blockedHead 1000).blocked = some ⟨600, 0⟩ ∧ (blockedHead 1000).seq.block = some ⟨0, 1000⟩
    ∧ (blockedHead 1000).clk - 0 = 1000 ∧ (blockedHead 1001).clk - 0 < 1001
    ∧ settling.blocked = none ∧ (inPhase dark .pvReturn).mode = .blackstart
    ∧ (inPhase dark .pvReturn).seq.phase = .pvReturn := by decide
/-- U reaches a target of 0 at once, and a target far above its climb not yet. -/
theorem witness_SequenceGoesOnToItsCompletion_target :
    let r := { recordWith 0 0 with uTarget := 0 }
    let far := { recordWith 0 0 with uTarget := 30000 }
    ((inPhase dark .pvReturn).curtailmentWork r).aggU = 0
    ∧ ((inPhase dark .pvReturn).curtailmentWork far).aggU ≠ 30000 := by decide
theorem witness_BsabortRisingEdgeEndsTheSequence :
    deadBus.power = .running ∧ deadBus.pins.bsabort = false ∧ deadBus.seq.abortLevel = false
    ∧ deadBus.mode = .blackstart ∧ deadBus.seq.phase ≠ .none ∧ deadBus.sets[0].mark = true
    ∧ deadBus.sets[0].state = .starting ∧ site0.seq.phase = .none ∧ site0.pins.bsabort = !true
    ∧ NoAutoStart site0 ∧ heldLow.power ≠ .running := by
  decide
/-- A falling edge while a sequence runs. -/
theorem witness_BsabortRisingEdgeEndsTheSequence_falling :
    let s : State := { lastOpening with pins := { lastOpening.pins with bsabort := true } }
    s.power = .running ∧ s.pins.bsabort = true ∧ SequencerListens s := by decide
/-- Without a sequence, in FIRST_SET, in ADD_SETS, and in a PREPARE that still has a feeder OPENING. -/
theorem witness_sequencerListens : NoSequence site0 ∧ SequencerListens site0 ∧ SequencerListens deadBus
    ∧ SequencerListens (inPhase dark .addSets) ∧ SequencerListens lastOpening :=
  ⟨by decide, by decide, by decide, by decide, by decide⟩
theorem witness_SetReportFollowsTheTruthTable : Hears site0 gen0 ∧ 0 < site0.cfg.roster[0].rating
    ∧ site0.cfg.roster[0].address = gen0.src.toNat
    ∧ (∀ j : Fin 8, 0 < site0.cfg.roster[j].rating → site0.cfg.roster[j].address = gen0.src.toNat → j = 0)
    ∧ Hears deadBus gen0 ∧ deadBus.cfg.roster[0].address = gen0.src.toNat
    ∧ ControllerState.ofCode (5 : Byte).toNat = some .notReady
    ∧ ControllerState.ofCode (0 : Byte).toNat = some .off := by decide
theorem witness_SetTimersExpire_lost :
    site0.power = .running ∧ site0.sets[0].lostTimer = some 9000
    ∧ 9000 ≤ site0.clk + 8000 ∧ site0.sets[0].state = .online ∧ site0.sets[1].state = .stopped
    ∧ (withSet site0 0 .failed).sets[0].state = .failed ∧ SequencerListens (withSet site0 0 .failed)
    ∧ deadBus.sets[0].lostTimer = some 9000 ∧ deadBus.sets[0].state = .starting := by decide
theorem witness_SetTimersExpire : 5000 ≤ site0.clk + 4000 ∧ site0.sets[2].startTimer = some 5000
    ∧ (withSet site0 0 .stopping).sets[0].stopTimer = some 5000 ∧ SequencerListens (withSet site0 0 .stopping)
    ∧ (withSet site0 1 .resting).sets[1].minDown = some 5000 ∧ SequencerListens (withSet site0 1 .resting)
    ∧ site0.sets[0].minRun = .running 5000 ∧ deadBus.power = .running
    ∧ deadBus.sets[0].mark = true ∧ deadBus.sets[0].deadBusTimer = some 5000 ∧ NoAutoStart deadBus := by decide

/-- The station with set 1 STOPPING under the latest report ON_BUS. -/
def redirectable : State := { withSet site0 1 .stopping with
  setSlots := site0.setSlots.set 1 (some ⟨.onBus, 100, 900⟩) }
/-- The station with sets 1 and 2 STOPPED. -/
def stoppedTwo : State := withSet site0 2 .stopped
theorem redirectable_stopping : ∀ j : Fin 8, redirectable.sets[j].state = .stopping → j = 1 := by decide
theorem stoppedTwo_not_stopping : ∀ j : Fin 8, stoppedTwo.sets[j].state ≠ .stopping := by decide
/-- The spinning reserve half the required reserve and one kilowatt less; a timer at its length, and one count short of
it. -/
theorem witness_StartRuleStartsOneSetWhenShort : StartRuleRuns stoppedTwo
    ∧ IslandShort stoppedTwo (recordWith 100 200) ∧ ¬ IslandShort stoppedTwo (recordWith 200 200)
    ∧ (recordWith 99 200).sr < effectiveReserve stoppedTwo (recordWith 99 200) / 2
    ∧ ¬ (recordWith 100 200).sr < effectiveReserve stoppedTwo (recordWith 100 200) / 2
    ∧ ({ stoppedTwo with shortfall := some ⟨0, 1000⟩ } : State).clk - 0 = 1000
    ∧ ({ stoppedTwo with shortfall := some ⟨0, 1001⟩ } : State).clk - 0 < 1001
    ∧ LowestPriority stoppedTwo (SetIs stoppedTwo .stopped) 1 ∧ countSets stoppedTwo .starting < 2
    ∧ (∀ i, ¬ SetIs alone .stopped i) ∧ StartRuleRuns alone ∧ ¬ StartRuleRuns observing
    ∧ 0 < stoppedTwo.cfg.roster[1].rating := by decide
theorem witness_StartRuleStartsOneSetWhenShort_redirect : StartRuleRuns redirectable
    ∧ IslandShort redirectable (recordWith 0 200) ∧ LowestPriority redirectable (MayBeRedirected redirectable) 1
    ∧ ∀ i, ¬ MayBeRedirected stoppedTwo i :=
  ⟨by decide, by decide,
    ⟨⟨by decide, _, rfl, rfl⟩, fun j h hne => absurd (redirectable_stopping j h.1.2) hne⟩,
    fun i h => stoppedTwo_not_stopping i h.1.2⟩

/-- The noon interval with every minimum run ELAPSED. -/
def settledNoon : State := { noon with
  sets := noon.sets.map fun r => if r.state = .online then { r with minRun := .elapsed } else r }
/-- The same with little load: each set at 100 kW, no sun. -/
def quietNoon : State := { settledNoon with
  setSlots := #v[some ⟨.onBus, 100, 900⟩, some ⟨.onBus, 100, 900⟩, some ⟨.onBus, 100, 900⟩, none, none, none,
    none, none]
  pvSlots := #v[some ⟨0, 0, 900⟩, some ⟨0, 0, 900⟩, none, none] }
/-- The candidate is set 2; at noon there is no surplus for it (3.7.1), at little load there is. -/
theorem witness_StopRuleStopsTheCandidateWithASurplus : StopRuleRuns settledNoon settledNoon.computeRecord
    ∧ HighestPriority settledNoon (MayBeStopped settledNoon settledNoon.computeRecord) 2
    ∧ StopRuleRuns quietNoon quietNoon.computeRecord
    ∧ HighestPriority quietNoon (MayBeStopped quietNoon quietNoon.computeRecord) 2
 := by
  decide +kernel
theorem witness_StopRuleStopsTheCandidateWithASurplus_projection :
    ¬ HasSurplus settledNoon settledNoon.computeRecord 2 ∧ HasSurplus quietNoon quietNoon.computeRecord 2 := by
  refine ⟨fun h => absurd (show _ ≤ _ from h.2.1) (by decide +kernel), ?_, ?_, fun _ _ k _ _ => ?_⟩
  · decide +kernel
  · show _ ≤ _
    decide +kernel
  · show _ ≤ _
    revert k
    decide +kernel
theorem witness_StopRuleStopsTheCandidateWithASurplus_timer :
    ({ quietNoon with surplus := some ⟨0, 1000, 2⟩ } : State).clk - 0 = 1000
    ∧ ({ quietNoon with surplus := some ⟨0, 1001, 2⟩ } : State).clk - 0 < 1001
    ∧ (1 : Fin 8) ≠ 2 ∧ quietNoon.surplus = none
    ∧ StopRuleRuns noon noon.computeRecord ∧ (∀ c, ¬ MayBeStopped noon noon.computeRecord c)
    ∧ ¬ StopRuleRuns observing (recordWith 0 0) := by decide +kernel
theorem witness_ClearSetFaultRederivesFromTheSlot : Hears site0 sup ∧ FromSupervisor sup ∧ 8 ≤ (8 : Byte).toNat
    ∧ (3 : Fin 8).val = (3 : Byte).toNat ∧ site0.cfg.roster[3].rating = 0 ∧ 0 < site0.cfg.roster[0].rating
    ∧ site0.sets[0].state ≠ .failed ∧ (withSet site0 0 .failed).sets[0].state = .failed
    ∧ SequencerListens (withSet site0 0 .failed)
    ∧ SequencerListens (inPhase (withSet dark 0 .failed) .firstSet) := by decide
theorem witness_LanesAndBufferCarryTheFrames :
    sending.txBuffer = none ∧ sending.txQueue = .feederReport [[], []] 0 :: [.statusB 1 2 3]
    ∧ ({ sending with txQueue := [.statusB 1 2 3] } : State).txQueue = .statusB 1 2 3 :: []
    ∧ (Frame.statusB 1 2 3).key ≠ .feederReport ∧ site0.txQueue = []
    ∧ ({ sending with txBuffer := some ⟨.statusB 1 2 3, 0, .a, 0, 0⟩, laneWaiting := true } : State).txBuffer ≠ none
    ∧ sending.laneWaiting = false ∧ sending.pins.lane ≠ true ∧ sending.pins.cfglock ≠ true
    ∧ sending.power = .running ∧ heldLow.power ≠ .running := by decide
/-- A SET_REPORT and a Window Close with commit as they stand on the wire. -/
theorem witness_ReceivedFramesSpellTheirCommands : (Instr.setReport gen0 5 1000).wf = true
    ∧ (Instr.setReport gen0 5 1000).rx? = some gen0
    ∧ (Instr.setReport gen0 5 1000).frame? = some (0x08, [5, 0x03, 0xE8])
    ∧ (Instr.windowCloseCommit sup).wf = true ∧ (Instr.windowCloseCommit sup).rx? = some sup
    ∧ (Instr.windowCloseCommit sup).frame? = some (0x0A, [0x0F, 1])
    ∧ ([0, 0, 0, 0, 0, 0, 0, 0] : List Byte).length ≤ 8 ∧ site0.pending = [] := by decide
theorem witness_PvReportsFillSlotsAndBadFramesAreDiscarded : Hears site0 ⟨10, .a, 0x20⟩ ∧ 0 < site0.cfg.pv[0].rating
    ∧ site0.cfg.pv[0].address = (0x20 : BitVec 6).toNat
    ∧ (∀ j : Fin 4, 0 < site0.cfg.pv[j].rating → site0.cfg.pv[j].address = (0x20 : BitVec 6).toNat → j = 0) := by
  decide
theorem witness_PvReportsFillSlotsAndBadFramesAreDiscarded_discarded :
    (Instr.cycleReset ⟨10, .b, 1⟩).rx? = some ⟨10, .b, 1⟩ ∧ ¬ Hears site0 ⟨10, .b, 1⟩
    ∧ (Instr.setReport gen0 6 0).rx? = some gen0 ∧ 5 < (6 : Byte).toNat
    ∧ (Instr.cycleReset ⟨10, .a, 0x15⟩).code?.isSome = true ∧ ¬ FromSupervisor ⟨10, .a, 0x15⟩
    ∧ (∀ i : Fin 8, 0 < site0.cfg.roster[i].rating → site0.cfg.roster[i].address ≠ (0x15 : BitVec 6).toNat)
    ∧ (∀ p : Fin 4, 0 < site0.cfg.pv[p].rating → site0.cfg.pv[p].address ≠ (0x15 : BitVec 6).toNat) := by decide
theorem witness_EntryFramesAreStagedCountedOrAnswered :
    Hears windowed sup ∧ FromSupervisor sup ∧ windowed.window.isSome = true
    ∧ (windowed.window.map Window.owner) = some 1 ∧ (windowed.window.map fun w => w.staging.table.code) = some 1
    ∧ (0x41 : Byte).toNat / 64 = 1 ∧ (0x81 : Byte).toNat / 64 ≠ 1 ∧ [(1 : Byte), 2, 3].length = 3
    ∧ site0.window = none ∧ ¬ FromSupervisor gen0 := by decide
theorem witness_RefusedRequestsChangeOnlyTheReply :
    Hears site0 sup ∧ FromGenset site0 gen0 ∧ (Instr.shedStep gen0).code? = some 0x06
    ∧ (0x06 : BitVec 5) ∉ codesForGensets ∧ (Instr.softReset sup).refusedInBlackStart = true
    ∧ (inPhase dark .restore).mode = .blackstart ∧ (Instr.clearLock sup).code? = some 0x12
    ∧ (0x12 : BitVec 5) ∈ codesUnderLock ∧ (0x12 : BitVec 5) ∈ codesBusyInSave
    ∧ (Instr.saveSettings sup).code? = some 0x10 ∧ windowed.window ≠ none
    ∧ ({ site0 with cfg := { site with lockFlag := true }, cfglockLevel := true } : State).cfg.lockFlag = true := by
  decide
theorem witness_ResumeAndObserveMoveTheMode : Hears observing sup ∧ FromSupervisor sup ∧ observing.mode = .observe
    ∧ observing.seq.phase = .none ∧ observing.window = none ∧ (∃ i : Fin 8, 0 < observing.cfg.roster[i].rating)
    ∧ observing.meter.state ≠ .dead ∧ site0.mode = .dispatch ∧ windowed.window ≠ none
    ∧ (∀ i : Fin 8, ({ observing with cfg := .defaults } : State).cfg.roster[i].rating = 0) := by decide
/-- A dead island in OBSERVE, with a delay and without one. -/
theorem witness_ResumeAndObserveMoveTheMode_dead : Hears (darkObserving 1) sup ∧ (darkObserving 1).mode = .observe
    ∧ (darkObserving 1).seq.phase = .none ∧ (darkObserving 1).seq.trigger = none ∧ (darkObserving 1).window = none
    ∧ (darkObserving 1).cfg.params[AUTO_BS] = 1 ∧ BlackStartConditions (darkObserving 1)
    ∧ 0 < (darkObserving 1).cfg.params[BS_DELAY] ∧ (darkObserving 0).cfg.params[BS_DELAY] = 0
    ∧ BlackStartConditions (darkObserving 0) ∧ SomeFeederOpens (darkObserving 0) := by decide
theorem witness_ReadsAnswerAndChangeNothing :
    Hears site0 sup ∧ FromGenset site0 gen0 ∧ (27 : Fin 28).val = (27 : Byte).toNat
    ∧ site0.cfg.params[27] < 256 ∧ site0.paramPending[27] = none ∧ 28 ≤ (28 : Byte).toNat
    ∧ (0x07 : Byte).toNat / 64 = 0 ∧ (0x43 : Byte).toNat / 64 = 1 ∧ (0x8F : Byte).toNat / 64 = 2
    ∧ (0xC7 : Byte).toNat / 64 = 3 ∧ 8 ≤ (0x08 : Byte).toNat % 16 ∧ 4 ≤ (0x44 : Byte).toNat % 16
    ∧ CLP.val = (21 : Byte).toNat ∧ ({ site with params := site.params.set CLP 300 } : Settings).params[CLP] = 300
    ∧ paramRows[CLP].wide = false ∧ paramRows[CLP].hi = 300 := by decide

theorem witness_SoftAndCycleResetTakeTheirBlocks :
    Hears settling sup ∧ FromSupervisor sup ∧ settling.mode ≠ .blackstart ∧ settling.seq.phase = .none
    ∧ ¬ (settling.cfg.lockFlag = true ∧ settling.cfglockLevel = true) ∧ QueueHoldsShedFeeders settling := by decide
theorem witness_SetParameterStoresTheClampedValue : Hears site0 sup ∧ FromSupervisor sup
    ∧ ¬ (site0.cfg.lockFlag = true ∧ site0.cfglockLevel = true) ∧ site0.seq.phase = .none
    ∧ (site0.mode = .dispatch → site0.meter.state ≠ .dead) ∧ 28 ≤ (28 : Byte).toNat
    ∧ (27 : Fin 28).val = (27 : Byte).toNat ∧ paramRows[0].reflection = .nextInterval
    ∧ paramRows[27].reflection ≠ .nextInterval := by decide
/-- In FIRST_SET, in ADD_SETS, and in a PREPARE that goes on, after any value of MAX_ATTEMPTS; and in DISPATCH with an
AUTO_BS that is written OFF on a dead bus. -/
theorem witness_SetParameterStoresTheClampedValue_sequence :
    SequencerListens { deadBus with cfg := { deadBus.cfg with params := deadBus.cfg.params.set MAX_ATTEMPTS 4 } }
    ∧ SequencerListens { inPhase dark .addSets with cfg := { site with params := site.params.set MAX_ATTEMPTS 4 } }
    ∧ SequencerListens { lastOpening with cfg := { site with params := site.params.set MAX_ATTEMPTS 4 } }
    ∧ SequencerListens { darkObserving 1 with
        mode := .dispatch, cfg := { site with params := site.params.set AUTO_BS 0 } } :=
  ⟨by decide, by decide, by decide, by decide⟩
/-- A dead island in DISPATCH, with its trigger timer clear or running, and one whose conditions fail. -/
def darkDispatch (trigger : Option Nat) : State := { darkObserving 1 with
  mode := .dispatch, seq := { Sequencer.reset with trigger := trigger } }
/-- BS_DELAY is written 0 or 1 there, with AUTO_BS on. -/
theorem witness_SetParameterStoresTheClampedValue_dead : Hears (darkDispatch none) sup
    ∧ (darkDispatch none).mode = .dispatch ∧ (darkDispatch none).seq.phase = .none
    ∧ (darkDispatch none).cfg.params[AUTO_BS] = 1 ∧ BlackStartConditions (darkDispatch none)
    ∧ (darkDispatch none).seq.trigger = none ∧ (darkDispatch (some 5000)).seq.trigger ≠ none
    ∧ paramRows[BS_DELAY].reflection ≠ .nextInterval ∧ paramRows[BS_DELAY].lo = 0 ∧ SomeFeederOpens (darkDispatch none)
    ∧ ¬ BlackStartConditions { darkDispatch none with storeBad := true } := by decide
theorem witness_WindowsOpenAndDiscard : Hears observing sup ∧ FromSupervisor sup ∧ observing.mode ≠ .blackstart
    ∧ observing.window = none ∧ observing.save = none ∧ TableId.code .feeder = (2 : Byte).toNat
    ∧ (15 : Byte).toNat ≤ TableId.lastIndex .feeder ∧ TableId.lastIndex .feeder < (16 : Byte).toNat
    ∧ 4 ≤ (4 : Byte).toNat ∧ windowed.window.isSome = true ∧ FromSupervisor ⟨10, .a, 2⟩ ∧ 2 ≤ (2 : Byte).toNat := by decide
theorem witness_CommitReplacesTheLiveTable : Hears windowed sup ∧ FromSupervisor sup ∧ windowed.mode ≠ .blackstart
    ∧ windowed.window = some ⟨1, .pv site.pv, 0, 1, 1, 0, 5000⟩ ∧ sup.src.toNat = 1
    ∧ windowed.validate (.pv site.pv) = none
    ∧ windowed.validate (.pv (site.pv.set 1 ⟨0x20, 1500⟩)) = some (1, .duplicate)
    ∧ windowed.seq.phase = .none := by decide
/-- A roster commit in a state that keeps the promises its sequence clause asks for. -/
theorem witness_CommitReplacesTheLiveTable_roster : rosterWindow.validate (.roster (site.roster.set 1 .empty)) = none
    ∧ DirectivesFollowStates rosterWindow ∧ MarkIsCandidate rosterWindow
    ∧ (site.roster.set 1 .empty)[1].rating = 0 ∧ rosterWindow.cfg.roster[1].rating ≠ 0
    ∧ (rosterWindow.txQueue.filter (staysAtCommit rosterWindow (.roster (site.roster.set 1 .empty)))).map Frame.key
      = [.statusB, .pvCeiling 0]
    ∧ rosterWindow.cfg.roster[3].rating = 0 ∧ rosterWindow.sets[3].directive = .stop := by
  decide +kernel
theorem witness_SaveAndLockRequestsAct : Hears site0 sup ∧ FromSupervisor sup
    ∧ ¬ (site0.cfg.lockFlag = true ∧ site0.cfglockLevel = true) ∧ site0.window = none ∧ site0.save = none
    ∧ ({ site0 with save := some ⟨[1, 2], 1, 900⟩ } : State).save = some ⟨[1, 2], 1, 900⟩
    ∧ ({ site0 with cfglockLevel := true } : State).cfglockLevel = true := by decide

end Sys2Proof.Tests
end

section
/-! The Balance Record's running capacity and what is left of it (R20, R21, R24). -/

namespace Sys2Proof.Machine

variable (s : State)

/-- R20, R21: an online set enters the record with its whole rating and a stale mark, or with the clamped output of a
fresh report. -/
theorem State.setInput_cases (i : Fin 8) :
    s.setInput i = ⟨i, s.cfg.roster[i].rating, s.cfg.roster[i].rating, true⟩
    ∨ ∃ slot, s.setSlots[i] = some slot ∧ freshReport s.clk slot.arrived = true
        ∧ s.setInput i = ⟨i, s.cfg.roster[i].rating, min slot.output s.cfg.roster[i].rating, false⟩ := by
  unfold State.setInput
  cases s.setSlots[i] with
  | none => exact .inl rfl
  | some slot =>
    by_cases hfresh : freshReport s.clk slot.arrived = true
    · exact .inr ⟨slot, rfl, hfresh, if_pos hfresh⟩
    · exact .inl (if_neg hfresh)

theorem State.setInput_output_le_rating (i : Fin 8) : (s.setInput i).output ≤ (s.setInput i).rating := by
  obtain h | ⟨slot, -, -, h⟩ := s.setInput_cases i <;> rw [h]
  exact Nat.min_le_right _ _

theorem State.setInput_output_of_stale {i : Fin 8} (hstale : (s.setInput i).stale = true) :
    (s.setInput i).output = (s.setInput i).rating := by
  obtain h | ⟨slot, -, -, h⟩ := s.setInput_cases i <;> rw [h] at hstale ⊢
  cases hstale

@[simp] theorem State.computeRecord_sets : s.computeRecord.sets = s.onlineSets.map s.setInput := rfl
@[simp] theorem State.computeRecord_onlineCount : s.computeRecord.onlineCount = s.computeRecord.sets.length := rfl
@[simp] theorem State.computeRecord_cOn :
    s.computeRecord.cOn = (s.computeRecord.sets.map SetInput.rating).sum := rfl
@[simp] theorem State.computeRecord_d : s.computeRecord.d = (s.computeRecord.sets.map SetInput.output).sum := rfl
@[simp] theorem State.computeRecord_sr : s.computeRecord.sr = s.computeRecord.cOn - s.computeRecord.d := rfl

/-- Every set entry of a record is the input of a set. -/
theorem State.exists_setInput_of_mem_computeRecord_sets {e : SetInput} (he : e ∈ s.computeRecord.sets) :
    ∃ i, s.setInput i = e := by
  obtain ⟨i, -, hi⟩ := List.mem_map.mp he
  exact ⟨i, hi⟩

theorem State.output_le_rating_of_mem_computeRecord_sets {e : SetInput} (he : e ∈ s.computeRecord.sets) :
    e.output ≤ e.rating := by
  obtain ⟨i, rfl⟩ := s.exists_setInput_of_mem_computeRecord_sets he
  exact s.setInput_output_le_rating i

theorem State.output_of_stale_of_mem_computeRecord_sets {e : SetInput} (he : e ∈ s.computeRecord.sets)
    (hstale : e.stale = true) : e.output = e.rating := by
  obtain ⟨i, rfl⟩ := s.exists_setInput_of_mem_computeRecord_sets he
  exact s.setInput_output_of_stale hstale

/-- R24: D ≤ C_on, since each output in the sum is at most the rating beside it. -/
theorem State.computeRecord_d_le_cOn : s.computeRecord.d ≤ s.computeRecord.cOn :=
  List.sum_le_sum fun _ he => s.output_le_rating_of_mem_computeRecord_sets he

/-- With no set online the record sums over no entry. -/
theorem State.computeRecord_cOn_of_onlineCount_zero (hnone : s.computeRecord.onlineCount = 0) :
    s.computeRecord.cOn = 0 := by
  have hsets : s.computeRecord.sets = [] := List.length_eq_zero_iff.mp hnone
  rw [State.computeRecord_cOn, hsets]
  rfl

/-- Settles O22: D and SR are bounded by C_on, entry by entry, and C_on is 0 with no set online. -/
theorem spinningReserveIsUnusedCapacity : Obligations.SpinningReserveIsUnusedCapacity := by
  intro s
  refine ⟨s.computeRecord_d_le_cOn, s.computeRecord_sr, fun e he =>
    ⟨s.output_le_rating_of_mem_computeRecord_sets he, s.output_of_stale_of_mem_computeRecord_sets he⟩, fun hnone => ?_⟩
  have hcap : s.computeRecord.cOn = 0 := s.computeRecord_cOn_of_onlineCount_zero hnone
  have hout : s.computeRecord.d = 0 := Nat.le_zero.mp (hcap ▸ s.computeRecord_d_le_cOn)
  exact ⟨hcap, hout, by rw [State.computeRecord_sr, hcap, hout]⟩

end Sys2Proof.Machine
end

section
/-! Distribution of the aggregate ceiling among the plants (R74): the arithmetic of shares and of a remainder handed out
in order, then the allotments of a publication. -/

namespace Sys2Proof

theorem sumOver_eq_sum {n : Nat} (p : Fin n → Bool) (f : Fin n → Nat) :
    sumOver p f = ∑ i, if p i = true then f i else 0 := by
  simp [sumOver, indices, Fin.sum_univ_def, List.sum_map_ite]

theorem sumOver_add {n : Nat} (p : Fin n → Bool) (f g : Fin n → Nat) :
    sumOver p (fun i => f i + g i) = sumOver p f + sumOver p g :=
  List.sum_map_add

theorem sumOver_congr {n : Nat} {p : Fin n → Bool} {f g : Fin n → Nat} (h : ∀ i, p i = true → f i = g i) :
    sumOver p f = sumOver p g :=
  congrArg List.sum (List.map_congr_left fun i hi => h i (List.mem_filter.mp hi).2)

/-- Any selection of the indices stands in ascending order. -/
theorem pairwise_lt_filter_indices {n : Nat} (p : Fin n → Bool) : ((indices n).filter p).Pairwise (· < ·) :=
  (List.pairwise_lt_finRange n).filter p

/-! ## Proportional shares rounded down -/

section Shares

variable {n : Nat} (f : Fin n → Nat) (u a : Nat)

theorem sum_shares_mul_le (l : List (Fin n)) :
    (l.map fun k => u * f k / a).sum * a ≤ u * (l.map f).sum := by
  induction l with
  | nil => simp
  | cons k ks ih =>
    have hk : u * f k / a * a ≤ u * f k := Nat.div_mul_le_self _ _
    simp only [List.map_cons, List.sum_cons, add_mul, mul_add]
    omega

/-- Each entry above 0 loses less than one unit to the rounding, an entry of 0 loses nothing. -/
theorem mul_sum_le_sum_shares (ha : 0 < a) (l : List (Fin n)) :
    u * (l.map f).sum ≤ a * ((l.map fun k => u * f k / a).sum + l.countP fun k => decide (0 < f k)) := by
  induction l with
  | nil => simp
  | cons k ks ih =>
    have hk : u * f k ≤ a * (u * f k / a + if 0 < f k then 1 else 0) := by
      split
      · exact (Nat.lt_mul_div_succ _ ha).le
      · next hzero => simp [Nat.eq_zero_of_not_pos hzero]
    simp only [List.map_cons, List.sum_cons, List.countP_cons, decide_eq_true_eq, mul_add] at ih hk ⊢
    omega

end Shares

/-! ## A remainder handed out one by one -/

section Grants

variable {n : Nat} (c : Fin n → Prop) [DecidablePred c]

/-- How many entries of `l` that meet `c` come before `p`. -/
def countBefore (l : List (Fin n)) (p : Fin n) : Nat := (l.filter fun k => decide (c k ∧ k < p)).length

/-- What `p` gets of `r` units handed out, one each, to the first entries of `l` that meet `c`. -/
def grant (l : List (Fin n)) (r : Nat) (p : Fin n) : Nat := if c p ∧ countBefore c l p < r then 1 else 0

theorem countBefore_eq_countP (l : List (Fin n)) (p : Fin n) :
    countBefore c l p = l.countP fun k => decide (c k ∧ k < p) :=
  List.countP_eq_length_filter.symm

theorem countBefore_cons_of_lt {k p : Fin n} (h : k < p) (l : List (Fin n)) :
    countBefore c (k :: l) p = countBefore c l p + if c k then 1 else 0 := by
  simp [countBefore_eq_countP, List.countP_cons, h]

theorem countBefore_cons_self {k : Fin n} {l : List (Fin n)} (h : ∀ p ∈ l, k < p) : countBefore c (k :: l) k = 0 := by
  simp only [countBefore_eq_countP, List.countP_eq_zero, List.forall_mem_cons, decide_eq_true_eq]
  exact ⟨fun hk => lt_irrefl k hk.2, fun p hp hc => lt_asymm hc.2 (h p hp)⟩

theorem countBefore_mono {p q : Fin n} (h : p ≤ q) (l : List (Fin n)) : countBefore c l p ≤ countBefore c l q := by
  simp only [countBefore_eq_countP]
  refine List.countP_mono_left fun k _ hk => ?_
  simp only [decide_eq_true_eq] at hk ⊢
  exact ⟨hk.1, hk.2.trans_le h⟩

theorem grant_le_one (l : List (Fin n)) (r : Nat) (p : Fin n) : grant c l r p ≤ 1 := by
  unfold grant
  split <;> omega

theorem grant_of_not {p : Fin n} (h : ¬ c p) (l : List (Fin n)) (r : Nat) : grant c l r p = 0 :=
  if_neg fun hp => h hp.1

/-- An entry that meets `c` is served before every later one. -/
theorem grant_eq_one_of_lt {p q : Fin n} (hlt : p < q) (hp : c p) {l : List (Fin n)} {r : Nat}
    (hq : grant c l r q = 1) : grant c l r p = 1 := by
  have hserved : countBefore c l q < r := by
    by_contra hnot
    rw [grant, if_neg fun h => hnot h.2] at hq
    cases hq
  exact if_pos ⟨hp, (countBefore_mono c hlt.le l).trans_lt hserved⟩

/-- The grants along an ascending list add up to the units handed out, when enough entries meet `c`: the first entry
takes one when it meets `c`, and the entries after it share the rest as if they stood alone. -/
theorem sum_grant {l : List (Fin n)} (hl : l.Pairwise (· < ·)) {r : Nat}
    (hr : r ≤ l.countP fun k => decide (c k)) : (l.map (grant c l r)).sum = r := by
  induction l generalizing r with
  | nil => simpa [eq_comm] using hr
  | cons k ks ih =>
    obtain ⟨hfirst, hks⟩ := List.pairwise_cons.mp hl
    have hhead : grant c (k :: ks) r k = min (if c k then 1 else 0) r := by
      rw [grant, countBefore_cons_self c hfirst]
      by_cases hk : c k
      · simp only [hk, true_and, if_true]
        split <;> omega
      · simp [hk]
    have htail : ∀ p ∈ ks, grant c (k :: ks) r p = grant c ks (r - if c k then 1 else 0) p := fun p hp => by
      simp only [grant, countBefore_cons_of_lt c (hfirst p hp), Nat.lt_sub_iff_add_lt]
    simp only [List.countP_cons, decide_eq_true_eq] at hr
    rw [List.map_cons, List.sum_cons, hhead, List.map_congr_left htail, ih hks (by omega)]
    omega

end Grants

end Sys2Proof

namespace Sys2Proof.Machine

variable (s : State)

/-! ## The plants of the record (R22) -/

@[simp] theorem State.plantInput_index (p : Fin 4) : (s.plantInput p).index = p := by
  unfold State.plantInput
  cases s.pvSlots[p] with
  | none => rfl
  | some slot => dsimp only; split <;> rfl

theorem State.plantInput_available_le_rating (p : Fin 4) : (s.plantInput p).available ≤ s.cfg.pv[p].rating := by
  unfold State.plantInput
  cases s.pvSlots[p] with
  | none => exact Nat.min_le_right _ _
  | some slot =>
    dsimp only
    split
    · exact max_le (Nat.min_le_right _ _) (Nat.min_le_right _ _)
    · exact Nat.min_le_right _ _

theorem State.plantConfigured_iff (p : Fin 4) : s.plantConfigured p = true ↔ 0 < s.cfg.pv[p].rating :=
  decide_eq_true_iff

theorem State.mem_configuredPlants {p : Fin 4} : p ∈ s.configuredPlants ↔ s.plantConfigured p = true := by
  simp [State.configuredPlants]

/-- Looking an index up in the record finds its one entry. -/
theorem State.computeRecord_available {p : Fin 4} (hp : s.plantConfigured p = true) :
    s.computeRecord.available p = (s.plantInput p).available := by
  have hmem : s.plantInput p ∈ s.computeRecord.plants := List.mem_map_of_mem (s.mem_configuredPlants.mpr hp)
  obtain ⟨e, hfind⟩ := Option.isSome_iff_exists.mp (List.find?_isSome (p := fun e => decide (e.index = p))
    |>.mpr ⟨_, hmem, decide_eq_true (s.plantInput_index p)⟩)
  obtain ⟨k, -, rfl⟩ := List.mem_map.mp (List.mem_of_find?_eq_some hfind)
  have hk : k = p := (s.plantInput_index k).symm.trans (of_decide_eq_true (List.find?_some hfind :))
  rw [BalanceRecord.available, hfind, hk]

/-- The entry of a record's plant: its index is configured and its available power is the one the index looks up. -/
theorem State.plant_of_mem_computeRecord_plants {x : PlantInput} (hx : x ∈ s.computeRecord.plants) :
    s.plantConfigured x.index = true ∧ x.available = s.computeRecord.available x.index := by
  obtain ⟨p, hp, rfl⟩ := List.mem_map.mp hx
  have hconf : s.plantConfigured p = true := s.mem_configuredPlants.mp hp
  rw [s.plantInput_index, s.computeRecord_available hconf]
  exact ⟨hconf, rfl⟩

/-- R23: A is the sum of the available powers by index. -/
theorem State.computeRecord_a : s.computeRecord.a = (s.configuredPlants.map s.computeRecord.available).sum := by
  rw [List.map_congr_left fun p hp => s.computeRecord_available (s.mem_configuredPlants.mp hp)]
  exact congrArg List.sum (List.map_map ..)

theorem State.computeRecord_available_le_rating {p : Fin 4} (hp : s.plantConfigured p = true) :
    s.computeRecord.available p ≤ s.cfg.pv[p].rating :=
  s.computeRecord_available hp ▸ s.plantInput_available_le_rating p

/-! ## Allotments of the record (R74) -/

/-- What the shares of `u` leave over (R74). -/
def State.remainder (rec : BalanceRecord) (u : Nat) : Nat := u - sumOver s.plantConfigured (rec.share u)

/-- What a plant gets of the remainder (R74). -/
def State.extra (rec : BalanceRecord) (u : Nat) (p : Fin 4) : Nat :=
  grant (0 < rec.available ·) s.configuredPlants (s.remainder rec u) p

theorem State.extra_of_available_zero {rec : BalanceRecord} {p : Fin 4} (h : rec.available p = 0) (u : Nat) :
    s.extra rec u p = 0 :=
  grant_of_not (0 < rec.available ·) h.not_gt _ _

theorem State.allot_of_le {rec : BalanceRecord} {u : Nat} (h : rec.a ≤ u) (p : Fin 4) :
    s.allot rec u p = s.cfg.pv[p].rating :=
  if_pos h

theorem State.allot_of_lt {rec : BalanceRecord} {u : Nat} (h : u < rec.a) (p : Fin 4) :
    s.allot rec u p = min s.cfg.pv[p].rating (rec.share u p + s.extra rec u p) :=
  if_neg h.not_ge

theorem State.share_add_extra_le_rating {u : Nat} (h : u < s.computeRecord.a) {p : Fin 4}
    (hp : s.plantConfigured p = true) :
    s.computeRecord.share u p + s.extra s.computeRecord u p ≤ s.cfg.pv[p].rating := by
  have hrating := s.computeRecord_available_le_rating hp
  by_cases hpos : 0 < s.computeRecord.available p
  · have hshare : s.computeRecord.share u p < s.computeRecord.available p :=
      Nat.div_lt_of_lt_mul (Nat.mul_lt_mul_of_pos_right h hpos)
    have hextra : s.extra s.computeRecord u p ≤ 1 := grant_le_one ..
    omega
  · have hzero := Nat.eq_zero_of_not_pos hpos
    simp [s.extra_of_available_zero hzero, BalanceRecord.share, hzero]

/-- R74: the clamp to the rating does not act below A. -/
theorem State.allot_eq_share_add_extra {u : Nat} (h : u < s.computeRecord.a) {p : Fin 4}
    (hp : s.plantConfigured p = true) :
    s.allot s.computeRecord u p = s.computeRecord.share u p + s.extra s.computeRecord u p := by
  rw [s.allot_of_lt h, min_eq_right (s.share_add_extra_le_rating h hp)]

theorem State.sumOver_share_le {u : Nat} (h : u < s.computeRecord.a) :
    sumOver s.plantConfigured (s.computeRecord.share u) ≤ u := by
  have hmul := sum_shares_mul_le s.computeRecord.available u s.computeRecord.a s.configuredPlants
  rw [← s.computeRecord_a] at hmul
  exact Nat.le_of_mul_le_mul_right hmul (Nat.zero_lt_of_lt h)

/-- R74: there is a plant with something available for every kilowatt of the remainder. -/
theorem State.remainder_le_countP {u : Nat} (h : u < s.computeRecord.a) :
    s.remainder s.computeRecord u ≤ s.configuredPlants.countP fun p => decide (0 < s.computeRecord.available p) := by
  have ha : 0 < s.computeRecord.a := Nat.zero_lt_of_lt h
  have hmul := mul_sum_le_sum_shares s.computeRecord.available u s.computeRecord.a ha s.configuredPlants
  rw [← s.computeRecord_a, Nat.mul_comm] at hmul
  exact Nat.sub_le_iff_le_add'.mpr (Nat.le_of_mul_le_mul_left hmul ha)

theorem State.sumOver_extra {u : Nat} (h : u < s.computeRecord.a) :
    sumOver s.plantConfigured (s.extra s.computeRecord u) = s.remainder s.computeRecord u :=
  sum_grant _ (pairwise_lt_filter_indices _) (s.remainder_le_countP h)

/-- R74: below A the allotments sum to U exactly. -/
theorem State.sumOver_allot {u : Nat} (h : u < s.computeRecord.a) :
    sumOver s.plantConfigured (s.allot s.computeRecord u) = u := by
  rw [sumOver_congr fun p hp => s.allot_eq_share_add_extra h hp, sumOver_add, s.sumOver_extra h]
  exact Nat.add_sub_of_le (s.sumOver_share_le h)

/-! ## The plant records of a computing publication -/

theorem State.setAllotments_plants (f : Fin 4 → Nat) {p : Fin 4} (hp : s.plantConfigured p = true) :
    (s.setAllotments f).plants[p] = { s.plants[p] with allotment := f p, allotCause := .balance } := by
  simp [State.setAllotments, hp]

/-- Forming the sent ceilings leaves every allotment and its cause (R77). -/
theorem State.formCeilings_allotment (p : Fin 4) :
    s.formCeilings.plants[p].allotment = s.plants[p].allotment
    ∧ s.formCeilings.plants[p].allotCause = s.plants[p].allotCause := by
  by_cases hp : s.plantConfigured p = true <;> simp [State.formCeilings, hp, PlantRec.form]

theorem State.setAllotments_formCeilings_allotment (f : Fin 4 → Nat) {p : Fin 4} (hp : s.plantConfigured p = true) :
    (s.setAllotments f).formCeilings.plants[p].allotment = f p
    ∧ (s.setAllotments f).formCeilings.plants[p].allotCause = .balance := by
  obtain ⟨hallot, hcause⟩ := (s.setAllotments f).formCeilings_allotment p
  rw [hallot, hcause, s.setAllotments_plants f hp]
  exact ⟨rfl, rfl⟩

theorem State.computeCeilings_allotment (rec : BalanceRecord) {p : Fin 4} (hp : s.plantConfigured p = true) :
    (s.computeCeilings rec).plants[p].allotment = s.allot rec (s.computeCeilings rec).aggU p
    ∧ (s.computeCeilings rec).plants[p].allotCause = .balance :=
  State.setAllotments_formCeilings_allotment _ _ hp

/-- R74: below A a plant of the record is allotted the floor of its share and its part of the remainder. -/
theorem State.computeCeilings_allotment_of_mem {x : PlantInput} (hx : x ∈ s.computeRecord.plants)
    (hlt : (s.computeCeilings s.computeRecord).aggU < s.computeRecord.a) :
    (s.computeCeilings s.computeRecord).plants[x.index].allotment =
      (s.computeCeilings s.computeRecord).aggU * x.available / s.computeRecord.a
        + s.extra s.computeRecord (s.computeCeilings s.computeRecord).aggU x.index := by
  obtain ⟨hconf, havail⟩ := s.plant_of_mem_computeRecord_plants hx
  rw [(s.computeCeilings_allotment _ hconf).1, s.allot_eq_share_add_extra hlt hconf, havail]
  rfl

/-- Settles O24: the shares rounded down leave a remainder that the grants hand out to the last kilowatt, and the clamp
does not act. -/
theorem allotmentsShareTheCeiling : Obligations.AllotmentsShareTheCeiling := by
  intro s r t
  refine ⟨fun hge p hp => ?_, fun hlt => ⟨?_, fun x hx => ?_, fun x hx y hy hxy hpos hy1 => ?_⟩⟩
  · obtain ⟨hallot, hcause⟩ := s.computeCeilings_allotment r ((s.plantConfigured_iff p).mpr hp)
    exact ⟨hallot.trans (s.allot_of_le hge p), hcause⟩
  · have hsum : sumOver s.plantConfigured (fun p => t.plants[p].allotment) = t.aggU :=
      (sumOver_congr fun p hp => (s.computeCeilings_allotment r hp).1).trans (s.sumOver_allot hlt)
    simpa only [sumOver_eq_sum, s.plantConfigured_iff] using hsum
  · obtain ⟨hconf, havail⟩ := s.plant_of_mem_computeRecord_plants hx
    have hallot := s.computeCeilings_allotment_of_mem hx hlt
    have hextra : s.extra r t.aggU x.index ≤ 1 := grant_le_one ..
    refine ⟨(s.computeCeilings_allotment r hconf).2, ?_, fun hzero => ?_, hallot.ge.trans' (Nat.le_add_right ..),
      hallot.le.trans (Nat.add_le_add_left hextra _)⟩
    · rw [(s.computeCeilings_allotment r hconf).1, s.allot_of_lt hlt]
      exact Nat.min_le_left _ _
    · rw [hallot, s.extra_of_available_zero (havail.symm.trans hzero), hzero, Nat.mul_zero, Nat.zero_div]
  · obtain ⟨-, havail⟩ := s.plant_of_mem_computeRecord_plants hx
    have hserved : s.extra r t.aggU y.index = 1 :=
      Nat.add_left_cancel ((s.computeCeilings_allotment_of_mem hy hlt).symm.trans hy1)
    have hearlier : s.extra r t.aggU x.index = 1 := grant_eq_one_of_lt _ hxy (havail ▸ hpos) hserved
    exact (s.computeCeilings_allotment_of_mem hx hlt).trans (congrArg _ hearlier)

end Sys2Proof.Machine
end

section
/-! FEED follows the feeder state (R90). Every operation of the running device keeps `State.FeedDriven`: a feeder record
changes only by an entry into a state, which drives FEED from that state. Outside running no operation acts, and the
resets put every feeder record at its released power-on value. -/

namespace Sys2Proof.Machine

/-- R90 in the running device: each FEED line is driven from its feeder's state. -/
def State.FeedDriven (s : State) : Prop :=
  s.power = .running ∧ ∀ i : Fin 16, s.feeders[i].feed = s.feeders[i].state.feedAsserted

theorem feed_eq_feedAsserted_iff (r : FeederRec) :
    r.feed = r.state.feedAsserted ↔
      (r.feed = true ↔
        r.state = .opening ∨ r.state = .openShed ∨ r.state = .openHeld ∨ r.state = .stuckClosed) := by
  rw [Bool.eq_iff_iff, feedAsserted_iff]

/-- In the running device `State.FeedDriven` is the promise of R90. -/
theorem feedDriven_iff_feedFollowsState {s : State} (hrun : s.power = .running) :
    s.FeedDriven ↔ FeedFollowsState s := by
  simp only [State.FeedDriven, FeedFollowsState, feed_eq_feedAsserted_iff, hrun, true_and, ne_eq, not_true_eq_false,
    false_implies, and_true]

/-- R115, R117: a feeder found from its entry and its line is in a state with FEED released. -/
theorem foundFeeder_feed (enabled level : Bool) :
    (foundFeeder enabled level).feed = (foundFeeder enabled level).state.feedAsserted := by
  cases enabled <;> cases level <;> rfl

/-- R37: a report moves the one set it names, or nothing. -/
theorem reportEvent_cases (s : State) (i : Fin 8) (c : ControllerState) :
    s.reportEvent i c = s ∨ ∃ f, s.reportEvent i c = s.updateSet i f := by
  unfold State.reportEvent
  split
  -- ON_BUS and TRIPPED in STARTING turn on the dead-bus mark
  case h_9 => exact (ite_eq_or_eq _ _ _).imp_right fun h => ⟨_, h⟩
  case h_10 => exact .inr ((ite_eq_or_eq _ _ _).elim (fun h => ⟨_, h⟩) fun h => ⟨_, h⟩)
  case h_24 => exact .inl rfl
  all_goals exact .inr ⟨_, rfl⟩

namespace State.FeedDriven

/-! A change of other fields than the power state and the feeder records keeps `FeedDriven` by definition: `h` is then
the proof, written `by exact h` where the state it is asked for has to be known first. -/

variable {s : State}

theorem follows (h : s.FeedDriven) : FeedFollowsState s := (feedDriven_iff_feedFollowsState h.1).mp h

/-- A choice between two states that drive FEED. -/
theorem ite {c : Prop} [Decidable c] {a b : State} (ha : a.FeedDriven) (hb : b.FeedDriven) :
    (if c then a else b).FeedDriven := by
  split <;> assumption

/-- A fold of steps that keep FEED driven keeps it driven. -/
theorem foldl {α : Type} {f : State → α → State} (hf : ∀ t a, t.FeedDriven → (f t a).FeedDriven) (l : List α)
    (h : s.FeedDriven) : (l.foldl f s).FeedDriven :=
  List.foldlRecOn l f h fun t ht a _ => hf t a ht

theorem answer (h : s.FeedDriven) {rx : Rx} {code : BitVec 5} {result : Result} {data : List Byte} :
    (s.answer rx code result data).FeedDriven := h

theorem queueReport (h : s.FeedDriven) : s.queueReport.FeedDriven := h

theorem refreshAlert (h : s.FeedDriven) : s.refreshAlert.FeedDriven := h

/-! ## Commitment Unit: no feeder record moves -/

theorem redirect (h : s.FeedDriven) (i : Fin 8) : (s.redirect i).FeedDriven := by
  obtain heq | ⟨-, -, heq⟩ := redirect_cases s i <;> rw [heq] <;> exact h

theorem updateSet (h : s.FeedDriven) (i : Fin 8) (f : SetRec → SetRec) : (s.updateSet i f).FeedDriven :=
  .redirect (by exact h) i

theorem redirectAll (h : s.FeedDriven) : s.redirectAll.FeedDriven := .foldl (fun _ i ht => ht.redirect i) _ h

theorem clearMark (h : s.FeedDriven) (i : Fin 8) : (s.clearMark i).FeedDriven :=
  have hunmarked := h.updateSet i SetRec.unmark
  .ite (.ite (hunmarked.updateSet i _) hunmarked) h

theorem clearMarks (h : s.FeedDriven) : s.clearMarks.FeedDriven := .foldl (fun _ i ht => ht.clearMark i) _ h

theorem stopOne (h : s.FeedDriven) (i : Fin 8) : (s.stopOne i).FeedDriven := by
  unfold State.stopOne
  split
  case h_1 | h_2 => exact h.updateSet i _
  all_goals exact h

theorem stopAll (h : s.FeedDriven) : s.stopAll.FeedDriven := .foldl (fun _ i ht => ht.stopOne i) _ h

theorem reportEvent (h : s.FeedDriven) (i : Fin 8) (c : ControllerState) : (s.reportEvent i c).FeedDriven := by
  obtain heq | ⟨f, heq⟩ := reportEvent_cases s i c <;> rw [heq]
  · exact h
  · exact h.updateSet i f

theorem takeSetReport (h : s.FeedDriven) (i : Fin 8) (c : ControllerState) (output : Nat) :
    (s.takeSetReport i c output).FeedDriven := .reportEvent (by exact h) i c

theorem lostExpiry (h : s.FeedDriven) (i : Fin 8) : (s.lostExpiry i).FeedDriven := by
  unfold State.lostExpiry
  simp only
  split
  case h_1 | h_7 | h_8 => exact h -- ONLINE, FAILED and UNAVAILABLE keep their state
  all_goals exact .updateSet (by exact h) i _

theorem makeStart (h : s.FeedDriven) {t : State} (ht : s.makeStart = some t) : t.FeedDriven := by
  unfold State.makeStart at ht
  split at ht
  · obtain rfl := Option.some.inj ht
    exact .updateSet (by exact h) _ _
  · split at ht
    · obtain rfl := Option.some.inj ht
      exact .updateSet (by exact h) _ _
    · cases ht

theorem startRule (h : s.FeedDriven) (rec : BalanceRecord) : (s.startRule rec).1.FeedDriven := by
  unfold State.startRule
  simp only
  split
  · split
    · split
      next heq => exact makeStart h heq
      next => exact h
    · exact h
  · exact h

theorem stopRule (h : s.FeedDriven) (rec : BalanceRecord) : (s.stopRule rec).FeedDriven := by
  unfold State.stopRule
  split
  · exact h
  · refine .ite ?_ h
    split
    · exact .ite (.ite (.updateSet (by exact h) _ _) h) h
    · exact h

theorem commitmentTask (h : s.FeedDriven) (rec : BalanceRecord) : (s.commitmentTask rec).FeedDriven := by
  unfold State.commitmentTask
  have hstart : (if s.startRuns then s.startRule rec else ({ s with shortfall := none }, false)).1.FeedDriven := by
    split
    · exact h.startRule rec
    · exact h
  exact .foldl (fun _ _ ht => by exact ht) _ (.ite (.stopRule hstart rec) hstart)

/-! ## Curtailment Unit: no feeder record moves -/

theorem sendCeilings (h : s.FeedDriven) : s.sendCeilings.FeedDriven := .foldl (fun _ _ ht => by exact ht) _ h

theorem lowerCeiling (h : s.FeedDriven) (p : Fin 4) : (s.lowerCeiling p).FeedDriven := by
  unfold State.lowerCeiling
  simp only
  split
  · exact .ite (.ite h h) h
  · exact h

theorem curtailmentMeter (h : s.FeedDriven) (ev : MeterEvent) : (s.curtailmentMeter ev).FeedDriven := by
  unfold State.curtailmentMeter
  split
  · exact .foldl (fun _ p ht => ht.lowerCeiling p) _ h
  · exact h

theorem forceZero (h : s.FeedDriven) : s.forceZero.FeedDriven := .foldl (fun _ _ ht => by exact ht) _ h

theorem computeCeilings (h : s.FeedDriven) (rec : BalanceRecord) : (s.computeCeilings rec).FeedDriven := h

theorem setPvReached (h : s.FeedDriven) (b : Bool) : ({ s with pvReached := b } : State).FeedDriven := h

theorem curtailmentWork (h : s.FeedDriven) (rec : BalanceRecord) : (s.curtailmentWork rec).FeedDriven := by
  unfold State.curtailmentWork
  have hcomputed := (h.computeCeilings rec).sendCeilings
  split
  · exact hcomputed
  · exact .sendCeilings h
  · exact .ite (hcomputed.setPvReached _) h.sendCeilings

/-! ## Restoration Unit: notices move no feeder record -/

theorem handStageAction (h : s.FeedDriven) : s.handStageAction.FeedDriven := h

theorem softResetRestoration (h : s.FeedDriven) : s.softResetRestoration.FeedDriven := h

theorem closingEnded (h : s.FeedDriven) : s.closingEnded.FeedDriven := .ite h h

/-! ## Shed Ladder: a record changes by an entry, which drives FEED from the state entered -/

theorem putFeeder (h : s.FeedDriven) (i : Fin 16) {r : FeederRec} (hr : r.feed = r.state.feedAsserted) :
    (s.putFeeder i r).FeedDriven := by
  refine ⟨h.1, fun j => ?_⟩
  by_cases hij : i = j
  · subst hij
    simpa using hr
  · simpa [Fin.val_ne_of_ne hij] using h.2 j

theorem moveFeeder (h : s.FeedDriven) (i : Fin 16) (st : FeederState) : (s.moveFeeder i st).FeedDriven :=
  h.putFeeder i rfl

theorem shedFeeder (h : s.FeedDriven) (i : Fin 16) (cause : FeederCause) : (s.shedFeeder i cause).FeedDriven :=
  h.putFeeder i rfl

theorem tripFeeder (h : s.FeedDriven) (i : Fin 16) (cause : FeederCause) (origin : Option Reach) :
    (s.tripFeeder i cause origin).FeedDriven := h.putFeeder i rfl

theorem breakerEvent (h : s.FeedDriven) (i : Fin 16) (level : Bool) : (s.breakerEvent i level).FeedDriven := by
  unfold State.breakerEvent
  split
  case h_6 => exact .closingEnded (h.moveFeeder i .closed) -- CLOSING has closed: the closed notice
  case h_9 => exact h -- no row of R91
  all_goals exact h.moveFeeder i _

theorem closeFeeder (h : s.FeedDriven) (i : Fin 16) : (s.closeFeeder i).FeedDriven :=
  .ite (h.moveFeeder i .closing) (h.moveFeeder i .closing)

theorem restorationClose (h : s.FeedDriven) (i : Fin 16) : (s.restorationClose i).FeedDriven :=
  .ite (h.closeFeeder i) h

theorem setExhausted (h : s.FeedDriven) (b : Bool) : ({ s with exhausted := b } : State).FeedDriven := h

theorem walk (h : s.FeedDriven) (reach : Reach) (causes : List FeederCause) : (s.walk reach causes).FeedDriven :=
  .foldl (fun _ x ht => ht.tripFeeder x.1 x.2 (some reach)) _ h

theorem shedOne (h : s.FeedDriven) (cause : FeederCause) : (s.shedOne cause).FeedDriven :=
  (h.walk .shallow [cause]).setExhausted _

theorem substitute (h : s.FeedDriven) (reach : Reach) (cause : FeederCause) :
    (s.substitute reach cause).FeedDriven := (h.walk reach [cause]).setExhausted _

theorem revert (h : s.FeedDriven) (i : Fin 16) (cause : FeederCause) : (s.revert i cause).FeedDriven :=
  .closingEnded (h.shedFeeder i cause)

theorem combinedAction (h : s.FeedDriven) (firing : List (Fin 8)) : (s.combinedAction firing).FeedDriven := by
  cases firing with
  | nil => exact h
  | cons lowest rest =>
    have hreverted (l : List (Fin 16)) := foldl (fun _ i ht => ht.revert i (.stage lowest)) l h
    exact handStageAction (setExhausted (((hreverted _).walk .shallow _).walk .deep _) _)

theorem clearExhaustedIfIdle (h : s.FeedDriven) (returned : Bool) : (s.clearExhaustedIfIdle returned).FeedDriven :=
  .ite h h

theorem evaluateStages (h : s.FeedDriven) (f : Nat) (time : Count) (rocof : Option Int) :
    (s.evaluateStages f time rocof).FeedDriven :=
  .combinedAction (.clearExhaustedIfIdle (.ite (by exact h) (by exact h)) _) _

theorem ladderMeter (h : s.FeedDriven) (ev : MeterEvent) : (s.ladderMeter ev).FeedDriven := by
  unfold State.ladderMeter
  simp only
  split
  · exact .evaluateStages (by exact h) _ _ _
  · exact .clearExhaustedIfIdle (by exact h) _

theorem setReserveShed (h : s.FeedDriven) (timer : Option SpanTimer) :
    ({ s with reserveShed := timer } : State).FeedDriven := h

theorem reserveShedStep (h : s.FeedDriven) (rec : BalanceRecord) : (s.reserveShedStep rec).FeedDriven := by
  unfold State.reserveShedStep
  refine .ite ?_ h
  split
  · exact h
  · exact .ite ((h.shedOne .reserve).setReserveShed _) h

theorem countReport (h : s.FeedDriven) : s.countReport.FeedDriven := .ite (queueReport h) h

theorem ladderTask (h : s.FeedDriven) (rec : BalanceRecord) : (s.ladderTask rec).FeedDriven :=
  (h.reserveShedStep rec).countReport

theorem openByRequest (h : s.FeedDriven) (i : Fin 16) : (s.openByRequest i).FeedDriven := by
  unfold State.openByRequest
  split
  case h_1 => exact h.tripFeeder i _ _
  case h_2 => exact h.revert i _
  case h_3 => exact h.shedFeeder i _
  all_goals exact h

theorem openForBlackStart (h : s.FeedDriven) (i : Fin 16) : (s.openForBlackStart i).FeedDriven := by
  unfold State.openForBlackStart
  split
  case h_1 => exact h.tripFeeder i _ _
  case h_2 => exact h.revert i _
  case h_3 | h_4 => exact h.shedFeeder i _
  all_goals exact h

theorem openAll (h : s.FeedDriven) : s.openAll.FeedDriven := .foldl (fun _ i ht => ht.openForBlackStart i) _ h

theorem rederiveFeeder (h : s.FeedDriven) (i : Fin 16) : (s.rederiveFeeder i).FeedDriven := by
  unfold State.rederiveFeeder
  split
  case h_5 => exact h -- not stuck
  all_goals exact h.moveFeeder i _

theorem breakerExpiry (h : s.FeedDriven) (i : Fin 16) : (s.breakerExpiry i).FeedDriven := by
  unfold State.breakerExpiry
  simp only
  split
  case h_1 =>
    have hstuck := h.moveFeeder i .stuckClosed
    split
    · exact .ite hstuck (hstuck.substitute _ _)
    · exact hstuck
  case h_2 => exact .closingEnded (h.moveFeeder i .stuckOpen)
  all_goals exact h

theorem holdOpen (h : s.FeedDriven) (i : Fin 16) : (s.holdOpen i).FeedDriven := .ite (h.moveFeeder i .openHeld) h

theorem ladderReset (h : s.FeedDriven) : ({ s with
    stages := .replicate 8 .idle, exhausted := false, reserveShed := none, reportCount := 0 } : State).FeedDriven := h

theorem softResetLadder (h : s.FeedDriven) : s.softResetLadder.FeedDriven :=
  have hheld := foldl (f := State.holdOpen) (fun _ i ht => ht.holdOpen i) (indices 16) h
  hheld.ladderReset

/-! ## Black-Start Sequencer: feeders move by the open-all order alone -/

theorem setMode (h : s.FeedDriven) (m : Mode) : (s.setMode m).FeedDriven := .ite h (.redirectAll h)

theorem endInObserve (h : s.FeedDriven) (failed : Bool) : (s.endInObserve failed).FeedDriven :=
  .clearMarks (.setMode (by exact h) .observe)

theorem completeBlackStart (h : s.FeedDriven) : s.completeBlackStart.FeedDriven := .setMode (by exact h) .dispatch

theorem restoreCheck (h : s.FeedDriven) : s.restoreCheck.FeedDriven := by
  unfold State.restoreCheck
  refine .ite (.ite h ?_) h
  split
  · exact .ite h h
  · exact h

theorem lookAddSets (h : s.FeedDriven) : s.lookAddSets.FeedDriven := by
  unfold State.lookAddSets
  refine .ite h ?_
  split
  · exact .updateSet (by exact h) _ _
  · exact h

theorem enterAddSets (h : s.FeedDriven) : s.enterAddSets.FeedDriven := .lookAddSets h

theorem addSetsCheck (h : s.FeedDriven) : s.addSetsCheck.FeedDriven := by
  unfold State.addSetsCheck
  refine .ite ?_ h
  split
  · exact .ite h (.lookAddSets h)
  · exact h

theorem lookFirstSet (h : s.FeedDriven) : s.lookFirstSet.FeedDriven := by
  unfold State.lookFirstSet
  refine .ite h.enterAddSets ?_
  split
  · exact .updateSet (by exact h) _ _
  · exact .ite h (h.endInObserve true)

theorem candidateCheck (h : s.FeedDriven) : s.candidateCheck.FeedDriven := by
  unfold State.candidateCheck
  split
  · exact .ite (.lookFirstSet h) h
  · exact h.lookFirstSet

theorem formedCheck (h : s.FeedDriven) : s.formedCheck.FeedDriven := by
  unfold State.formedCheck
  split
  · exact .ite (.ite (h.updateSet _ _).enterAddSets (.ite (h.clearMark _).enterAddSets h)) h
  · exact h

theorem firstSetCheck (h : s.FeedDriven) : s.firstSetCheck.FeedDriven :=
  .ite (.ite h.candidateCheck.formedCheck h.candidateCheck) h

theorem enterPrepare (h : s.FeedDriven) : s.enterPrepare.FeedDriven :=
  .stopAll (.forceZero (.openAll h))

theorem prepareCheck (h : s.FeedDriven) : s.prepareCheck.FeedDriven := .ite h h

theorem beginSequence (h : s.FeedDriven) : s.beginSequence.FeedDriven :=
  .enterPrepare (.setMode (by exact h) .blackstart)

theorem lossOfBus (h : s.FeedDriven) : s.lossOfBus.FeedDriven :=
  .ite (.endInObserve (by exact h) true) (.enterPrepare h)

theorem sequencerMeter (h : s.FeedDriven) (ev : MeterEvent) : (s.sequencerMeter ev).FeedDriven := .ite h.lossOfBus h

theorem triggerCheck (h : s.FeedDriven) : s.triggerCheck.FeedDriven := by
  unfold State.triggerCheck
  refine .ite ?_ (by exact h)
  split
  · exact h
  · exact .ite h.beginSequence h

theorem sequencerReact (h : s.FeedDriven) : s.sequencerReact.FeedDriven :=
  h.triggerCheck.prepareCheck.firstSetCheck.addSetsCheck

theorem bsabortEdge (h : s.FeedDriven) (level : Bool) : (s.bsabortEdge level).FeedDriven :=
  .ite (.endInObserve (by exact h) _) h

/-! ## Frequency Meter -/

theorem publishMeter (h : s.FeedDriven) (m : Meter) : (s.publishMeter m).FeedDriven :=
  .sequencerMeter (.curtailmentMeter (.ladderMeter (by exact h) _) _) _

theorem risingEdge (h : s.FeedDriven) : s.risingEdge.FeedDriven := by
  unfold State.risingEdge
  split
  case h_3 => exact h.publishMeter _
  all_goals exact .ite (by exact h) (.ite (.ite (h.publishMeter _) h) ((h.publishMeter _).publishMeter _))

/-! ## Publications -/

theorem examine (h : s.FeedDriven) (rec : BalanceRecord) : (s.examine rec).FeedDriven := by
  have hlapse : s.lapseRestoreDelay.FeedDriven := .ite h h
  unfold State.examine
  simp only
  split
  · exact hlapse
  · exact .ite (.ite (.restorationClose (by exact hlapse) _) hlapse) hlapse

theorem curtailmentTask (h : s.FeedDriven) (rec : BalanceRecord) : (s.curtailmentTask rec).FeedDriven :=
  have hwork := h.curtailmentWork rec
  .ite hwork.completeBlackStart hwork

theorem runTask (h : s.FeedDriven) (rec : BalanceRecord) (task : Task) : (s.runTask rec task).FeedDriven := by
  cases task with
  | status => exact h
  | commitment => exact h.commitmentTask rec
  | curtailment => exact h.curtailmentTask rec
  | ladder => exact h.ladderTask rec
  | restoration => exact h.examine rec
  | sequencer => exact h.restoreCheck

theorem balanceExpiry (h : s.FeedDriven) (due : Count) : (s.balanceExpiry due).FeedDriven :=
  .foldl (fun _ task ht => ht.runTask _ task) _ h

/-! ## The end of an event -/

theorem reportChanges (h : s.FeedDriven) (before : State) : (s.reportChanges before).FeedDriven := .ite h h.queueReport

theorem finish (h : s.FeedDriven) (before : State) : (s.finish before).FeedDriven :=
  (h.sequencerReact.reportChanges before).refreshAlert

theorem ending {f : State → State} (h : (f s).FeedDriven) : (s.ending f).FeedDriven := h.finish s

/-! ## Pins -/

theorem fstatChanges (h : s.FeedDriven) (old new : Vector Bool 16) : (s.fstatChanges old new).FeedDriven :=
  .foldl (fun _ i ht => .ending (ht.breakerEvent i new[i])) _ h

theorem mshedEdge (h : s.FeedDriven) (level : Bool) : (s.mshedEdge level).FeedDriven :=
  .ite (.shedOne (by exact h) .manual) h

/-! ## Tables -/

theorem commitFeeders (h : s.FeedDriven) (t : Vector FeederEntry 16) : (s.commitFeeders t).FeedDriven := by
  refine ⟨h.1, fun i => ?_⟩
  simp only [State.commitFeeders, Fin.getElem_fin, getElem_tabulate]
  split
  · exact h.2 i
  · exact foundFeeder_feed _ _

theorem commitRoster (h : s.FeedDriven) (t : Vector SetEntry 8) : (s.commitRoster t).FeedDriven := .redirectAll h

theorem commitTable (h : s.FeedDriven) (staging : Staging) : (s.commitTable staging).FeedDriven := by
  cases staging with
  | roster t => exact h.commitRoster t
  | pv t => exact h
  | feeder t => exact h.commitFeeders t
  | stage t => exact h

theorem commit (h : s.FeedDriven) (staging : Staging) : (s.commit staging).FeedDriven :=
  have htable := commitTable (s := { s with window := none }) h staging
  .ite (htable.setMode .observe) htable

/-! ## Station bus: frames sent and entry frames staged move no feeder record -/

theorem takeHead (h : s.FeedDriven) : s.takeHead.FeedDriven := by
  unfold State.takeHead
  split <;> exact h

theorem boundary (h : s.FeedDriven) : s.boundary.FeedDriven := .ite h h

theorem frameSent (h : s.FeedDriven) : s.frameSent.FeedDriven := by
  unfold State.frameSent
  split
  · exact .boundary h
  · exact h

theorem entryFrame (h : s.FeedDriven) (rx : Rx) (table : Nat) (fields : List Byte) :
    (s.entryFrame rx table fields).FeedDriven := by
  unfold State.entryFrame
  split <;> exact .ite h h

theorem endWrite (h : s.FeedDriven) : s.endWrite.FeedDriven := by
  unfold State.endWrite
  split <;> exact h

theorem pvReport (h : s.FeedDriven) (src output available : Nat) : (s.pvReport src output available).FeedDriven := by
  unfold State.pvReport
  split <;> exact h

theorem setReport (h : s.FeedDriven) (src : Nat) (code : Byte) (output : Nat) :
    (s.setReport src code output).FeedDriven := by
  unfold State.setReport
  split
  · exact .ending (h.takeSetReport _ _ _)
  · exact h

/-! ## Requests -/

/-- A refused request only queues its reply. -/
theorem request (h : s.FeedDriven) (rx : Rx) (code : BitVec 5) (gate : Gate) {own : State → State}
    (hown : (own s).FeedDriven) : (s.request rx code gate own).FeedDriven := by
  unfold State.request
  split
  case h_1 | h_2 => exact h
  all_goals
    split
    case h_3 => exact hown
    all_goals exact h

theorem spendParam (h : s.FeedDriven) (p : Param) (v : Nat) : (s.spendParam p v).FeedDriven := .ite h h

theorem putParameter (h : s.FeedDriven) (p : Param) (v : Nat) : (s.putParameter p v).FeedDriven := by
  unfold State.putParameter
  split <;> exact h

theorem setParameter (h : s.FeedDriven) (rx : Rx) (p : Param) (value : Nat) :
    (s.setParameter rx p value).FeedDriven := by
  unfold State.setParameter
  exact ending (spendParam (answer (h.putParameter p _)) p _)

theorem windowOpen (h : s.FeedDriven) (rx : Rx) (table first last : Byte) :
    (s.windowOpen rx table first last).FeedDriven := by
  unfold State.windowOpen
  split
  · exact .ite h h
  · exact h

theorem windowClose (h : s.FeedDriven) (rx : Rx) {close : State → Window → State}
    (hclose : ∀ w, (close s w).FeedDriven) : (s.windowClose rx close).FeedDriven := by
  unfold State.windowClose
  split
  · exact h
  · exact .ite (hclose _) h

theorem closeCommit (h : s.FeedDriven) (rx : Rx) (w : Window) : (s.closeCommit rx w).FeedDriven := by
  unfold State.closeCommit
  split
  · exact h
  · exact .ending (h.commit w.staging).answer

theorem clearLock (h : s.FeedDriven) (rx : Rx) : (s.clearLock rx).FeedDriven := .ite h h

theorem answerHold (h : s.FeedDriven) (rx : Rx) (result : Result) : (s.answerHold rx result).FeedDriven := .ite h h

theorem acceptHold (h : s.FeedDriven) (holder : Nat) : (s.acceptHold holder).FeedDriven := .ite h h

theorem holdRestoration (h : s.FeedDriven) (rx : Rx) : (s.holdRestoration rx).FeedDriven :=
  .ite (h.answerHold rx _) (.ite (h.answerHold rx _) (.ite (h.answerHold rx _) ((h.acceptHold _).answerHold rx _)))

theorem resumeRestoration (h : s.FeedDriven) (rx : Rx) : (s.resumeRestoration rx).FeedDriven := .ite h (.ite h h)

theorem shedStep (h : s.FeedDriven) (rx : Rx) : (s.shedStep rx).FeedDriven := by
  unfold State.shedStep
  split <;> exact (h.shedOne .manual).answer

theorem openFeeder (h : s.FeedDriven) (rx : Rx) (i : Fin 16) : (s.openFeeder rx i).FeedDriven := by
  unfold State.openFeeder
  split
  case h_3 | h_4 | h_5 => exact .ending (h.openByRequest i).answer
  all_goals exact h

theorem restoreFeeder (h : s.FeedDriven) (rx : Rx) (i : Fin 16) : (s.restoreFeeder rx i).FeedDriven := by
  unfold State.restoreFeeder
  refine .ite h ?_
  split
  case h_1 | h_2 | h_3 => exact .ending (h.closeFeeder i).answer
  all_goals exact h

theorem clearFeederFault (h : s.FeedDriven) (rx : Rx) (i : Fin 16) : (s.clearFeederFault rx i).FeedDriven :=
  .ite (.ending (h.rederiveFeeder i).answer) h

theorem clearSetFault (h : s.FeedDriven) (rx : Rx) (i : Fin 8) : (s.clearSetFault rx i).FeedDriven :=
  .ite h (.ite (.ending (h.updateSet i _).answer) h)

theorem toDispatch (h : s.FeedDriven) : s.toDispatch.FeedDriven := .setMode (by exact h) .dispatch

theorem resumeDispatch (h : s.FeedDriven) (rx : Rx) : (s.resumeDispatch rx).FeedDriven :=
  .ite (by exact h) (.ite h (.ite h (.ending h.toDispatch.answer)))

theorem enterObserve (h : s.FeedDriven) (rx : Rx) : (s.enterObserve rx).FeedDriven :=
  .ite h (.ending (h.setMode .observe).answer)

theorem blackStart (h : s.FeedDriven) (rx : Rx) : (s.blackStart rx).FeedDriven :=
  .ite (by exact h) (.ite h (.ending h.beginSequence.answer))

theorem readParameter (h : s.FeedDriven) (rx : Rx) (number : Byte) : (s.readParameter rx number).FeedDriven := by
  unfold State.readParameter
  split
  · exact h.answer.spendParam _ _
  · exact h.answer

theorem readEntry (h : s.FeedDriven) (rx : Rx) (selector : Byte) : (s.readEntry rx selector).FeedDriven := by
  unfold State.readEntry
  split <;> exact h

theorem emptyTxQueue (h : s.FeedDriven) : ({ s with txQueue := [] } : State).FeedDriven := h

theorem softReset (h : s.FeedDriven) : s.softReset.FeedDriven :=
  queueReport (emptyTxQueue (softResetRestoration (softResetLadder h)))

end State.FeedDriven

/-! ## Commands -/

section Commands

variable {s : State}

/-- A command of the running device keeps R90 when its act keeps FEED driven; outside running only time passes
(R181). -/
theorem quiet_follows (h : FeedFollowsState s) (dt : Nat) {f : State → State}
    (hf : ∀ t, t.FeedDriven → (f t).FeedDriven) : FeedFollowsState (s.quiet dt f) := by
  by_cases hrun : s.power = .running
  · rw [quiet_of_running hrun]
    exact (hf (s.elapse dt) ((feedDriven_iff_feedFollowsState hrun).mpr h)).follows
  · rw [quiet_of_not_running hrun]
    exact h

theorem event_follows (h : FeedFollowsState s) (dt : Nat) {f : State → State}
    (hf : ∀ t, t.FeedDriven → (f t).FeedDriven) : FeedFollowsState (s.event dt f) :=
  quiet_follows h dt fun t ht => .ending (hf t ht)

theorem frameEvent_follows (h : FeedFollowsState s) (rx : Rx) {f : State → State}
    (hf : ∀ t, t.FeedDriven → (f t).FeedDriven) : FeedFollowsState (s.frameEvent rx f) :=
  quiet_follows h rx.dt fun t ht => .ite (hf t ht) ht

theorem requestEvent_follows (h : FeedFollowsState s) (rx : Rx) (code : BitVec 5) (gate : Gate) {own : State → State}
    (hown : ∀ t, t.FeedDriven → (own t).FeedDriven) : FeedFollowsState (s.requestEvent rx code gate own) :=
  frameEvent_follows h rx fun t ht => ht.request rx code gate (hown t ht)

theorem pinChange_follows (h : FeedFollowsState s) (dt : Nat) (changes : Bool) (set : Pins → Pins)
    {act : State → State} (hact : ∀ t, t.FeedDriven → (act t).FeedDriven) :
    FeedFollowsState (s.pinChange dt changes set act) := by
  unfold State.pinChange
  simp only
  split
  · split
    next hrun => exact (hact _ (by exact (feedDriven_iff_feedFollowsState hrun).mpr h)).follows
    next => exact h
  · exact h

/-- A reset releases every FEED line and leaves every feeder DISABLED (R181). -/
theorem restart_follows (s : State) (power : Power) (fn : Nat) : FeedFollowsState (s.restart power fn) := by
  have hreset : ∀ i : Fin 16, (s.restart power fn).feeders[i] = .reset := fun i => by
    simp [State.restart, State.reset]
  refine ⟨fun i => ?_, fun _ i => ?_⟩ <;> simp [hreset i, FeederRec.reset]

/-- At the end of start-up each feeder is found from its entry and its line, with FEED released (R115, R181). -/
theorem finishStartUp_feedDriven (s : State) : s.finishStartUp.FeedDriven := by
  refine ⟨rfl, fun i => ?_⟩
  simpa [State.finishStartUp] using foundFeeder_feed _ _

/-- Every command keeps R90: the resets and the end of start-up put new feeder records, and every other command acts in
the running device alone. -/
theorem exec_follows (h : FeedFollowsState s) (i : Instr) : ∃ t, exec i s = .next t ∧ FeedFollowsState t := by
  cases i with
  | powerOnReset fsel dt => exact ⟨_, rfl, restart_follows _ _ _⟩
  | resetnAssert dt => exact ⟨_, rfl, by split; exacts [restart_follows _ _ _, h]⟩
  | resetnRelease fsel dt => exact ⟨_, rfl, by split; exacts [h, restart_follows _ _ _]⟩
  | endOfStartUp dt => exact ⟨_, rfl, by split; exacts [(finishStartUp_feedDriven _).follows, h]⟩
  | gtickRisingEdge dt => exact ⟨_, rfl, event_follows h dt fun _ ht => ht.risingEdge⟩
  | lossExpiry dt => exact ⟨_, rfl, event_follows h dt fun _ ht => .ite (ht.publishMeter _) ht⟩
  | deadExpiry dt => exact ⟨_, rfl, event_follows h dt fun _ ht => .ite (ht.publishMeter _) ht⟩
  | startUpWait dt => exact ⟨_, rfl, event_follows h dt fun _ ht => .ite (ht.publishMeter _) ht⟩
  | tbalExpiry dt =>
    refine ⟨_, rfl, event_follows h dt fun _ ht => ?_⟩
    split
    · exact .ite (ht.balanceExpiry _) ht
    · exact ht
  | fstatChange lines levels dt => exact ⟨_, rfl, pinChange_follows h dt _ _ fun _ ht => ht.fstatChanges _ _⟩
  | breakerTimerExpiry feeder dt =>
    exact ⟨_, rfl, event_follows h dt fun _ ht => .ite (ht.breakerExpiry feeder) ht⟩
  | mshedEdge level dt => exact ⟨_, rfl, pinChange_follows h dt _ _ fun _ ht => .ending (ht.mshedEdge level)⟩
  | bsabortEdge level dt => exact ⟨_, rfl, pinChange_follows h dt _ _ fun _ ht => .ending (ht.bsabortEdge level)⟩
  | cfglockChange level dt => exact ⟨_, rfl, pinChange_follows h dt _ _ fun _ ht => ht⟩
  | laneChange level wire dt => exact ⟨_, rfl, pinChange_follows h dt _ _ fun _ ht => .ite ht ht⟩
  | setReport rx code output => exact ⟨_, rfl, frameEvent_follows h rx fun _ ht => ht.setReport _ code _⟩
  | pvReport rx output available => exact ⟨_, rfl, frameEvent_follows h rx fun _ ht => ht.pvReport _ _ _⟩
  | lostTimerExpiry set dt => exact ⟨_, rfl, event_follows h dt fun _ ht => .ite (ht.lostExpiry set) ht⟩
  | startTimerExpiry set dt => exact ⟨_, rfl, event_follows h dt fun _ ht => .ite (ht.updateSet set _) ht⟩
  | stopTimerExpiry set dt => exact ⟨_, rfl, event_follows h dt fun _ ht => .ite (ht.updateSet set _) ht⟩
  | minimumRunExpiry set dt => exact ⟨_, rfl, quiet_follows h dt fun _ ht => ht⟩
  | minimumDownExpiry set dt => exact ⟨_, rfl, event_follows h dt fun _ ht => .ite (ht.updateSet set _) ht⟩
  | deadBusStartTimerExpiry set dt => exact ⟨_, rfl, event_follows h dt fun _ ht => .ite (ht.updateSet set _) ht⟩
  | settleExpiry dt => exact ⟨_, rfl, quiet_follows h dt fun _ ht => ht⟩
  | tholdmaxExpiry dt => exact ⟨_, rfl, quiet_follows h dt fun _ ht => .ite ht ht⟩
  | tholdgapEnd dt => exact ⟨_, rfl, quiet_follows h dt fun _ ht => .ite ht ht⟩
  | triggerTimerExpiry dt => exact ⟨_, rfl, event_follows h dt fun _ ht => .ite ht.beginSequence ht⟩
  | idleExpiry dt => exact ⟨_, rfl, quiet_follows h dt fun _ ht => .ite ht ht⟩
  | endOfTheWrite dt => exact ⟨_, rfl, quiet_follows h dt fun _ ht => ht.endWrite⟩
  | entryData rx data => exact ⟨_, rfl, frameEvent_follows h rx fun _ ht => .ite (ht.entryFrame rx _ _) ht⟩
  | frameOfOtherKind rx kind data => exact ⟨_, rfl, frameEvent_follows h rx fun _ ht => ht⟩
  | unknownRequestCode rx code =>
    refine ⟨_, rfl, frameEvent_follows h rx fun _ ht => ?_⟩
    split <;> exact ht
  | resumeDispatch rx => exact ⟨_, rfl, requestEvent_follows h rx _ _ fun _ ht => ht.resumeDispatch rx⟩
  | enterObserve rx => exact ⟨_, rfl, requestEvent_follows h rx _ _ fun _ ht => ht.enterObserve rx⟩
  | blackStart rx => exact ⟨_, rfl, requestEvent_follows h rx _ _ fun _ ht => ht.blackStart rx⟩
  | holdRestoration rx => exact ⟨_, rfl, requestEvent_follows h rx _ _ fun _ ht => ht.holdRestoration rx⟩
  | resumeRestoration rx => exact ⟨_, rfl, requestEvent_follows h rx _ _ fun _ ht => ht.resumeRestoration rx⟩
  | shedStep rx => exact ⟨_, rfl, requestEvent_follows h rx _ _ fun _ ht => .ending (ht.shedStep rx)⟩
  | openFeeder rx index =>
    exact ⟨_, rfl, requestEvent_follows h rx _ _ fun _ ht => by split; exacts [ht.openFeeder rx _, ht]⟩
  | restoreFeeder rx index =>
    exact ⟨_, rfl, requestEvent_follows h rx _ _ fun _ ht => by split; exacts [ht.restoreFeeder rx _, ht]⟩
  | clearSetFault rx index =>
    exact ⟨_, rfl, requestEvent_follows h rx _ _ fun _ ht => by split; exacts [ht.clearSetFault rx _, ht]⟩
  | clearFeederFault rx index =>
    exact ⟨_, rfl, requestEvent_follows h rx _ _ fun _ ht => by split; exacts [ht.clearFeederFault rx _, ht]⟩
  | setParameter rx number value =>
    exact ⟨_, rfl, requestEvent_follows h rx _ _ fun _ ht => by split; exacts [ht.setParameter rx _ _, ht]⟩
  | readParameter rx number => exact ⟨_, rfl, requestEvent_follows h rx _ _ fun _ ht => ht.readParameter rx number⟩
  | readEntry rx selector => exact ⟨_, rfl, requestEvent_follows h rx _ _ fun _ ht => ht.readEntry rx selector⟩
  | windowOpen rx table first last =>
    exact ⟨_, rfl, requestEvent_follows h rx _ _ fun _ ht => ht.windowOpen rx table first last⟩
  | windowCloseDiscard rx argument =>
    exact ⟨_, rfl, requestEvent_follows h rx _ _ fun _ ht => .ite (ht.windowClose rx fun _ => by exact ht) ht⟩
  | windowCloseCommit rx =>
    exact ⟨_, rfl, requestEvent_follows h rx _ _ fun _ ht => ht.windowClose rx fun w => ht.closeCommit rx w⟩
  | saveSettings rx => exact ⟨_, rfl, requestEvent_follows h rx _ _ fun _ ht => ht⟩
  | setLock rx => exact ⟨_, rfl, requestEvent_follows h rx _ _ fun _ ht => ht⟩
  | clearLock rx => exact ⟨_, rfl, requestEvent_follows h rx _ _ fun _ ht => ht.clearLock rx⟩
  | softReset rx => exact ⟨_, rfl, requestEvent_follows h rx _ _ fun _ ht => .ending ht.softReset.answer⟩
  | cycleReset rx => exact ⟨_, rfl, requestEvent_follows h rx _ _ fun _ ht => ht⟩
  | take dt => exact ⟨_, rfl, quiet_follows h dt fun _ ht => ht.takeHead⟩
  | frameSent dt => exact ⟨_, rfl, quiet_follows h dt fun _ ht => ht.frameSent⟩
  | offeredAgain dt => exact ⟨_, rfl, quiet_follows h dt fun _ ht => ht.boundary⟩

end Commands

/-- Settles O5: a step is one command with the queue's rest, or an idle tick, which lets time pass and queues the due
expiries. -/
theorem feedAlwaysFollowsFeederState : Obligations.FeedAlwaysFollowsFeederState := by
  intro s t h hstep
  unfold step at hstep
  split at hstep
  · obtain rfl := Host.Outcome.next.inj hstep
    exact h
  next i rest _ =>
    obtain ⟨u, hexec, hu⟩ := exec_follows (s := { s with pending := rest }) h i
    obtain rfl := Host.Outcome.next.inj (hexec.symm.trans hstep)
    exact hu

end Sys2Proof.Machine
end

section
/-! What a derivation of directives does (R48, R49): to the runtime records, to the Transmit Queue, and to nothing else. -/

namespace Sys2Proof.Machine

/-- Only the runtime records and the Transmit Queue can differ. -/
def SetsFrame (s t : State) : Prop := t = { s with sets := t.sets, txQueue := t.txQueue }

namespace SetsFrame

variable {s t u : State}

theorem refl (s : State) : SetsFrame s s := rfl

theorem trans (h : SetsFrame s t) (h' : SetsFrame t u) : SetsFrame s u := by
  unfold SetsFrame at *
  rw [h', h]

theorem ite {c : Prop} [Decidable c] {a b : State} (ha : SetsFrame s a) (hb : SetsFrame s b) :
    SetsFrame s (if c then a else b) := by
  split <;> assumption

theorem foldl {α : Type} {f : State → α → State} (h : ∀ s a, SetsFrame s (f s a)) (l : List α) (s : State) :
    SetsFrame s (l.foldl f s) := by
  induction l generalizing s with
  | nil => rfl
  | cons a l ih => exact (h s a).trans (ih _)

theorem cfg (h : SetsFrame s t) : t.cfg = s.cfg := by rw [h]
theorem mode (h : SetsFrame s t) : t.mode = s.mode := by rw [h]
theorem seq (h : SetsFrame s t) : t.seq = s.seq := by rw [h]
theorem clk (h : SetsFrame s t) : t.clk = s.clk := by rw [h]
theorem meter (h : SetsFrame s t) : t.meter = s.meter := by rw [h]
theorem setSlots (h : SetsFrame s t) : t.setSlots = s.setSlots := by rw [h]

end SetsFrame

variable (s : State)

theorem redirect_setsFrame (i : Fin 8) : SetsFrame s (s.redirect i) := by
  obtain h | ⟨-, -, h⟩ := redirect_cases s i <;> rw [h] <;> rfl

theorem updateSet_setsFrame (i : Fin 8) (f : SetRec → SetRec) : SetsFrame s (s.updateSet i f) :=
  .trans (t := { s with sets := modifyAt s.sets i f }) rfl (redirect_setsFrame _ i)

theorem redirectAll_setsFrame : SetsFrame s s.redirectAll := .foldl redirect_setsFrame _ s

theorem clearMark_setsFrame (i : Fin 8) : SetsFrame s (s.clearMark i) :=
  have hunmarked := updateSet_setsFrame s i SetRec.unmark
  .ite (.ite (hunmarked.trans (updateSet_setsFrame _ i _)) hunmarked) rfl

theorem clearMarks_setsFrame : SetsFrame s s.clearMarks := .foldl clearMark_setsFrame _ s

theorem stopOne_setsFrame (i : Fin 8) : SetsFrame s (s.stopOne i) := by
  unfold State.stopOne
  split
  case h_1 | h_2 => exact updateSet_setsFrame s i _
  all_goals rfl

/-- The directive that R48 gives set `i` as it stands. -/
def State.wanted (i : Fin 8) : Directive := wantedDirective s.mode s.sets[i].state s.sets[i].mark

theorem setConfigured_iff (i : Fin 8) : s.setConfigured i = true ↔ 0 < s.cfg.roster[i].rating := decide_eq_true_iff

/-- The runtime record of set `i` once its directive has been derived again; an empty entry keeps its directive (R34). -/
def State.derivedSet (i : Fin 8) : SetRec :=
  if 0 < s.cfg.roster[i].rating then s.sets[i].directed (s.wanted i) else s.sets[i]

theorem directed_self {r : SetRec} {d : Directive} (h : d = r.directive) : r.directed d = r := by
  subst h
  simp [SetRec.directed]

/-- An empty entry, and a set that holds the directive it should, are left as they stand. -/
theorem redirect_of_stands {i : Fin 8} (h : 0 < s.cfg.roster[i].rating → s.wanted i = s.sets[i].directive) :
    s.redirect i = s := by
  refine if_neg fun hc => hc.2 ?_
  rw [directiveOf_eq]
  exact h ((setConfigured_iff s i).mp hc.1)

/-- A changed directive is put with a raised sequence and queued (R49). -/
theorem redirect_of_changes {i : Fin 8} (hconf : 0 < s.cfg.roster[i].rating)
    (hd : s.wanted i ≠ s.sets[i].directive) :
    s.redirect i = { s with
      sets := s.sets.set i (s.derivedSet i)
      txQueue := enqueue s.txQueue (.setDirective i s.cfg.roster[i].address (s.derivedSet i).directive
        (s.derivedSet i).dirSeq) } := by
  have hw : directiveOf s.mode s.sets[i] = s.wanted i := directiveOf_eq _ _
  have hr : s.derivedSet i = { s.sets[i] with directive := s.wanted i, dirSeq := s.sets[i].dirSeq + 1 } := by
    simp only [State.derivedSet, if_pos hconf, SetRec.directed, if_neg hd]
  rw [hr, State.redirect]
  simp only [hw]
  rw [if_pos ⟨(setConfigured_iff s i).mpr hconf, hd⟩]
  simp [State.sendDirective, State.send]

theorem derivedSet_of_stands {i : Fin 8} (h : 0 < s.cfg.roster[i].rating → s.wanted i = s.sets[i].directive) :
    s.derivedSet i = s.sets[i] := by
  unfold State.derivedSet
  split
  next hconf => exact directed_self (h hconf)
  next => rfl

/-- A derivation moves the one set it names (R48, R49). -/
theorem redirect_sets (i : Fin 8) : (s.redirect i).sets = s.sets.set i (s.derivedSet i) := by
  by_cases h : 0 < s.cfg.roster[i].rating → s.wanted i = s.sets[i].directive
  · rw [redirect_of_stands s h, derivedSet_of_stands s h]
    exact (Vector.set_getElem_self _).symm
  · rw [Classical.not_imp] at h
    rw [redirect_of_changes s h.1 h.2]

theorem redirect_sets_self (i : Fin 8) : (s.redirect i).sets[i] = s.derivedSet i := by simp [redirect_sets]

theorem redirect_sets_ne {i j : Fin 8} (h : j ≠ i) : (s.redirect i).sets[j] = s.sets[j] := by
  have : i.val ≠ j.val := fun e => h (Fin.ext e).symm
  simp [redirect_sets, this]

/-- A derivation of another set leaves what one derives of this set. -/
theorem redirect_derivedSet_ne {i j : Fin 8} (h : j ≠ i) : (s.redirect i).derivedSet j = s.derivedSet j := by
  have hf := redirect_setsFrame s i
  simp only [State.derivedSet, State.wanted, hf.cfg, hf.mode, redirect_sets_ne s h]

theorem foldl_redirect_sets {l : List (Fin 8)} (hl : l.Nodup) (j : Fin 8) :
    (l.foldl State.redirect s).sets[j] = if j ∈ l then s.derivedSet j else s.sets[j] := by
  induction l generalizing s with
  | nil => simp
  | cons i is ih =>
    obtain ⟨hi, his⟩ := List.nodup_cons.mp hl
    rw [List.foldl_cons, ih _ his]
    by_cases hj : j = i
    · subst hj
      simp only [hi, if_false, List.mem_cons, true_or, if_true]
      exact redirect_sets_self s j
    · simp only [List.mem_cons, hj, false_or, redirect_derivedSet_ne s hj, redirect_sets_ne s hj]

/-- R159: deriving every directive again derives that of each set as it stands. -/
theorem redirectAll_sets (j : Fin 8) : s.redirectAll.sets[j] = s.derivedSet j := by
  rw [State.redirectAll, foldl_redirect_sets s (l := indices 8) (List.nodup_finRange 8), if_pos (mem_indices j)]

theorem updateSet_sets_self (i : Fin 8) (f : SetRec → SetRec) :
    (s.updateSet i f).sets[i] =
      if 0 < s.cfg.roster[i].rating then
        (f s.sets[i]).directed (wantedDirective s.mode (f s.sets[i]).state (f s.sets[i]).mark)
      else f s.sets[i] := by
  rw [State.updateSet, redirect_sets_self]
  simp [State.derivedSet, State.wanted, modifyAt]

theorem updateSet_sets_ne {i j : Fin 8} (h : j ≠ i) (f : SetRec → SetRec) :
    (s.updateSet i f).sets[j] = s.sets[j] := by
  have : i.val ≠ j.val := fun e => h (Fin.ext e).symm
  rw [State.updateSet, redirect_sets_ne _ h]
  simp [modifyAt, this]

@[simp] theorem directed_state (r : SetRec) (d : Directive) : (r.directed d).state = r.state := rfl
@[simp] theorem directed_mark (r : SetRec) (d : Directive) : (r.directed d).mark = r.mark := rfl
@[simp] theorem directed_directive (r : SetRec) (d : Directive) : (r.directed d).directive = d := rfl

@[simp] theorem derivedSet_state (i : Fin 8) : (s.derivedSet i).state = s.sets[i].state := by
  unfold State.derivedSet; split <;> rfl
@[simp] theorem derivedSet_mark (i : Fin 8) : (s.derivedSet i).mark = s.sets[i].mark := by
  unfold State.derivedSet; split <;> rfl

/-- A derivation touches nothing the promises on a runtime record speak of. -/
theorem directed_agrees {r : SetRec} {d : Directive} : SetRecordAgrees (r.directed d) ↔ SetRecordAgrees r := Iff.rfl

theorem derivedSet_agrees (i : Fin 8) : SetRecordAgrees (s.derivedSet i) ↔ SetRecordAgrees s.sets[i] := by
  unfold State.derivedSet; split <;> rfl

end Sys2Proof.Machine
end

section
/-! What every operation of the running device keeps: one lemma for each, from which the commands, and then the
promises of Safety.lean one by one, are assembled. -/

namespace Sys2Proof.Machine

/-- What an operation of the running device leaves alone, and the promises it keeps, but for the two that speak of the
phase. -/
structure KeepsMost (s t : State) : Prop where
  pending : t.pending = s.pending
  clk : t.clk = s.clk
  power : t.power = s.power
  fn : t.fn = s.fn
  meter : t.meter = s.meter
  feeders : FeederRecordsAgree s → FeederRecordsAgree t
  sets : SetRecordsAgree s → SetRecordsAgree t
  hold : HoldRecordAgrees s → HoldRecordAgrees t
  queue : QueueHoldsShedFeeders s → QueueHoldsShedFeeders t
  keys : QueueKeysDistinct s → QueueKeysDistinct t
  directives : DirectivesFollowStates s → DirectivesFollowStates t
  ceilings : CeilingsWithinRatings s → CeilingsWithinRatings t
  params : ParametersInRange s → ParametersInRange t

/-- What an operation of the running device leaves alone, and the promises it keeps. -/
structure Keeps (s t : State) : Prop extends KeepsMost s t where
  mode : ModeMatchesPhase s → ModeMatchesPhase t
  marks : ModeMatchesPhase s → SetRecordsAgree s → MarkIsCandidate s → MarkIsCandidate t

theorem KeepsMost.trans {s t u : State} (h : KeepsMost s t) (h' : KeepsMost t u) : KeepsMost s u where
  pending := h'.pending.trans h.pending
  clk := h'.clk.trans h.clk
  power := h'.power.trans h.power
  fn := h'.fn.trans h.fn
  meter := h'.meter.trans h.meter
  feeders := h'.feeders ∘ h.feeders
  sets := h'.sets ∘ h.sets
  hold := h'.hold ∘ h.hold
  queue := h'.queue ∘ h.queue
  keys := h'.keys ∘ h.keys
  directives := h'.directives ∘ h.directives
  ceilings := h'.ceilings ∘ h.ceilings
  params := h'.params ∘ h.params

namespace Keeps

variable {s t u : State}

theorem refl (s : State) : Keeps s s :=
  ⟨⟨rfl, rfl, rfl, rfl, rfl, id, id, id, id, id, id, id, id⟩, id, fun _ _ => id⟩

theorem trans (h : Keeps s t) (h' : Keeps t u) : Keeps s u :=
  ⟨h.toKeepsMost.trans h'.toKeepsMost, h'.mode ∘ h.mode, fun hm hs hk => h'.marks (h.mode hm) (h.sets hs) (h.marks hm hs hk)⟩

/-- A change of fields that no promise speaks of. -/
theorem other (h : t = { s with
    startBegan := t.startBegan, freeCount := t.freeCount, pins := t.pins, alertPin := t.alertPin
    tbalEnds := t.tbalEnds, cycle := t.cycle, record := t.record, held := t.held, lane := t.lane
    laneWaiting := t.laneWaiting, setSlots := t.setSlots, pvSlots := t.pvSlots, txBuffer := t.txBuffer
    shortfall := t.shortfall, surplus := t.surplus, aggU := t.aggU, freshStart := t.freshStart
    forcedZero := t.forcedZero, pvReached := t.pvReached, stages := t.stages, exhausted := t.exhausted
    reserveShed := t.reserveShed, mshedLevel := t.mshedLevel, notedMeter := t.notedMeter
    reportCount := t.reportCount, firstReport := t.firstReport, restoreDelay := t.restoreDelay
    blocked := t.blocked, ordering := t.ordering, cfglockLevel := t.cfglockLevel, window := t.window
    store := t.store, storeBad := t.storeBad }) : Keeps s t := by
  rw [h]
  exact { refl s with }

theorem ite {c : Prop} [Decidable c] {a b : State} (ha : c → Keeps s a) (hb : ¬ c → Keeps s b) :
    Keeps s (if c then a else b) := by
  split
  next h => exact ha h
  next h => exact hb h

theorem foldl {α : Type} {f : State → α → State} (h : ∀ s a, Keeps s (f s a)) (l : List α) (s : State) :
    Keeps s (l.foldl f s) := by
  induction l generalizing s with
  | nil => exact refl s
  | cons a l ih => exact (h s a).trans (ih _)

/-- A fold of steps that keep the promises where `p` holds of the element, and that leave `p` to the elements after it. -/
theorem foldl_of {α : Type} {f : State → α → State} {p : State → α → Prop} (h : ∀ s a, p s a → Keeps s (f s a))
    {l : List α} (hp : ∀ a ∈ l, p s a) (hl : l.Pairwise fun a b => ∀ s, p s b → p (f s a) b) :
    Keeps s (l.foldl f s) := by
  induction l generalizing s with
  | nil => exact refl s
  | cons a l ih =>
    obtain ⟨hhead, htail⟩ := List.pairwise_cons.mp hl
    exact (h s a (hp a (by simp))).trans
      (ih (fun b hb => hhead b hb s (hp b (List.mem_cons_of_mem _ hb))) htail)

/-! ## The Transmit Queue -/

theorem send {f : Frame} (hf : ∀ dest, f.key = .reply dest → ReplyAddress s dest) : Keeps s (s.send f) :=
  { refl s with
    keys := fun ⟨hnodup, hreply, hsave⟩ => by
      refine ⟨enqueue_nodup hnodup f, fun dest hdest => ?_, hsave⟩
      rw [State.send_txQueue, enqueue_keys] at hdest
      split at hdest
      · exact hreply dest hdest
      · obtain hdest | hdest := List.mem_append.mp hdest
        · exact hreply dest hdest
        · exact hf dest (List.mem_singleton.mp hdest).symm }

theorem answer {rx : Rx} (hrx : ReplyAddress s rx.src.toNat) {code : BitVec 5} {result : Result} {data : List Byte} :
    Keeps s (s.answer rx code result data) :=
  send fun _ hdest => Key.reply.inj hdest ▸ hrx

/-- Frames leave the Transmit Queue, or stay under their keys. -/
theorem fewerKeys {q : List Frame} (hq : (q.map Frame.key).Sublist (s.txQueue.map Frame.key)) :
    Keeps s { s with txQueue := q } :=
  { refl s with
    keys := fun ⟨hnodup, hreply, hsave⟩ => ⟨hnodup.sublist hq, fun dest hd => hreply dest (hq.subset hd), hsave⟩ }

end Keeps

/-! ## Runtime records and directives -/

section Sets

variable (s : State)

theorem redirect_keeps (i : Fin 8) : Keeps s (s.redirect i) := by
  by_cases h : 0 < s.cfg.roster[i].rating → s.wanted i = s.sets[i].directive
  · rw [redirect_of_stands s h]
    exact .refl s
  have hsets : ∀ j : Fin 8, (s.redirect i).sets[j] = if j = i then s.derivedSet i else s.sets[j] := fun j => by
    split
    next hj => exact hj ▸ redirect_sets_self s i
    next hj => exact redirect_sets_ne s hj
  obtain ⟨hconf, hd⟩ := Classical.not_imp.mp h
  have heq := redirect_of_changes s hconf hd
  have hsend := Keeps.send (s := s) (f := .setDirective i s.cfg.roster[i].address (s.derivedSet i).directive
    (s.derivedSet i).dirSeq) (fun _ hk => by cases hk)
  have hf := redirect_setsFrame s i
  exact {
    pending := by rw [heq], clk := by rw [heq], power := by rw [heq], fn := by rw [heq], meter := by rw [heq]
    feeders := by rw [heq]; exact id
    sets := fun hs j => by
      rw [hsets]
      split
      · exact (derivedSet_agrees s i).mpr (hs i)
      · exact hs j
    hold := by rw [heq]; exact id
    queue := by rw [heq]; exact id
    keys := by rw [heq]; exact hsend.keys
    mode := by rw [heq]; exact id
    directives := fun hs j hj => by
      rw [hf.cfg] at hj
      rw [hsets, hf.mode]
      split
      next hji => subst hji; simp only [State.derivedSet, if_pos hconf]; rfl
      next => exact hs j hj
    ceilings := by rw [heq]; exact id
    params := by rw [heq]; exact id
    marks := fun _ _ hk j hj => by
      rw [hf.seq, hf.cfg]
      refine hk j ?_
      rw [hsets] at hj
      split at hj
      next hji => subst hji; simpa using hj
      next => exact hj }

theorem redirectAll_keeps : Keeps s s.redirectAll := .foldl redirect_keeps _ s

/-- After every directive has been derived again each is the one R48 gives. -/
theorem redirectAll_directives : DirectivesFollowStates s.redirectAll := fun i hi => by
  have hf := redirectAll_setsFrame s
  rw [hf.cfg] at hi
  rw [redirectAll_sets, hf.mode, derivedSet_state, derivedSet_mark, State.derivedSet, if_pos hi]
  rfl

variable {s}

theorem modifyAt_get {α : Type} {n : Nat} (v : Vector α n) (i j : Fin n) (f : α → α) :
    (modifyAt v i f)[j] = if i = j then f v[i] else v[j] := by
  simp only [Fin.getElem_fin, getElem_modifyAt, Fin.ext_iff]

theorem modify_setsAgree {i : Fin 8} {f : SetRec → SetRec}
    (hf : SetRecordAgrees s.sets[i] → SetRecordAgrees (f s.sets[i])) (hs : SetRecordsAgree s) :
    SetRecordsAgree { s with sets := modifyAt s.sets i f } := fun j => by
  show SetRecordAgrees (modifyAt s.sets i f)[j]
  rw [modifyAt_get]
  split
  · exact hf (hs i)
  · exact hs j

/-- A runtime record is changed and its directive derived again. -/
theorem Keeps.updateSet {i : Fin 8} {f : SetRec → SetRec} (hf : SetRecordAgrees s.sets[i] → SetRecordAgrees (f s.sets[i]))
    (hmark : (f s.sets[i]).mark = true →
      s.sets[i].mark = true ∨ (s.seq.phase = .firstSet ∧ s.seq.candidate = some i ∧ 0 < s.cfg.roster[i].rating)) :
    Keeps s (s.updateSet i f) := by
  have h := redirect_keeps { s with sets := modifyAt s.sets i f }
  exact {
    pending := (h i).pending, clk := (h i).clk, power := (h i).power, fn := (h i).fn, meter := (h i).meter
    feeders := (h i).feeders
    sets := fun hs => (h i).sets (modify_setsAgree hf hs)
    hold := (h i).hold, queue := (h i).queue, keys := (h i).keys, mode := (h i).mode
    directives := fun hs j hj => by
      by_cases hji : j = i
      · subst hji
        have hmode : (s.updateSet j f).mode = s.mode := (updateSet_setsFrame s j f).mode
        have hcfg : (s.updateSet j f).cfg = s.cfg := (updateSet_setsFrame s j f).cfg
        rw [hcfg] at hj
        rw [updateSet_sets_self, if_pos hj, hmode]
        rfl
      · rw [(updateSet_setsFrame s i f).cfg] at hj
        rw [updateSet_sets_ne s hji, (updateSet_setsFrame s i f).mode]
        exact hs j hj
    ceilings := (h i).ceilings, params := (h i).params
    marks := fun hm hs hk => by
      refine (h i).marks hm (modify_setsAgree hf hs) fun j hj => ?_
      replace hj : (modifyAt s.sets i f)[j].mark = true := hj
      rw [modifyAt_get] at hj
      split at hj
      next hij =>
        subst hij
        exact (hmark hj).elim (hk i) id
      next => exact hk j hj }

/-- The lost timer, the STALE flag or the minimum-run timer of a set moves, and nothing that a directive depends on. -/
theorem Keeps.setTimers {i : Fin 8} {f : SetRec → SetRec}
    (hf : SetRecordAgrees s.sets[i] → SetRecordAgrees (f s.sets[i]))
    (hstate : (f s.sets[i]).state = s.sets[i].state) (hmark : (f s.sets[i]).mark = s.sets[i].mark)
    (hdir : (f s.sets[i]).directive = s.sets[i].directive) :
    Keeps s { s with sets := modifyAt s.sets i f } := by
  exact { Keeps.refl s with
    sets := modify_setsAgree hf
    directives := fun hs j hj => by
      have := hs j hj
      show (modifyAt s.sets i f)[j].directive = wantedDirective s.mode (modifyAt s.sets i f)[j].state (modifyAt s.sets i f)[j].mark
      rw [modifyAt_get]
      split
      next hij => subst hij; rw [hstate, hmark, hdir]; exact this
      next => exact this
    marks := fun _ _ hk j hj => by
      replace hj : (modifyAt s.sets i f)[j].mark = true := hj
      rw [modifyAt_get] at hj
      split at hj
      next hij => subst hij; exact hk i (hmark ▸ hj)
      next => exact hk j hj }

end Sets

end Sys2Proof.Machine
end

section
/-! What the moves of runtime records keep (R36 to R46, R59, R62, R64, R66, R67). -/

namespace Sys2Proof.Machine

/-! ## The records that the moves make -/

namespace SetRec

variable {r : SetRec}

theorem goOnline_agrees {m : MinRun} (hm : m ≠ .absent) : SetRecordAgrees (r.goOnline m) := by
  simp [SetRecordAgrees, goOnline, hm]

theorem goFailed_agrees {c : FaultCause} (hc : c ≠ .none) : SetRecordAgrees (r.goFailed c) := by
  simp [SetRecordAgrees, goFailed, hc]

theorem goUnknown_agrees (r : SetRec) (now : Count) : SetRecordAgrees (r.goUnknown now) := by
  simp [SetRecordAgrees, goUnknown]

/-- Outside FAILED there is no fault cause. -/
theorem cause_of_agrees (h : SetRecordAgrees r) (hs : r.state ≠ .failed) : r.cause = .none := by
  obtain ⟨-, -, -, -, -, -, -, hcause⟩ := h
  simpa [hs] using hcause

/-- The dead-bus mark stands in STARTING only. -/
theorem mark_of_agrees (h : SetRecordAgrees r) (hs : r.state ≠ .starting) : r.mark = false := by
  obtain ⟨-, -, -, hmark, -⟩ := h
  simpa using mt hmark hs

theorem goResting_agrees {length now : Count} (hs : r.state ≠ .failed) (h : SetRecordAgrees r) :
    SetRecordAgrees (r.goResting length now) := by
  have hcause := cause_of_agrees h hs
  by_cases hlength : length = 0 <;> simp [SetRecordAgrees, goResting, hcause, hlength]

theorem goUnavailable_agrees (hs : r.state ≠ .failed) (h : SetRecordAgrees r) : SetRecordAgrees r.goUnavailable := by
  simp [SetRecordAgrees, goUnavailable, cause_of_agrees h hs]

theorem goStopped_agrees (hs : r.state ≠ .failed) (h : SetRecordAgrees r) : SetRecordAgrees r.goStopped := by
  simp [SetRecordAgrees, goStopped, cause_of_agrees h hs]

theorem goStarting_agrees {e : SetEntry} {now : Count} (hs : r.state = .stopped ∨ r.state = .unknown)
    (h : SetRecordAgrees r) : SetRecordAgrees (r.goStarting e now) := by
  obtain hs | hs := hs <;> simp_all [SetRecordAgrees, goStarting]

theorem goDeadBus_agrees {length now : Count} (hs : r.state = .stopped ∨ r.state = .resting)
    (h : SetRecordAgrees r) : SetRecordAgrees (r.goDeadBus length now) := by
  obtain hs | hs := hs <;> simp_all [SetRecordAgrees, goDeadBus]

theorem goStopping_agrees {e : SetEntry} {now : Count} (hs : r.state = .online) (h : SetRecordAgrees r) :
    SetRecordAgrees (r.goStopping e now) := by
  simp_all [SetRecordAgrees, goStopping]

theorem unmark_agrees (hm : r.mark = true) (h : SetRecordAgrees r) : SetRecordAgrees r.unmark := by
  obtain ⟨hrun, -, hbus, hmark, hstop, hdown, hstale, hcause⟩ := h
  have hstate := hmark hm
  exact ⟨hrun, by simp [unmark, hbus, hm, hstate], by simp [unmark], nofun, hstop, hdown, hstale, hcause⟩

theorem failAttempt_agrees {maxAttempts : Nat} {length now : Count} (hs : r.state ≠ .failed) (h : SetRecordAgrees r) :
    SetRecordAgrees (r.failAttempt maxAttempts length now) := by
  unfold failAttempt
  simp only
  split
  · exact goFailed_agrees (by decide)
  · exact goResting_agrees hs h

theorem failAttempt_mark {maxAttempts : Nat} {length now : Count} :
    (r.failAttempt maxAttempts length now).mark = false := by
  unfold failAttempt
  simp only
  split <;> rfl

theorem softReset_agrees {configured : Bool} {now : Count} (h : SetRecordAgrees r) :
    SetRecordAgrees (r.softReset configured now) := by
  unfold softReset
  simp only
  split
  · exact h
  · exact r.goUnknown_agrees now

theorem softReset_mark {configured : Bool} {now : Count} (h : SetRecordAgrees r) :
    (r.softReset configured now).mark = false := by
  unfold softReset
  simp only
  split
  next hs => exact mark_of_agrees h (by rw [hs]; decide)
  next => rfl

theorem recommit_agrees {replaced configured : Bool} {now : Count} (h : SetRecordAgrees r) :
    SetRecordAgrees (r.recommit replaced configured now) := by
  cases replaced <;> cases configured
  case true.true | true.false => exact r.goUnknown_agrees now
  all_goals exact h

end SetRec

theorem startedMinRun_ne_absent (e : SetEntry) (now : Count) : startedMinRun e now ≠ .absent := by
  unfold startedMinRun
  split <;> nofun

/-! ## Lists of sets -/

section Lists

variable {s : State} {i : Fin 8}

theorem mem_setsIn {xs : List SetState} : i ∈ s.setsIn xs ↔ 0 < s.cfg.roster[i].rating ∧ s.sets[i].state ∈ xs := by
  simp [State.setsIn, setConfigured_iff]

theorem mem_capableSets : i ∈ s.capableSets ↔ 0 < s.cfg.roster[i].rating ∧ s.cfg.roster[i].capable = true := by
  simp [State.capableSets, setConfigured_iff]

theorem mem_firstSetCandidates :
    i ∈ s.firstSetCandidates ↔ (0 < s.cfg.roster[i].rating ∧ s.cfg.roster[i].capable = true)
      ∧ (s.sets[i].state = .stopped ∨ s.sets[i].state = .resting) := by
  simp [State.firstSetCandidates, mem_capableSets]

end Lists

/-! ## Set events -/

section Events

variable {s : State} {i : Fin 8}

/-- A move that leaves the set without the dead-bus mark. -/
theorem Keeps.updateSet_unmarked {f : SetRec → SetRec} (hf : SetRecordAgrees s.sets[i] → SetRecordAgrees (f s.sets[i]))
    (hmark : (f s.sets[i]).mark = false) : Keeps s (s.updateSet i f) :=
  .updateSet hf fun h => absurd (hmark.symm.trans h) (by decide)

theorem setOnline_keeps : Keeps s (s.setOnline i) :=
  .updateSet_unmarked (fun _ => SetRec.goOnline_agrees (startedMinRun_ne_absent _ _)) rfl

theorem returnOnline_keeps : Keeps s (s.updateSet i fun r => r.goOnline .elapsed) :=
  .updateSet_unmarked (fun _ => SetRec.goOnline_agrees nofun) rfl

theorem setLeftBus_keeps (hs : s.sets[i].state ≠ .failed) : Keeps s (s.setLeftBus i) :=
  .updateSet_unmarked (SetRec.goResting_agrees hs) rfl

theorem setStopped_keeps (hs : s.sets[i].state ≠ .failed) : Keeps s (s.updateSet i SetRec.goStopped) :=
  .updateSet_unmarked (SetRec.goStopped_agrees hs) rfl

theorem setUnavailable_keeps (hs : s.sets[i].state ≠ .failed) : Keeps s (s.updateSet i SetRec.goUnavailable) :=
  .updateSet_unmarked (SetRec.goUnavailable_agrees hs) rfl

theorem setFailed_keeps {c : FaultCause} (hc : c ≠ .none) : Keeps s (s.updateSet i fun r => r.goFailed c) :=
  .updateSet_unmarked (fun _ => SetRec.goFailed_agrees hc) rfl

theorem failedAttempt_keeps (hs : s.sets[i].state ≠ .failed) : Keeps s (s.failedAttempt i) :=
  .updateSet_unmarked (SetRec.failAttempt_agrees hs) SetRec.failAttempt_mark

theorem startSet_keeps (hs : s.sets[i].state = .stopped ∨ s.sets[i].state = .unknown) : Keeps s (s.startSet i) :=
  .updateSet (SetRec.goStarting_agrees hs) .inl

theorem deadBusOrder_keeps (hs : s.sets[i].state = .stopped ∨ s.sets[i].state = .resting)
    (hphase : s.seq.phase = .firstSet) (hcandidate : s.seq.candidate = some i) (hconf : 0 < s.cfg.roster[i].rating) :
    Keeps s (s.deadBusOrder i) :=
  .updateSet (SetRec.goDeadBus_agrees hs) fun _ => .inr ⟨hphase, hcandidate, hconf⟩

theorem clearMark_keeps (s : State) (i : Fin 8) : Keeps s (s.clearMark i) := by
  unfold State.clearMark
  refine .ite (fun hm => ?_) fun _ => .refl s
  have hunmarked : Keeps s (s.updateSet i SetRec.unmark) := .updateSet_unmarked (SetRec.unmark_agrees hm) rfl
  exact .ite (fun _ => hunmarked.trans setOnline_keeps) fun _ => hunmarked

theorem clearMarks_keeps (s : State) : Keeps s s.clearMarks := .foldl clearMark_keeps _ s

theorem updateSet_mark_self {f : SetRec → SetRec} : (s.updateSet i f).sets[i].mark = (f s.sets[i]).mark := by
  rw [updateSet_sets_self]
  split <;> rfl

/-- A set whose mark has been cleared carries none. -/
theorem clearMark_mark_self (s : State) (i : Fin 8) : (s.clearMark i).sets[i].mark = false := by
  unfold State.clearMark
  simp only
  split
  · split
    · exact updateSet_mark_self
    · exact updateSet_mark_self
  next hm => exact Bool.not_eq_true _ ▸ hm

theorem clearMark_sets_ne {j : Fin 8} (h : j ≠ i) : (s.clearMark i).sets[j] = s.sets[j] := by
  unfold State.clearMark
  simp only
  split
  · split
    · exact (updateSet_sets_ne _ h _).trans (updateSet_sets_ne s h _)
    · exact updateSet_sets_ne s h _
  · rfl

/-- After the marks have been cleared no set carries one. -/
theorem clearMarks_mark (s : State) (j : Fin 8) : s.clearMarks.sets[j].mark = false := by
  have hfold : ∀ (l : List (Fin 8)) (s : State), j ∈ l ∨ s.sets[j].mark = false →
      (l.foldl State.clearMark s).sets[j].mark = false := by
    intro l
    induction l with
    | nil => intro s h; simpa using h
    | cons i l ih =>
      intro s h
      rw [List.foldl_cons]
      refine ih _ ?_
      by_cases hj : j = i
      · exact .inr (hj ▸ clearMark_mark_self s i)
      · rw [clearMark_sets_ne hj]
        simpa [hj] using h
  exact hfold _ _ (.inl (mem_indices j))

/-- R37: whatever a report says, the records stay consistent. -/
theorem reportEvent_keeps (s : State) (i : Fin 8) (c : ControllerState) : Keeps s (s.reportEvent i c) := by
  unfold State.reportEvent
  split
  case h_1 _ hs => exact setStopped_keeps (ne_of_eq_of_ne hs (by decide))
  case h_2 _ hs | h_3 _ hs => exact startSet_keeps (.inr hs)
  case h_4 => exact returnOnline_keeps
  case h_5 | h_15 | h_18 => exact setFailed_keeps (by decide)
  case h_6 _ hs | h_8 _ hs | h_11 _ hs | h_16 _ hs | h_19 _ hs | h_21 _ hs =>
    exact setUnavailable_keeps (ne_of_eq_of_ne hs (by decide))
  case h_7 | h_20 | h_23 => exact setOnline_keeps
  case h_9 => exact .ite (fun _ => .refl s) fun _ => setOnline_keeps
  case h_10 _ hs =>
    exact .ite (fun _ => setFailed_keeps (by decide)) fun _ => failedAttempt_keeps (ne_of_eq_of_ne hs (by decide))
  case h_12 _ hs | h_13 _ hs | h_14 _ hs | h_17 _ hs => exact setLeftBus_keeps (ne_of_eq_of_ne hs (by decide))
  case h_22 _ hs => exact setStopped_keeps (ne_of_eq_of_ne hs (by decide))
  case h_24 => exact .refl s

theorem takeSetReport_keeps (s : State) (i : Fin 8) (c : ControllerState) (output : Nat) :
    Keeps s (s.takeSetReport i c output) := by
  have hslot : Keeps s { s with setSlots := s.setSlots.set i (some ⟨c, output, s.clk⟩) } := .other rfl
  refine hslot.trans (.trans (.setTimers (i := i) (f := fun r => { r with lostTimer := some (s.clk + tLOST), stale := false })
    ?_ rfl rfl rfl) (reportEvent_keeps _ i c))
  exact fun ⟨hrun, hstart, hbus, hmark, hstop, hdown, _, hcause⟩ => ⟨hrun, hstart, hbus, hmark, hstop, hdown, nofun, hcause⟩

theorem lostExpiry_keeps (s : State) (i : Fin 8) : Keeps s (s.lostExpiry i) := by
  have hexpired : Keeps s { s with sets := modifyAt s.sets i fun r => { r with lostTimer := none } } :=
    .setTimers id rfl rfl rfl
  have hstate : (modifyAt s.sets i fun r => { r with lostTimer := none })[i].state = s.sets[i].state := by
    rw [modifyAt_get, if_pos rfl]
  unfold State.lostExpiry
  simp only
  split
  case h_1 hs =>
    refine hexpired.trans (.setTimers (i := i) (f := fun r => { r with stale := true }) ?_ rfl rfl rfl)
    exact fun ⟨hrun, hstart, hbus, hmark, hstop, hdown, _, hcause⟩ =>
      ⟨hrun, hstart, hbus, hmark, hstop, hdown, fun _ => hstate.trans hs, hcause⟩
  case h_7 | h_8 => exact hexpired
  all_goals
    rename_i hs
    exact hexpired.trans (setUnavailable_keeps (by
      show (modifyAt s.sets i fun r => { r with lostTimer := none })[i].state ≠ _
      rw [hstate, hs]; decide))

/-! ## The start and stop rules (R51 to R59) -/

theorem makeStart_keeps {t : State} (ht : s.makeStart = some t) : Keeps s t := by
  have hcleared : Keeps s { s with shortfall := none } := .other rfl
  unfold State.makeStart at ht
  split at ht
  · obtain rfl := Option.some.inj ht
    exact hcleared.trans returnOnline_keeps
  · split at ht
    next j hj =>
      obtain rfl := Option.some.inj ht
      refine hcleared.trans (startSet_keeps (.inl ?_))
      unfold State.startCandidate at hj
      split at hj
      · simpa using (mem_setsIn.mp (leastBy_mem _ hj)).2
      · cases hj
    · cases ht

theorem startRule_keeps (s : State) (rec : BalanceRecord) : Keeps s (s.startRule rec).1 := by
  unfold State.startRule
  simp only
  split
  · split
    · split
      next heq => exact Keeps.trans (.other rfl) (makeStart_keeps heq)
      next => exact .other rfl
    · exact .other rfl
  · exact .other rfl

theorem stopSet_keeps (hs : s.sets[i].state = .online) : Keeps s (s.stopSet i) :=
  .trans (t := { s with surplus := none }) (.other rfl) (.updateSet (SetRec.goStopping_agrees hs) .inl)

theorem stopRule_keeps (s : State) (rec : BalanceRecord) : Keeps s (s.stopRule rec) := by
  unfold State.stopRule
  split
  next => exact .other rfl
  next c hc =>
    have honline : s.sets[c].state = .online := by
      have hmem := (List.mem_filter.mp (greatestBy_mem _ hc)).1
      simpa using (mem_setsIn.mp hmem).2
    refine .ite (fun _ => ?_) fun _ => .other rfl
    split
    · exact .ite (fun _ => .ite (fun _ => stopSet_keeps honline) fun _ => .refl s) fun _ => .other rfl
    · exact .other rfl

theorem sendDirective_keeps (s : State) (i : Fin 8) : Keeps s (s.sendDirective i) := .send nofun

theorem commitmentTask_keeps (s : State) (rec : BalanceRecord) : Keeps s (s.commitmentTask rec) := by
  unfold State.commitmentTask
  have hstart : Keeps s (if s.startRuns then s.startRule rec else ({ s with shortfall := none }, false)).1 := by
    split
    · exact startRule_keeps s rec
    · exact .other rfl
  exact .trans (.ite (fun _ => hstart.trans (stopRule_keeps _ rec)) fun _ => hstart.trans (.other rfl))
    (.foldl sendDirective_keeps _ _)

/-! ## Orders from the Black-Start Sequencer and Clear Set Fault (R61, R64) -/

theorem stopOne_keeps (s : State) (i : Fin 8) : Keeps s (s.stopOne i) := by
  unfold State.stopOne
  split
  case h_1 hs => exact setStopped_keeps (by rw [hs]; decide)
  case h_2 hs => exact setLeftBus_keeps (by rw [hs]; decide)
  all_goals exact .refl s

theorem stopAll_keeps (s : State) : Keeps s s.stopAll :=
  .trans (t := { s with shortfall := none, surplus := none }) (.other rfl) (.foldl stopOne_keeps _ _)

/-- The record that Clear Set Fault derives from a slot (R64). -/
def SetRec.rederived (r : SetRec) (slot : Option SetSlot) (now : Count) : SetRec :=
  let fresh := r.goUnknown now
  match slot with
  | some slot =>
    match slot.state with
    | .off => fresh.goStopped
    | .onBus => fresh.goOnline .elapsed
    | .cranking | .running | .tripped | .notReady => fresh
  | none => fresh

theorem rederiveSet_eq (s : State) (i : Fin 8) :
    s.rederiveSet i = s.updateSet i fun r => r.rederived s.setSlots[i] s.clk := rfl

theorem SetRec.rederived_agrees (r : SetRec) (slot : Option SetSlot) (now : Count) :
    SetRecordAgrees (r.rederived slot now) := by
  unfold SetRec.rederived
  simp only
  split
  · split
    · exact goStopped_agrees nofun (goUnknown_agrees _ _)
    · exact goOnline_agrees nofun
    all_goals exact goUnknown_agrees _ _
  · exact goUnknown_agrees _ _

theorem SetRec.rederived_mark (r : SetRec) (slot : Option SetSlot) (now : Count) :
    (r.rederived slot now).mark = false := by
  unfold SetRec.rederived
  simp only
  split
  · split <;> rfl
  · rfl

theorem rederiveSet_keeps (s : State) (i : Fin 8) : Keeps s (s.rederiveSet i) := by
  rw [rederiveSet_eq]
  exact .updateSet_unmarked (fun _ => SetRec.rederived_agrees _ _ _) (SetRec.rederived_mark _ _ _)

end Events

end Sys2Proof.Machine
end

section
/-! What the feeder transitions, the shed actions and the notices keep (R89, R119 to R135), and the ceilings (R69 to R83). -/

namespace Sys2Proof.Machine

/-! ## Feeder records and the Restoration Queue -/

/-- The breaker timer and the cause of a feeder record belong to its state (R89). -/
def FeederRecAgrees (r : FeederRec) : Prop :=
  (r.timer.isSome = true ↔ (r.state = .opening ∨ r.state = .closing))
    ∧ (r.state = .closed ∨ r.state = .openExt ∨ r.state = .disabled → r.cause = .none)

theorem enter_agrees (r : FeederRec) (st : FeederState) (now : Count) : FeederRecAgrees (r.enter st now) := by
  cases st <;> simp [FeederRecAgrees, FeederRec.enter, FeederState.timed, FeederState.dropsCause]

theorem enter_shed_agrees (r : FeederRec) (cause : FeederCause) (now : Count) :
    FeederRecAgrees { r.enter .openShed now with cause := cause } := by
  simp [FeederRecAgrees, FeederRec.enter, FeederState.timed]

theorem trip_agrees (r : FeederRec) (cause : FeederCause) (origin : Option Reach) (now : Count) :
    FeederRecAgrees (r.trip cause origin now) := by
  simp [FeederRecAgrees, FeederRec.trip, FeederRec.enter, FeederState.timed]

theorem foundFeeder_agrees (enabled level : Bool) : FeederRecAgrees (foundFeeder enabled level) := by
  cases enabled <;> cases level <;> simp [FeederRecAgrees, foundFeeder]

/-- A state of an enabled feeder that is not in the Restoration Queue. -/
def FeederState.Unqueued (st : FeederState) : Prop := st ≠ .openShed ∧ st ≠ .disabled

section Feeders

variable {s : State} {i : Fin 16}

theorem feeders_set_get (s : State) (i j : Fin 16) (r : FeederRec) :
    (s.feeders.set i r)[j] = if i = j then r else s.feeders[j] := by
  simp only [Fin.getElem_fin, Vector.getElem_set, Fin.ext_iff]

/-- A feeder gets a record of its own, and the queue takes it in or lets it go as the new state asks. -/
theorem enterFeeder_keeps {r : FeederRec} {q : List (Fin 16)} (hr : FeederRecAgrees r)
    (hdisabled : r.state = .disabled ↔ s.feeders[i].state = .disabled)
    (hq : QueueHoldsShedFeeders s → q.Nodup ∧ ∀ j, j ∈ q ↔ if i = j then r.state = .openShed else j ∈ s.queue) :
    Keeps s { s with feeders := s.feeders.set i r, queue := q } :=
  { Keeps.refl s with
    feeders := fun h j => by
      show FeederRecAgrees (s.feeders.set i r)[j]
      rw [feeders_set_get]
      split
      · exact hr
      · exact h j
    queue := fun h => by
      obtain ⟨hnodup, hmem⟩ := hq h
      obtain ⟨-, hshed, henabled⟩ := h
      refine ⟨hnodup, fun j => ?_, fun j => ?_⟩
      · show j ∈ q ↔ (s.feeders.set i r)[j].state = .openShed
        rw [hmem, feeders_set_get]
        split
        · exact Iff.rfl
        · exact hshed j
      · show _ ↔ (s.feeders.set i r)[j].state = .disabled
        rw [feeders_set_get]
        split
        next hij => subst hij; exact (henabled i).trans hdisabled.symm
        next => exact henabled j }

/-- A feeder outside the queue enters a state outside it. -/
theorem putFeeder_keeps {r : FeederRec} (hr : FeederRecAgrees r) (hold : s.feeders[i].state.Unqueued)
    (hnew : r.state.Unqueued) : Keeps s (s.putFeeder i r) :=
  enterFeeder_keeps hr (iff_of_false hnew.2 hold.2) fun ⟨hnodup, hshed, _⟩ => by
    refine ⟨hnodup, fun j => ?_⟩
    split
    next hij => subst hij; exact iff_of_false (mt (hshed i).mp hold.1) hnew.1
    next => exact Iff.rfl

/-- A feeder outside the queue enters OPEN_SHED and is placed (R120, R121). -/
theorem shed_keeps {r : FeederRec} (hr : FeederRecAgrees r) (hold : s.feeders[i].state.Unqueued)
    (hnew : r.state = .openShed) (reverted : Bool) : Keeps s ((s.putFeeder i r).placeShed i reverted) :=
  enterFeeder_keeps hr (iff_of_false (hnew ▸ by decide) hold.2) fun ⟨hnodup, hshed, _⟩ => by
    have hi : i ∉ s.queue := mt (hshed i).mp hold.1
    refine ⟨placeShed_nodup (s := s) reverted hnodup hi, fun j => (placeShed_mem s i reverted j).trans ?_⟩
    split
    next hij => exact iff_of_true (.inl hij.symm) hnew
    next hij => exact or_iff_right fun h => hij h.symm

/-- An OPEN_SHED feeder enters another state and leaves the queue (R122). -/
theorem leave_keeps {r : FeederRec} (hr : FeederRecAgrees r) (hold : s.feeders[i].state = .openShed)
    (hnew : r.state.Unqueued) : Keeps s ((s.putFeeder i r).handLeft i) :=
  enterFeeder_keeps hr (iff_of_false hnew.2 (hold ▸ by decide)) fun ⟨hnodup, _, _⟩ => by
    refine ⟨hnodup.erase i, fun j => (handLeft_mem hnodup i j).trans ?_⟩
    split
    next hij => exact iff_of_false (fun h => h.1 hij.symm) hnew.1
    next hij => exact and_iff_right fun h => hij h.symm

theorem unqueued_of_eq {st st' : FeederState} (h : st = st') (h' : st' ≠ .openShed ∧ st' ≠ .disabled) : st.Unqueued :=
  h ▸ h'

theorem moveFeeder_keeps {st : FeederState} (hold : s.feeders[i].state.Unqueued) (hnew : st.Unqueued) :
    Keeps s (s.moveFeeder i st) := putFeeder_keeps (enter_agrees _ _ _) hold hnew

theorem tripFeeder_keeps (hold : s.feeders[i].state.Unqueued) (cause : FeederCause) (origin : Option Reach) :
    Keeps s (s.tripFeeder i cause origin) :=
  putFeeder_keeps (trip_agrees _ _ _ _) hold ⟨nofun, nofun⟩

/-! ## The hold record and the settle timer -/

/-- A change of the hold record and the settle timer that keeps them consistent. -/
theorem setHold_keeps {h : Hold} {t : Settle}
    (hkeeps : HoldRecordAgrees s → HoldRecordAgrees { s with hold := h, settle := t }) :
    Keeps s { s with hold := h, settle := t } := { Keeps.refl s with hold := hkeeps }

theorem pause_isRunning (t : Settle) (now : Count) : (t.pause now).isRunning = false := by cases t <;> rfl

theorem resume_isPaused (t : Settle) (now : Count) : (t.resume now).isPaused = false := by cases t <;> rfl

theorem holdTakesEffect_keeps (hs : s.hold.state ≠ .none) : Keeps s s.holdTakesEffect :=
  setHold_keeps fun ⟨hholder, hmax, _, _⟩ =>
    ⟨hholder.trans (iff_of_true hs nofun), hmax.trans (iff_of_true hs nofun), fun _ => rfl,
      fun h => absurd h (by simp [pause_isRunning])⟩

theorem closingEnded_keeps (s : State) : Keeps s s.closingEnded :=
  .ite (fun h => holdTakesEffect_keeps (h.1 ▸ by decide)) fun _ => .refl s

theorem endHold_keeps (s : State) : Keeps s s.endHold :=
  setHold_keeps fun _ => ⟨by simp, by simp, fun h => absurd h (by simp [resume_isPaused]), fun _ => nofun⟩

theorem stopSettle_keeps (s : State) : Keeps s { s with settle := .stopped } :=
  setHold_keeps fun ⟨hholder, hmax, _, _⟩ => ⟨hholder, hmax, nofun, nofun⟩

theorem startSettle_keeps (s : State) : Keeps s s.startSettle :=
  setHold_keeps fun ⟨hholder, hmax, _, _⟩ => by
    refine ⟨hholder, hmax, ?_, ?_⟩ <;> by_cases h : s.hold.state = .inEffect <;>
      simp [h, Settle.isPaused, Settle.isRunning]

/-- The hold record and the settle timer go back to their values after reset. -/
theorem clearHold_keeps (s : State) : Keeps s { s with hold := .none, settle := .stopped } :=
  setHold_keeps fun _ => by simp [HoldRecordAgrees, Hold.none, Settle.isPaused, Settle.isRunning]

theorem handClosed_keeps (s : State) : Keeps s s.handClosed := (startSettle_keeps s).trans (closingEnded_keeps _)

/-- The queue is put in another order. -/
theorem reorder_keeps {q : List (Fin 16)} (hq : q.Perm s.queue) : Keeps s { s with queue := q } :=
  { Keeps.refl s with
    queue := fun ⟨hnodup, hshed, henabled⟩ => ⟨hq.nodup_iff.mpr hnodup, fun i => hq.mem_iff.trans (hshed i), henabled⟩ }

theorem rebuildQueue_keeps (s : State) : Keeps s s.rebuildQueue :=
  (reorder_keeps (List.perm_insertionSort s.higher s.queue)).trans (.trans (clearHold_keeps _) (.other rfl))

theorem softResetRestoration_keeps (s : State) : Keeps s s.softResetRestoration :=
  (clearHold_keeps s).trans (.other rfl)

/-! ## Breaker events and close orders (R91, R94) -/

theorem breakerEvent_keeps (s : State) (i : Fin 16) (level : Bool) : Keeps s (s.breakerEvent i level) := by
  have hout {a : FeederState} (h : s.feeders[i].state = a) (ha : a ≠ .openShed ∧ a ≠ .disabled) :=
    unqueued_of_eq h ha
  unfold State.breakerEvent
  split
  case h_1 _ hs | h_4 _ hs | h_5 _ hs | h_8 _ hs => exact moveFeeder_keeps (hout hs (by decide)) ⟨nofun, nofun⟩
  case h_2 _ hs | h_7 _ hs => exact shed_keeps (enter_agrees _ _ _) (hout hs (by decide)) rfl _
  case h_3 _ hs => exact leave_keeps (enter_agrees _ _ _) hs ⟨nofun, nofun⟩
  case h_6 _ hs => exact (moveFeeder_keeps (st := .closed) (hout hs (by decide)) ⟨nofun, nofun⟩).trans (handClosed_keeps _)
  case h_9 => exact .refl s

theorem closeFeeder_keeps (hs : s.feeders[i].state ≠ .disabled) : Keeps s (s.closeFeeder i) :=
  .ite (fun h => leave_keeps (enter_agrees _ _ _) h ⟨nofun, nofun⟩)
    fun h => moveFeeder_keeps ⟨h, hs⟩ ⟨nofun, nofun⟩

theorem restorationClose_keeps (s : State) (i : Fin 16) : Keeps s (s.restorationClose i) :=
  .ite (fun h => closeFeeder_keeps (h.1 ▸ by decide)) fun _ => .refl s

/-! ## Shed actions (R95 to R99, R107) -/

theorem closed_of_mem_chosen {reach : Reach} {width : Nat} (h : i ∈ s.chosen reach width) :
    s.feeders[i].state = .closed := by
  have := (List.mem_filter.mp (List.mem_of_mem_take h)).2
  simp only [State.eligible, Bool.and_eq_true, decide_eq_true_eq] at this
  exact this.1

theorem putFeeder_state (s : State) (i j : Fin 16) (r : FeederRec) :
    (s.putFeeder i r).feeders[j].state = if i = j then r.state else s.feeders[j].state := by
  show (s.feeders.set i r)[j].state = _
  rw [feeders_set_get]
  split <;> rfl

theorem walk_keeps (s : State) (reach : Reach) (causes : List FeederCause) : Keeps s (s.walk reach causes) := by
  refine .foldl_of (p := fun s x => s.feeders[x.1].state.Unqueued) (fun s x h => tripFeeder_keeps h _ _) ?_ ?_
  · rintro ⟨i, cause⟩ hx
    exact unqueued_of_eq (closed_of_mem_chosen (List.of_mem_zip hx).1) (by decide)
  · refine List.pairwise_of_forall fun x y t hy => ?_
    rw [State.tripFeeder, putFeeder_state]
    split
    · exact ⟨nofun, nofun⟩
    · exact hy

theorem shedOne_keeps (s : State) (cause : FeederCause) : Keeps s (s.shedOne cause) :=
  (walk_keeps s _ _).trans (.other rfl)

theorem substitute_keeps (s : State) (reach : Reach) (cause : FeederCause) : Keeps s (s.substitute reach cause) :=
  (walk_keeps s _ _).trans (.other rfl)

theorem revert_keeps (hs : s.feeders[i].state.Unqueued) (cause : FeederCause) : Keeps s (s.revert i cause) :=
  (shed_keeps (enter_shed_agrees _ _ _) hs rfl true).trans (closingEnded_keeps _)

theorem closingEnded_feeders (s : State) : s.closingEnded.feeders = s.feeders := by
  unfold State.closingEnded
  split <;> rfl

theorem revert_feeders (s : State) (i : Fin 16) (cause : FeederCause) :
    (s.revert i cause).feeders = (s.shedFeeder i cause).feeders := closingEnded_feeders _

theorem ladder_nodup (s : State) : s.ladder.Nodup :=
  (List.perm_insertionSort _ _).nodup_iff.mpr ((List.nodup_finRange 16).filter _)

/-- The reversions of a combined action (R97). -/
theorem reversions_keeps (s : State) (deep : Bool) (cause : FeederCause) :
    Keeps s ((s.toRevert deep).foldl (fun s i => s.revert i cause) s) := by
  refine .foldl_of (p := fun s i => s.feeders[i].state.Unqueued) (fun s i h => revert_keeps h _) ?_ ?_
  · intro i hi
    have := (List.mem_filter.mp hi).2
    simp only [Bool.and_eq_true, decide_eq_true_eq] at this
    exact unqueued_of_eq this.1 (by decide)
  · refine ((ladder_nodup s).filter _).imp fun {i j} hij t ht => ?_
    rw [revert_feeders, State.shedFeeder, putFeeder_state, if_neg hij]
    exact ht

theorem combinedAction_keeps (s : State) (firing : List (Fin 8)) : Keeps s (s.combinedAction firing) := by
  cases firing with
  | nil => exact .refl s
  | cons lowest rest =>
    exact (reversions_keeps s _ _).trans
      (.trans (walk_keeps _ _ _) (.trans (walk_keeps _ _ _) (.trans (.other rfl) (stopSettle_keeps _))))

theorem clearExhaustedIfIdle_keeps (s : State) (returned : Bool) : Keeps s (s.clearExhaustedIfIdle returned) :=
  .ite (fun _ => .other rfl) fun _ => .refl s

theorem evaluateStages_keeps (s : State) (f : Nat) (time : Count) (rocof : Option Int) :
    Keeps s (s.evaluateStages f time rocof) :=
  .trans (.ite (fun _ => .other rfl) fun _ => .other rfl)
    (.trans (clearExhaustedIfIdle_keeps _ _) (combinedAction_keeps _ _))

theorem ladderMeter_keeps (s : State) (ev : MeterEvent) : Keeps s (s.ladderMeter ev) := by
  unfold State.ladderMeter
  refine .trans (t := { s with notedMeter := ev.state }) (.other rfl) ?_
  simp only
  split
  · exact evaluateStages_keeps _ _ _ _
  · exact .trans (.other rfl) (clearExhaustedIfIdle_keeps _ _)

/-! ## Feeder reports and the work at a publication (R108, R114) -/

theorem queueReport_keeps (s : State) : Keeps s s.queueReport :=
  .trans (.send (f := .feederReport (partsOf s.runs) 0) nofun) (.other rfl)

theorem reserveShedStep_keeps (s : State) (rec : BalanceRecord) : Keeps s (s.reserveShedStep rec) := by
  unfold State.reserveShedStep
  refine .ite (fun _ => ?_) fun _ => .other rfl
  split
  · exact .other rfl
  · exact .ite (fun _ => (shedOne_keeps s _).trans (.other rfl)) fun _ => .refl s

theorem countReport_keeps (s : State) : Keeps s s.countReport :=
  .trans (t := { s with reportCount := s.reportCount + 1, firstReport := false }) (.other rfl)
    (.ite (fun _ => queueReport_keeps _) fun _ => .refl _)

theorem ladderTask_keeps (s : State) (rec : BalanceRecord) : Keeps s (s.ladderTask rec) :=
  (reserveShedStep_keeps s rec).trans (countReport_keeps _)

/-! ## Orders and requests on feeders (R92, R111, R112, R116, R130) -/

theorem openByRequest_keeps (s : State) (i : Fin 16) : Keeps s (s.openByRequest i) := by
  unfold State.openByRequest
  split
  case h_1 hs => exact tripFeeder_keeps (unqueued_of_eq hs (by decide)) _ _
  case h_2 hs => exact revert_keeps (unqueued_of_eq hs (by decide)) _
  case h_3 hs => exact shed_keeps (enter_shed_agrees _ _ _) (unqueued_of_eq hs (by decide)) rfl _
  all_goals exact .refl s

theorem openForBlackStart_keeps (s : State) (i : Fin 16) : Keeps s (s.openForBlackStart i) := by
  unfold State.openForBlackStart
  split
  case h_1 hs => exact tripFeeder_keeps (unqueued_of_eq hs (by decide)) _ _
  case h_2 hs => exact revert_keeps (unqueued_of_eq hs (by decide)) _
  case h_3 hs | h_4 hs => exact shed_keeps (enter_shed_agrees _ _ _) (unqueued_of_eq hs (by decide)) rfl _
  all_goals exact .refl s

theorem openAll_keeps (s : State) : Keeps s s.openAll := .foldl openForBlackStart_keeps _ s

theorem rederiveFeeder_keeps (s : State) (i : Fin 16) : Keeps s (s.rederiveFeeder i) := by
  have hout {a : FeederState} (h : s.feeders[i].state = a) (ha : a ≠ .openShed ∧ a ≠ .disabled) :=
    unqueued_of_eq h ha
  unfold State.rederiveFeeder
  split
  case h_1 hs _ => exact shed_keeps (enter_agrees _ _ _) (hout hs (by decide)) rfl _
  case h_2 hs _ | h_3 hs _ | h_4 hs _ => exact moveFeeder_keeps (hout hs (by decide)) ⟨nofun, nofun⟩
  case h_5 => exact .refl s

theorem breakerExpiry_keeps (s : State) (i : Fin 16) : Keeps s (s.breakerExpiry i) := by
  unfold State.breakerExpiry
  simp only
  split
  case h_1 hs =>
    have hstuck : Keeps s (s.moveFeeder i .stuckClosed) :=
      moveFeeder_keeps (unqueued_of_eq hs (by decide)) ⟨nofun, nofun⟩
    split
    · exact .ite (fun _ => hstuck) fun _ => hstuck.trans (substitute_keeps _ _ _)
    · exact hstuck
  case h_2 hs =>
    exact (moveFeeder_keeps (st := .stuckOpen) (unqueued_of_eq hs (by decide)) ⟨nofun, nofun⟩).trans
      (closingEnded_keeps _)
  all_goals exact .refl s

theorem holdOpen_keeps (s : State) (i : Fin 16) : Keeps s (s.holdOpen i) :=
  .ite (fun h => leave_keeps (enter_agrees _ _ _) h ⟨nofun, nofun⟩) fun _ => .refl s

theorem softResetLadder_keeps (s : State) : Keeps s s.softResetLadder := by
  have hheld : Keeps s ((indices 16).foldl State.holdOpen s) := .foldl holdOpen_keeps _ s
  unfold State.softResetLadder
  generalize (indices 16).foldl State.holdOpen s = t at hheld ⊢
  exact hheld.trans (.other rfl)

theorem examine_keeps (s : State) (rec : BalanceRecord) : Keeps s (s.examine rec) := by
  unfold State.examine
  refine .trans (t := s.lapseRestoreDelay) (.ite (fun _ => .other rfl) fun _ => .refl s) ?_
  generalize s.lapseRestoreDelay = s
  simp only
  split
  · exact .other rfl
  · exact .ite
      (fun _ => .ite (fun _ => .trans (t := { s with blocked := none }) (.other rfl) (restorationClose_keeps _ _))
        fun _ => .other rfl)
      fun _ => .other rfl

end Feeders

/-! ## Plant records -/

section Plants

variable {s : State}

/-- The allotment and the sent ceiling of a plant record lie within a rating (R69, R78). -/
def PlantRec.Within (r : PlantRec) (rating : Nat) : Prop := r.allotment ≤ rating ∧ r.sent ≤ rating

/-- Plant records change, and each configured one stays within its rating. -/
theorem plants_keeps {v : Vector PlantRec 4}
    (hv : ∀ p : Fin 4, 0 < s.cfg.pv[p].rating → s.plants[p].Within s.cfg.pv[p].rating → v[p].Within s.cfg.pv[p].rating) :
    Keeps s { s with plants := v } :=
  { Keeps.refl s with ceilings := fun h p hp => hv p hp (h p hp) }

theorem sendCeiling_keeps (s : State) (p : Fin 4) : Keeps s (s.sendCeiling p) := by
  refine .trans (plants_keeps (v := modifyAt s.plants p fun r => { r with lastQueued := r.sent }) fun q _ h => ?_)
    (.send nofun)
  rw [modifyAt_get]
  split
  next hpq => subst hpq; exact h
  next => exact h

theorem sendCeilings_keeps (s : State) : Keeps s s.sendCeilings := .foldl sendCeiling_keeps _ s

theorem allot_le_rating (s : State) (rec : BalanceRecord) (u : Nat) (p : Fin 4) :
    s.allot rec u p ≤ s.cfg.pv[p].rating := by
  unfold State.allot
  simp only
  split
  · exact le_rfl
  · exact min_le_left _ _

theorem form_within {r : PlantRec} {rating : Nat} (h : r.allotment ≤ rating) : r.form.Within rating := by
  refine ⟨h, ?_⟩
  unfold PlantRec.form
  simp only
  split
  · exact (min_le_left _ _).trans h
  · exact h

theorem formCeilings_keeps (s : State) : Keeps s s.formCeilings :=
  plants_keeps fun p _ h => by
    rw [Fin.getElem_fin, getElem_tabulate]
    split
    · exact form_within h.1
    · exact h

theorem setAllotments_keeps {f : Fin 4 → Nat} (hf : ∀ p, f p ≤ s.cfg.pv[p].rating) : Keeps s (s.setAllotments f) :=
  plants_keeps fun p _ h => by
    rw [Fin.getElem_fin, getElem_tabulate]
    split
    · exact ⟨hf p, h.2⟩
    · exact h

theorem computeCeilings_keeps (s : State) (rec : BalanceRecord) : Keeps s (s.computeCeilings rec) := by
  let u := nextU rec.uTarget (s.basis rec) (s.par RAMP_UP)
  have hu : Keeps s { s with aggU := u, freshStart := false } := .other rfl
  exact hu.trans (.trans (setAllotments_keeps (allot_le_rating s rec u)) (formCeilings_keeps _))

theorem limitPlants_keeps (s : State) (f : Nat) : Keeps s (s.limitPlants f) :=
  plants_keeps fun p _ h => by
    rw [Fin.getElem_fin, getElem_tabulate]
    simp only
    split
    · split <;> exact h
    · exact h

theorem lowerCeiling_keeps (s : State) (p : Fin 4) : Keeps s (s.lowerCeiling p) := by
  unfold State.lowerCeiling
  simp only
  split
  next lim _ =>
    refine .ite (fun hlim => ?_) fun _ => .refl s
    have hlowered : Keeps s { s with plants := s.plants.set p { s.plants[p] with
        sent := lim, sentCause := s.plants[p].causeNow } } := plants_keeps fun q _ h => by
      simp only [Fin.getElem_fin, Vector.getElem_set]
      split
      next hpq =>
        obtain rfl := Fin.ext hpq
        exact ⟨h.1, hlim.le.trans h.2⟩
      next => exact h
    exact .ite (fun _ => hlowered.trans (sendCeiling_keeps _ p)) fun _ => hlowered
  next => exact .refl s

theorem curtailmentMeter_keeps (s : State) (ev : MeterEvent) : Keeps s (s.curtailmentMeter ev) := by
  unfold State.curtailmentMeter
  split
  · exact (limitPlants_keeps s _).trans (.foldl lowerCeiling_keeps _ _)
  · refine plants_keeps fun p _ h => ?_
    rw [Fin.getElem_fin, getElem_tabulate]
    exact h

theorem forceZero_keeps (s : State) : Keeps s s.forceZero := by
  unfold State.forceZero
  refine .trans ?_ (.foldl sendCeiling_keeps _ _)
  refine .trans (t := { s with forcedZero := true, freshStart := false, pvReached := false, aggU := 0 }) (.other rfl) ?_
  refine plants_keeps fun p hp _ => ?_
  rw [Fin.getElem_fin, getElem_tabulate, if_pos ((State.plantConfigured_iff s p).mpr hp)]
  exact ⟨Nat.zero_le _, Nat.zero_le _⟩

theorem curtailmentWork_keeps (s : State) (rec : BalanceRecord) : Keeps s (s.curtailmentWork rec) := by
  have hcomputed := (computeCeilings_keeps s rec).trans (sendCeilings_keeps _)
  unfold State.curtailmentWork
  split
  · exact hcomputed
  · exact (formCeilings_keeps s).trans (sendCeilings_keeps _)
  · exact .ite (fun _ => hcomputed.trans (.other rfl)) fun _ => sendCeilings_keeps s

end Plants

end Sys2Proof.Machine
end

section
/-! What the Black-Start Sequencer, the mode changes, a publication and the end of an event keep (R30, R138 to R152, R159). -/

namespace Sys2Proof.Machine

/-- A fold of steps that leave a value alone leaves it alone. -/
theorem foldl_value {α β : Type} {g : State → β} {f : State → α → State} (h : ∀ s a, g (f s a) = g s) (l : List α)
    (s : State) : g (l.foldl f s) = g s := by
  induction l generalizing s with
  | nil => rfl
  | cons a l ih => exact (ih _).trans (h s a)

section Modes

variable {s : State}

/-- The sequencer's record belongs to a mode (R138, R140). -/
def SeqMatches (mode : Mode) (q : Sequencer) : Prop :=
  (mode = .blackstart ↔ q.phase ≠ .none)
    ∧ (q.phase = .none → q.attempts = 0 ∧ q.candidate = none ∧ q.passedOver = [] ∧ q.block = none)
    ∧ (q.trigger ≠ none → mode = .dispatch)

theorem phase_none_of_mode (hm : ModeMatchesPhase s) (hmode : s.mode ≠ .blackstart) : s.seq.phase = .none := by
  by_contra h
  exact hmode (hm.1.mpr h)

theorem modeMatches_iff : ModeMatchesPhase s ↔ SeqMatches s.mode s.seq := Iff.rfl

/-- Outside FIRST_SET no set carries the dead-bus mark. -/
theorem unmarked_of_phase (hk : MarkIsCandidate s) (hphase : s.seq.phase ≠ .firstSet) (i : Fin 8) :
    s.sets[i].mark ≠ true := fun h => hphase (hk i h).1

/-- Without a candidate no set carries the dead-bus mark. -/
theorem unmarked_of_candidate (hk : MarkIsCandidate s) (hc : s.seq.candidate = none) (i : Fin 8) :
    s.sets[i].mark ≠ true := fun h => nomatch hc.symm.trans (hk i h).2.1

/-- While a sequence runs its record may go on to any phase of it. -/
theorem seqMatches_of_phase {q : Sequencer} (hm : ModeMatchesPhase s) (hphase : s.seq.phase ≠ .none)
    (hq : q.phase ≠ .none) (ht : q.trigger = s.seq.trigger) : SeqMatches s.mode q :=
  ⟨hm.1.trans (iff_of_true hphase hq), fun h => absurd h hq, ht ▸ hm.2.2⟩

/-- The sequencer's record changes with the phase and the candidate as they are. -/
theorem seq_keeps {q : Sequencer} (hphase : q.phase = s.seq.phase) (hc : q.candidate = s.seq.candidate)
    (hmode : ModeMatchesPhase s → SeqMatches s.mode q) : Keeps s { s with seq := q } :=
  { Keeps.refl s with
    mode := hmode
    marks := fun _ _ hk i hi => by
      obtain ⟨h1, h2, h3⟩ := hk i hi
      exact ⟨hphase.trans h1, hc.trans h2, h3⟩ }

/-- The sequencer's record changes while no set carries the dead-bus mark. -/
theorem seq_keeps_unmarked {q : Sequencer} (hmode : ModeMatchesPhase s → SeqMatches s.mode q)
    (hno : ModeMatchesPhase s → SetRecordsAgree s → MarkIsCandidate s → ∀ i : Fin 8, s.sets[i].mark ≠ true) :
    Keeps s { s with seq := q } :=
  { Keeps.refl s with
    mode := hmode
    marks := fun hm hs hk i hi => absurd hi (hno hm hs hk i) }

/-- Whatever becomes of the sequencer's record and of the fields that no promise speaks of. -/
theorem KeepsMost.setSeq {q : Sequencer} {o z : Bool} :
    KeepsMost s { s with seq := q, ordering := o, forcedZero := z } := { (Keeps.refl s).toKeepsMost with }

/-! ## Changes of mode (R159) -/

theorem setMode_mode (s : State) (m : Mode) : (s.setMode m).mode = m := by
  unfold State.setMode
  split
  next h => exact h
  next => exact (redirectAll_setsFrame _).mode

theorem setMode_cfg (s : State) (m : Mode) : (s.setMode m).cfg = s.cfg := by
  unfold State.setMode
  split
  next => rfl
  next => exact (redirectAll_setsFrame _).cfg

theorem setMode_seq (s : State) (m : Mode) : (s.setMode m).seq =
    if s.mode = m then s.seq else { s.seq with trigger := if m = .dispatch then s.seq.trigger else none } := by
  unfold State.setMode
  split
  next => rfl
  next => exact (redirectAll_setsFrame _).seq

theorem setMode_phase (s : State) (m : Mode) : (s.setMode m).seq.phase = s.seq.phase := by
  rw [setMode_seq]; split <;> rfl

theorem setMode_candidate (s : State) (m : Mode) : (s.setMode m).seq.candidate = s.seq.candidate := by
  rw [setMode_seq]; split <;> rfl

theorem redirectAll_mark (s : State) (i : Fin 8) : s.redirectAll.sets[i].mark = s.sets[i].mark := by
  rw [redirectAll_sets, derivedSet_mark]

theorem setMode_mark (s : State) (m : Mode) (i : Fin 8) : (s.setMode m).sets[i].mark = s.sets[i].mark := by
  unfold State.setMode
  split
  next => rfl
  next => exact redirectAll_mark _ i

/-- Every directive is derived again after a change of mode. -/
theorem KeepsMost.rederived {u : State} (hu : u = { s with
    mode := u.mode, shortfall := u.shortfall, surplus := u.surplus, reserveShed := u.reserveShed, seq := u.seq }) :
    KeepsMost s u.redirectAll := by
  have h := redirectAll_keeps u
  have hothers : KeepsMost s { u with mode := s.mode } := by
    rw [hu]
    exact { (Keeps.refl s).toKeepsMost with }
  exact {
    pending := h.pending.trans hothers.pending, clk := h.clk.trans hothers.clk, power := h.power.trans hothers.power
    fn := h.fn.trans hothers.fn, meter := h.meter.trans hothers.meter
    feeders := h.feeders ∘ hothers.feeders, sets := h.sets ∘ hothers.sets, hold := h.hold ∘ hothers.hold
    queue := h.queue ∘ hothers.queue, keys := h.keys ∘ hothers.keys
    directives := fun _ => redirectAll_directives u
    ceilings := h.ceilings ∘ hothers.ceilings, params := h.params ∘ hothers.params }

theorem setMode_keepsMost (s : State) (m : Mode) : KeepsMost s (s.setMode m) := by
  unfold State.setMode
  split
  next => exact (Keeps.refl s).toKeepsMost
  next => exact .rederived rfl

theorem setMode_marks (m : Mode) (hk : MarkIsCandidate s) : MarkIsCandidate (s.setMode m) := fun i hi => by
  rw [setMode_mark] at hi
  rw [setMode_phase, setMode_candidate, setMode_cfg]
  exact hk i hi

/-- A change between DISPATCH and OBSERVE. -/
theorem setMode_keeps {m : Mode} (hmode : s.mode ≠ .blackstart) (hm : m ≠ .blackstart) : Keeps s (s.setMode m) where
  toKeepsMost := setMode_keepsMost s m
  mode := fun h => by
    have hphase := phase_none_of_mode h hmode
    show SeqMatches (s.setMode m).mode (s.setMode m).seq
    rw [setMode_mode, setMode_seq]
    split
    next hsame => exact hsame ▸ h
    next =>
      refine ⟨iff_of_false hm (not_not.mpr hphase), h.2.1, fun ht => ?_⟩
      by_contra hd
      exact ht (if_neg hd)
  marks := fun _ _ => setMode_marks m

/-! ## Ends of a sequence (R149, R151, R152) -/

/-- The mode becomes OBSERVE with the phase NONE. -/
theorem setObserve_matches {q : Sequencer} (hm : ModeMatchesPhase s) (hq : q.trigger = s.seq.trigger)
    (hended : q.phase = .none ∧ q.attempts = 0 ∧ q.candidate = none ∧ q.passedOver = [] ∧ q.block = none) :
    SeqMatches .observe (if s.mode = .observe then q else { q with trigger := if Mode.observe = .dispatch then q.trigger else none }) := by
  obtain ⟨hphase, hfields⟩ := hended
  split
  next hsame => exact ⟨iff_of_false nofun (not_not.mpr hphase), fun _ => hfields, fun ht => hsame ▸ hm.2.2 (hq ▸ ht)⟩
  next => exact ⟨iff_of_false nofun (not_not.mpr hphase), fun _ => hfields, fun ht => absurd rfl ht⟩

theorem endInObserve_keeps (s : State) (failed : Bool) : Keeps s (s.endInObserve failed) := by
  have hended : KeepsMost s { s with seq := s.seq.ended failed, ordering := false, forcedZero := false } := .setSeq
  have hset := setMode_keepsMost { s with seq := s.seq.ended failed, ordering := false, forcedZero := false } .observe
  have hmode := setMode_mode { s with seq := s.seq.ended failed, ordering := false, forcedZero := false } .observe
  have hseq := setMode_seq { s with seq := s.seq.ended failed, ordering := false, forcedZero := false } .observe
  unfold State.endInObserve
  generalize State.setMode { s with seq := s.seq.ended failed, ordering := false, forcedZero := false } .observe = u at *
  have hcleared := clearMarks_keeps u
  exact {
    toKeepsMost := (hended.trans hset).trans hcleared.toKeepsMost
    mode := fun h => by
      refine hcleared.mode (modeMatches_iff.mpr ?_)
      rw [hmode, hseq]
      exact setObserve_matches (s := s) h rfl ⟨rfl, rfl, rfl, rfl, rfl⟩
    marks := fun _ _ _ i hi => absurd ((clearMarks_mark u i).symm.trans hi) nofun }

theorem endInObserve_mode (s : State) (failed : Bool) : (s.endInObserve failed).mode = .observe :=
  (clearMarks_setsFrame _).mode.trans (setMode_mode _ _)

theorem completeBlackStart_keeps (hphase : s.seq.phase ≠ .firstSet) : Keeps s s.completeBlackStart := by
  let s1 := { s with seq := s.seq.ended false }
  have hended : KeepsMost s s1 := .setSeq
  exact {
    toKeepsMost := hended.trans (setMode_keepsMost s1 .dispatch)
    mode := fun _ => by
      show SeqMatches (s1.setMode .dispatch).mode (s1.setMode .dispatch).seq
      rw [setMode_mode, setMode_seq]
      split <;> exact ⟨iff_of_false nofun (not_not.mpr rfl), fun _ => ⟨rfl, rfl, rfl, rfl⟩, fun _ => rfl⟩
    marks := fun _ _ hk i hi => by
      replace hi : (s1.setMode .dispatch).sets[i].mark = true := hi
      rw [setMode_mark] at hi
      exact absurd hi (unmarked_of_phase hk hphase i) }

theorem toDispatch_keeps (hmode : s.mode ≠ .blackstart) : Keeps s s.toDispatch :=
  (seq_keeps (q := { s.seq with failed := false }) rfl rfl id).trans (setMode_keeps hmode nofun)

/-! ## RESTORE, PV_RETURN and ADD_SETS (R147 to R149) -/

/-- A sequence goes on to a phase in which no set carries the dead-bus mark. -/
theorem phase_keeps {q : Sequencer} (hphase : s.seq.phase ≠ .none) (hq : q.phase ≠ .none)
    (ht : q.trigger = s.seq.trigger) (hfirst : s.seq.phase ≠ .firstSet) : Keeps s { s with seq := q } :=
  seq_keeps_unmarked (fun hm => seqMatches_of_phase hm hphase hq ht) fun _ _ hk => unmarked_of_phase hk hfirst

theorem enterRestore_keeps (hphase : s.seq.phase = .addSets) : Keeps s s.enterRestore :=
  phase_keeps (by rw [hphase]; nofun) nofun rfl (by rw [hphase]; nofun)

theorem enterPvReturn_keeps (hphase : s.seq.phase = .restore) : Keeps s s.enterPvReturn :=
  .trans (phase_keeps (q := { s.seq with phase := .pvReturn, block := none }) (by rw [hphase]; nofun) nofun rfl
    (by rw [hphase]; nofun)) (.other rfl)

theorem restoreCheck_keeps (s : State) : Keeps s s.restoreCheck := by
  unfold State.restoreCheck
  refine .ite (fun hphase => ?_) fun _ => .refl s
  have hne : s.seq.phase ≠ .none := by rw [hphase]; nofun
  have hblock (t : Option BlockTimer) : Keeps s { s with seq := { s.seq with block := t } } :=
    seq_keeps rfl rfl fun hm => seqMatches_of_phase hm hne hne rfl
  refine .ite (fun _ => enterPvReturn_keeps hphase) fun _ => ?_
  split
  · exact .ite (fun _ => enterPvReturn_keeps hphase) fun _ => hblock _
  · exact hblock none

theorem stopped_of_lowestPriority {p : Fin 8 → Bool} {i : Fin 8}
    (h : s.lowestPriority ((s.setsIn [.stopped]).filter p) = some i) : s.sets[i].state = .stopped := by
  simpa using (mem_setsIn.mp (List.mem_filter.mp (leastBy_mem _ h)).1).2

theorem lookAddSets_keeps (hphase : s.seq.phase = .addSets) : Keeps s s.lookAddSets := by
  have hne : s.seq.phase ≠ .none := by rw [hphase]; nofun
  unfold State.lookAddSets
  refine .ite (fun _ => enterRestore_keeps hphase) fun _ => ?_
  split
  next i hi =>
    exact (seq_keeps (q := { s.seq with runOrder := some i }) rfl rfl fun hm => seqMatches_of_phase hm hne hne rfl).trans
      (startSet_keeps (.inl (stopped_of_lowestPriority hi)))
  next => exact enterRestore_keeps hphase

theorem enterAddSets_keeps (hphase : s.seq.phase = .firstSet)
    (hno : SetRecordsAgree s → MarkIsCandidate s → ∀ i : Fin 8, s.sets[i].mark ≠ true) : Keeps s s.enterAddSets :=
  .trans (seq_keeps_unmarked (q := { s.seq with phase := .addSets, candidate := none, passedOver := [], runOrder := none })
    (fun hm => seqMatches_of_phase hm (by rw [hphase]; nofun) nofun rfl) fun _ => hno) (lookAddSets_keeps rfl)

theorem addSetsCheck_keeps (s : State) : Keeps s s.addSetsCheck := by
  unfold State.addSetsCheck
  refine .ite (fun hphase => ?_) fun _ => .refl s
  have hne : s.seq.phase ≠ .none := by rw [hphase]; nofun
  split
  next i _ =>
    refine .ite (fun _ => .refl s) fun _ => ?_
    let passed := if s.sets[i].state = .online then s.seq.passedOver else s.seq.passedOver ++ [i]
    have hseq : Keeps s { s with seq := { s.seq with runOrder := none, passedOver := passed } } :=
      seq_keeps rfl rfl fun hm => seqMatches_of_phase hm hne hne rfl
    exact hseq.trans (lookAddSets_keeps hphase)
  next => exact .refl s

/-! ## FIRST_SET (R145, R146) -/

theorem lookFirstSet_keeps (hphase : s.seq.phase = .firstSet) (hc : s.seq.candidate = none) : Keeps s s.lookFirstSet := by
  have hne : s.seq.phase ≠ .none := by rw [hphase]; nofun
  unfold State.lookFirstSet
  refine .ite (fun _ => enterAddSets_keeps hphase fun _ hk => unmarked_of_candidate hk hc) fun _ => ?_
  split
  next i hi =>
    obtain ⟨⟨hconf, -⟩, hstate⟩ := mem_firstSetCandidates.mp (leastBy_mem _ hi)
    exact (seq_keeps_unmarked (q := { s.seq with candidate := some i }) (fun hm => seqMatches_of_phase hm hne hne rfl)
      fun _ _ hk => unmarked_of_candidate hk hc).trans (deadBusOrder_keeps hstate hphase rfl hconf)
  next => exact .ite (fun _ => .refl s) fun _ => endInObserve_keeps s true

theorem candidateCheck_keeps (hphase : s.seq.phase = .firstSet) : Keeps s s.candidateCheck := by
  have hne : s.seq.phase ≠ .none := by rw [hphase]; nofun
  unfold State.candidateCheck
  split
  next c hc =>
    refine .ite (fun hlost => ?_) fun _ => .refl s
    have hseq : Keeps s { s with seq := { s.seq with candidate := none } } :=
      seq_keeps_unmarked (fun hm => seqMatches_of_phase hm hne hne rfl) fun _ hs hk i hi => by
        obtain rfl := Option.some.inj (hc.symm.trans (hk i hi).2.1)
        have hstart : s.sets[c].state ≠ .starting := by
          obtain h | h := hlost <;> rw [h] <;> nofun
        exact absurd hi (by rw [SetRec.mark_of_agrees (hs c) hstart]; nofun)
    exact hseq.trans (lookFirstSet_keeps hphase rfl)
  next hc => exact lookFirstSet_keeps hphase hc

/-- The candidate has lost its mark, so that no set carries one. -/
theorem unmarked_of_candidate_unmarked {c : Fin 8} (hk : MarkIsCandidate s) (hc : s.seq.candidate = some c)
    (hmark : s.sets[c].mark = false) (i : Fin 8) : s.sets[i].mark ≠ true := fun hi => by
  obtain rfl := Option.some.inj (hc.symm.trans (hk i hi).2.1)
  exact absurd (hmark.symm.trans hi) nofun

theorem setOnline_mark_self (s : State) (i : Fin 8) : (s.setOnline i).sets[i].mark = false := updateSet_mark_self

theorem formedCheck_keeps (hphase : s.seq.phase = .firstSet) : Keeps s s.formedCheck := by
  unfold State.formedCheck
  split
  next c hc =>
    refine .ite (fun _ => ?_) fun _ => .refl s
    refine .ite (fun _ => ?_) fun _ => .ite (fun _ => ?_) fun _ => .refl s
    · have hseq : (s.setOnline c).seq = s.seq := (updateSet_setsFrame s c _).seq
      exact setOnline_keeps.trans (enterAddSets_keeps (by rw [hseq, hphase]) fun _ hk =>
        unmarked_of_candidate_unmarked hk (by rw [hseq, hc]) (setOnline_mark_self s c))
    · have hseq : (s.clearMark c).seq = s.seq := (clearMark_setsFrame s c).seq
      exact (clearMark_keeps s c).trans (enterAddSets_keeps (by rw [hseq, hphase]) fun _ hk =>
        unmarked_of_candidate_unmarked hk (by rw [hseq, hc]) (clearMark_mark_self s c))
  next => exact .refl s

theorem firstSetCheck_keeps (s : State) : Keeps s s.firstSetCheck :=
  .ite (fun hphase => .ite (fun h => (candidateCheck_keeps hphase).trans (formedCheck_keeps h))
    fun _ => candidateCheck_keeps hphase) fun _ => .refl s

/-! ## PREPARE and the trigger (R140 to R144, R150) -/

/-- The record at an entry into PREPARE. -/
def Sequencer.preparing (q : Sequencer) : Sequencer :=
  { q with phase := .prepare, candidate := none, passedOver := [], block := none, runOrder := none }

/-- The four orders of R143. -/
def State.prepareOrders (s : State) : State := s.rebuildQueue.openAll.forceZero.stopAll

theorem enterPrepare_eq (s : State) : s.enterPrepare = { s with seq := s.seq.preparing }.prepareOrders := rfl

theorem prepareOrders_keeps (s : State) : Keeps s s.prepareOrders :=
  (rebuildQueue_keeps s).trans ((openAll_keeps _).trans ((forceZero_keeps _).trans (stopAll_keeps _)))

theorem beginSequence_keeps (hmode : ModeMatchesPhase s → s.mode ≠ .blackstart) : Keeps s s.beginSequence := by
  let s1 := { s with seq := { s.seq with attempts := 1, trigger := none } }
  let s2 := s1.setMode .blackstart
  have hbegun : KeepsMost s s1 := .setSeq
  have hmarks (hm : ModeMatchesPhase s) (hk : MarkIsCandidate s) : ∀ i : Fin 8, s2.sets[i].mark ≠ true := fun i => by
    rw [setMode_mark]
    exact unmarked_of_phase hk (by rw [phase_none_of_mode hm (hmode hm)]; nofun) i
  have hentered : Keeps s { s2 with seq := s2.seq.preparing } := {
    toKeepsMost := (hbegun.trans (setMode_keepsMost s1 .blackstart)).trans .setSeq
    mode := fun hm => by
      show SeqMatches s2.mode s2.seq.preparing
      rw [setMode_mode, setMode_seq, if_neg (hmode hm)]
      exact ⟨iff_of_true rfl nofun, nofun, fun h => absurd rfl h⟩
    marks := fun hm _ hk i hi => absurd hi (hmarks hm hk i) }
  exact hentered.trans (prepareOrders_keeps _)

theorem lossOfBus_keeps (hphase : s.seq.phase ≠ .none) (hfirst : s.seq.phase ≠ .firstSet) : Keeps s s.lossOfBus := by
  have hcounted : Keeps s { s with seq := { s.seq with attempts := s.seq.attempts + 1 } } :=
    seq_keeps rfl rfl fun hm => seqMatches_of_phase hm hphase hphase rfl
  refine hcounted.trans (.ite (fun _ => endInObserve_keeps _ _) fun _ => ?_)
  exact .trans (phase_keeps (q := Sequencer.preparing { s.seq with attempts := s.seq.attempts + 1 }) hphase nofun rfl hfirst)
    (prepareOrders_keeps _)

theorem sequencerMeter_keeps (s : State) (ev : MeterEvent) : Keeps s (s.sequencerMeter ev) :=
  .ite (fun h => by
    have hphase := h.2
    simp only [List.mem_cons, List.not_mem_nil, or_false] at hphase
    refine lossOfBus_keeps ?_ ?_ <;> obtain h | h | h := hphase <;> rw [h] <;> nofun) fun _ => .refl s

theorem prepareCheck_keeps (s : State) : Keeps s s.prepareCheck :=
  .ite (fun h => .trans (phase_keeps (q := { s.seq with phase := .firstSet, candidate := none })
    (by rw [h.1]; nofun) nofun rfl (by rw [h.1]; nofun)) (.other rfl)) fun _ => .refl s

theorem triggerCheck_keeps (s : State) : Keeps s s.triggerCheck := by
  unfold State.triggerCheck
  refine .ite (fun h => ?_) fun _ => seq_keeps rfl rfl fun hm => ⟨hm.1, hm.2.1, fun h => absurd rfl h⟩
  split
  · exact .refl s
  · exact .ite (fun _ => beginSequence_keeps fun _ => (by rw [h.1]; nofun))
      fun _ => seq_keeps rfl rfl fun hm => ⟨hm.1, hm.2.1, fun _ => h.1⟩

theorem sequencerReact_keeps (s : State) : Keeps s s.sequencerReact :=
  (triggerCheck_keeps s).trans ((prepareCheck_keeps _).trans ((firstSetCheck_keeps _).trans (addSetsCheck_keeps _)))

theorem meterEvent_keeps (s : State) (ev : MeterEvent) : Keeps s (s.meterEvent ev) :=
  (ladderMeter_keeps s ev).trans ((curtailmentMeter_keeps _ ev).trans (sequencerMeter_keeps _ ev))

/-! ## A publication (R18, R30) -/

theorem statusTask_keeps (s : State) (rec : BalanceRecord) : Keeps s (s.statusTask rec) :=
  .trans (.send (f := s.statusA rec) nofun) (.send nofun)

theorem sendCeilings_seq (s : State) : s.sendCeilings.seq = s.seq :=
  foldl_value (g := State.seq) (f := State.sendCeiling) (fun _ _ => rfl) _ s

theorem curtailmentWork_seq (s : State) (rec : BalanceRecord) : (s.curtailmentWork rec).seq = s.seq := by
  unfold State.curtailmentWork
  split
  · exact sendCeilings_seq _
  · exact sendCeilings_seq _
  · split
    · exact sendCeilings_seq (s.computeCeilings rec)
    · exact sendCeilings_seq _

theorem curtailmentTask_keeps (s : State) (rec : BalanceRecord) : Keeps s (s.curtailmentTask rec) :=
  .ite (fun h => (curtailmentWork_keeps s rec).trans
      (completeBlackStart_keeps (by rw [curtailmentWork_seq, h.2.1]; nofun)))
    fun _ => curtailmentWork_keeps s rec

theorem runTask_keeps (s : State) (rec : BalanceRecord) (t : Task) : Keeps s (s.runTask rec t) := by
  cases t with
  | status => exact statusTask_keeps s rec
  | commitment => exact commitmentTask_keeps s rec
  | curtailment => exact curtailmentTask_keeps s rec
  | ladder => exact ladderTask_keeps s rec
  | restoration => exact examine_keeps s rec
  | sequencer => exact restoreCheck_keeps s

theorem takeUpParameters_keeps (s : State) : Keeps s s.takeUpParameters :=
  { Keeps.refl s with
    params := fun h p => by
      have hlive : s.takeUpParameters.cfg.params[p] = s.paramPending[p].getD s.cfg.params[p] := by
        simp [State.takeUpParameters]
      have hpending : s.takeUpParameters.paramPending[p] = none := by simp [State.takeUpParameters]
      rw [hlive, hpending]
      refine ⟨?_, nofun⟩
      cases hp : s.paramPending[p] with
      | none => exact (h p).1
      | some v => exact (h p).2 v hp }

theorem balanceExpiry_keeps (s : State) (due : Count) : Keeps s (s.balanceExpiry due) := by
  have hbegun : Keeps s (s.beginInterval due) :=
    .trans (t := { s with cycle := s.cycle + 1, tbalEnds := some (due + tBAL) }) (.other rfl) (takeUpParameters_keeps _)
  exact hbegun.trans (.trans (t := (s.beginInterval due).publish.useFree) (.other rfl)
    (.foldl (fun s t => runTask_keeps s _ t) _ _))

/-! ## The end of an event -/

theorem reportChanges_keeps (s before : State) : Keeps s (s.reportChanges before) :=
  .ite (fun _ => .refl s) fun _ => queueReport_keeps s

theorem refreshAlert_keeps (s : State) : Keeps s s.refreshAlert := .other rfl

theorem finish_keeps (s before : State) : Keeps s (s.finish before) :=
  (sequencerReact_keeps s).trans ((reportChanges_keeps _ before).trans (refreshAlert_keeps _))

theorem ending_keeps {f : State → State} (h : Keeps s (f s)) : Keeps s (s.ending f) := h.trans (finish_keeps _ s)

end Modes

end Sys2Proof.Machine
end

section
/-! ALERT and the trigger timer at the end of an event (R140, R168), and what a whole command does to the promises. -/

namespace Sys2Proof.Machine

section Ends

variable {s t u : State}

theorem alertSet_any_iff (s : State) : s.alertSet.any = true ↔
    (∃ i : Fin 8, s.sets[i].state = .failed)
      ∨ (∃ i : Fin 16, s.feeders[i].state = .stuckClosed ∨ s.feeders[i].state = .stuckOpen)
      ∨ (∃ k : Fin 8, s.stages[k].state = .fired)
      ∨ s.exhausted = true ∨ s.seq.failed = true ∨ s.storeBad = true := by
  have hstuck (st : FeederState) : st.stuck = true ↔ st = .stuckClosed ∨ st = .stuckOpen := by
    cases st <;> simp [FeederState.stuck]
  simp [AlertSet.any, State.alertSet, List.any_eq_true, hstuck, or_assoc]

theorem refreshAlert_follows (h : s.power = .running) : AlertFollowsSet s.refreshAlert :=
  ⟨fun _ => alertSet_any_iff s, fun hne => absurd h hne⟩

theorem blackStartConditions_iff (s : State) : s.blackStartConditions = true ↔ BlackStartConditions s := by
  have hnone : s.noneOnline = true ↔ NoSetOnline s := by
    simp only [State.noneOnline, List.isEmpty_iff, List.eq_nil_iff_forall_not_mem, mem_setsIn, List.mem_singleton, not_and]
  have hremains : s.capableRemains = true ↔ SomeCapableSet s := by
    simp only [State.capableRemains, List.any_eq_true, mem_capableSets, decide_eq_true_eq, and_assoc]
  simp only [State.blackStartConditions, Bool.and_eq_true, decide_eq_true_eq, hnone, hremains, Bool.not_eq_true', and_assoc]

theorem parOn_iff (s : State) (p : Param) : s.parOn p = true ↔ s.cfg.params[p] = 1 := decide_eq_true_iff

/-- R140: the conditions under which the trigger timer runs. -/
abbrev TriggerRuns (s : State) : Prop :=
  s.mode = .dispatch ∧ s.cfg.params[AUTO_BS] = 1 ∧ BlackStartConditions s

theorem triggerRuns_iff (s : State) :
    (s.mode = .dispatch ∧ s.parOn AUTO_BS = true ∧ s.blackStartConditions = true) ↔ TriggerRuns s := by
  rw [parOn_iff, blackStartConditions_iff]

/-! The four cases of R140. -/

theorem triggerCheck_of_not (h : ¬ TriggerRuns s) : s.triggerCheck = { s with seq := { s.seq with trigger := none } } :=
  if_neg fun hc => h ((triggerRuns_iff s).mp hc)

theorem triggerCheck_of_running (h : TriggerRuns s) {ends : Count} (ht : s.seq.trigger = some ends) :
    s.triggerCheck = s := by
  rw [State.triggerCheck, if_pos ((triggerRuns_iff s).mpr h), ht]

theorem triggerCheck_of_start (h : TriggerRuns s) (ht : s.seq.trigger = none) (hdelay : s.cfg.params[BS_DELAY] ≠ 0) :
    s.triggerCheck = { s with seq := { s.seq with trigger := some (s.clk + sec (s.par BS_DELAY)) } } := by
  rw [State.triggerCheck, if_pos ((triggerRuns_iff s).mpr h), ht]
  exact if_neg hdelay

theorem triggerCheck_of_begin (h : TriggerRuns s) (ht : s.seq.trigger = none) (hdelay : s.cfg.params[BS_DELAY] = 0) :
    s.triggerCheck = s.beginSequence := by
  rw [State.triggerCheck, if_pos ((triggerRuns_iff s).mpr h), ht]
  exact if_pos hdelay

/-! ## The mode at the sequencer's looks -/

theorem stopAll_mode (s : State) : s.stopAll.mode = s.mode :=
  foldl_value (g := State.mode) (f := State.stopOne) (fun s i => (stopOne_setsFrame s i).mode) _ _

theorem forceZero_mode (s : State) : s.forceZero.mode = s.mode :=
  foldl_value (g := State.mode) (f := State.sendCeiling) (fun _ _ => rfl) _ _

theorem revert_mode (s : State) (i : Fin 16) (cause : FeederCause) : (s.revert i cause).mode = s.mode := by
  show (State.closingEnded _).mode = _
  unfold State.closingEnded
  split <;> rfl

theorem openForBlackStart_mode (s : State) (i : Fin 16) : (s.openForBlackStart i).mode = s.mode := by
  unfold State.openForBlackStart
  split
  case h_2 => exact revert_mode s i _
  all_goals rfl

theorem openAll_mode (s : State) : s.openAll.mode = s.mode :=
  foldl_value (g := State.mode) openForBlackStart_mode _ s

theorem prepareOrders_mode (s : State) : s.prepareOrders.mode = s.mode :=
  (stopAll_mode _).trans ((forceZero_mode _).trans (openAll_mode _))

theorem beginSequence_mode (s : State) : s.beginSequence.mode = .blackstart :=
  (prepareOrders_mode _).trans (setMode_mode _ _)

theorem lookAddSets_mode (s : State) : s.lookAddSets.mode = s.mode := by
  unfold State.lookAddSets
  split
  · rfl
  · split
    · exact (updateSet_setsFrame _ _ _).mode
    · rfl

theorem addSetsCheck_mode (s : State) : s.addSetsCheck.mode = s.mode := by
  unfold State.addSetsCheck
  split
  · split
    · simp only
      split
      · rfl
      · exact lookAddSets_mode _
    · rfl
  · rfl

theorem lookFirstSet_mode (s : State) : s.lookFirstSet.mode = s.mode ∨ s.lookFirstSet.mode = .observe := by
  unfold State.lookFirstSet
  split
  · exact .inl (lookAddSets_mode _)
  · split
    · exact .inl (updateSet_setsFrame _ _ _).mode
    · split
      · exact .inl rfl
      · exact .inr (endInObserve_mode s true)

theorem candidateCheck_mode (s : State) : s.candidateCheck.mode = s.mode ∨ s.candidateCheck.mode = .observe := by
  unfold State.candidateCheck
  split
  · split
    · exact lookFirstSet_mode _
    · exact .inl rfl
  · exact lookFirstSet_mode s

theorem formedCheck_mode (s : State) : s.formedCheck.mode = s.mode := by
  unfold State.formedCheck
  split
  · split
    · split
      · exact (lookAddSets_mode _).trans (updateSet_setsFrame s _ _).mode
      · split
        · exact (lookAddSets_mode _).trans (clearMark_setsFrame s _).mode
        · rfl
    · rfl
  · rfl

/-- A look in FIRST_SET goes on with the sequence or ends it in OBSERVE. -/
theorem firstSetCheck_mode (s : State) : s.firstSetCheck.mode = s.mode ∨ s.firstSetCheck.mode = .observe := by
  unfold State.firstSetCheck
  split
  · simp only
    split
    · rw [formedCheck_mode]
      exact candidateCheck_mode s
    · exact candidateCheck_mode s
  · exact .inl rfl

theorem prepareCheck_mode (s : State) : s.prepareCheck.mode = s.mode := by
  unfold State.prepareCheck
  split <;> rfl

/-! ## Outside a sequence the sequencer does not look -/

theorem prepareCheck_of_phase (h : s.seq.phase ≠ .prepare) : s.prepareCheck = s := if_neg fun hc => h hc.1

theorem firstSetCheck_of_phase (h : s.seq.phase ≠ .firstSet) : s.firstSetCheck = s := if_neg h

theorem addSetsCheck_of_phase (h : s.seq.phase ≠ .addSets) : s.addSetsCheck = s := if_neg h

theorem looks_of_phase_none (h : s.seq.phase = .none) : s.prepareCheck.firstSetCheck.addSetsCheck = s := by
  rw [prepareCheck_of_phase (by rw [h]; nofun), firstSetCheck_of_phase (by rw [h]; nofun),
    addSetsCheck_of_phase (by rw [h]; nofun)]

/-! ## The trigger timer follows its conditions -/

/-- Outside DISPATCH the trigger timer is clear, as it should be. -/
theorem trigger_of_mode (hm : ModeMatchesPhase s) (hmode : s.mode ≠ .dispatch) : TriggerFollowsConditions s :=
  fun _ => iff_of_false (fun h => hmode (hm.2.2 h)) fun h => hmode h.1

theorem triggerCheck_trigger (hm : ModeMatchesPhase s) : TriggerFollowsConditions s.triggerCheck := by
  by_cases hruns : TriggerRuns s
  · cases ht : s.seq.trigger with
    | some ends =>
      rw [triggerCheck_of_running hruns ht]
      exact fun _ => iff_of_true (by rw [ht]; nofun) hruns
    | none =>
      by_cases hdelay : s.cfg.params[BS_DELAY] = 0
      · have hk := beginSequence_keeps (s := s) fun _ => (by rw [hruns.1]; nofun)
        rw [triggerCheck_of_begin hruns ht hdelay]
        exact trigger_of_mode (hk.mode hm) (by rw [beginSequence_mode]; nofun)
      · rw [triggerCheck_of_start hruns ht hdelay]
        exact fun _ => iff_of_true nofun hruns
  · rw [triggerCheck_of_not hruns]
    exact fun _ => iff_of_false (fun h => h rfl) hruns

theorem sequencerReact_trigger (hm : ModeMatchesPhase s) : TriggerFollowsConditions s.sequencerReact := by
  have hchecked := (triggerCheck_keeps s).mode hm
  have htrigger := triggerCheck_trigger hm
  have hreact := (sequencerReact_keeps s).mode hm
  unfold State.sequencerReact at *
  generalize s.triggerCheck = u at *
  by_cases hmode : u.mode = .dispatch
  · rwa [looks_of_phase_none (phase_none_of_mode hchecked (by rw [hmode]; nofun))]
  · refine trigger_of_mode hreact ?_
    rw [addSetsCheck_mode]
    obtain h | h := firstSetCheck_mode u.prepareCheck
    · rwa [h, prepareCheck_mode]
    · rw [h]; nofun

/-- What ALERT and the trigger timer depend on stands. -/
structure Settled (s t : State) : Prop where
  power : t.power = s.power
  alertPin : t.alertPin = s.alertPin
  meterState : t.meter.state = s.meter.state
  feeders : t.feeders = s.feeders
  stages : t.stages = s.stages
  exhausted : t.exhausted = s.exhausted
  seq : t.seq = s.seq
  storeBad : t.storeBad = s.storeBad
  mode : t.mode = s.mode
  params : t.cfg.params = s.cfg.params
  roster : t.cfg.roster = s.cfg.roster
  setStates : ∀ i : Fin 8, t.sets[i].state = s.sets[i].state

theorem Settled.refl (s : State) : Settled s s := ⟨rfl, rfl, rfl, rfl, rfl, rfl, rfl, rfl, rfl, rfl, rfl, fun _ => rfl⟩

theorem Settled.trans (h : Settled s t) (h' : Settled t u) : Settled s u where
  power := h'.power.trans h.power
  alertPin := h'.alertPin.trans h.alertPin
  meterState := h'.meterState.trans h.meterState
  feeders := h'.feeders.trans h.feeders
  stages := h'.stages.trans h.stages
  exhausted := h'.exhausted.trans h.exhausted
  seq := h'.seq.trans h.seq
  storeBad := h'.storeBad.trans h.storeBad
  mode := h'.mode.trans h.mode
  params := h'.params.trans h.params
  roster := h'.roster.trans h.roster
  setStates := fun i => (h'.setStates i).trans (h.setStates i)

/-- A change of fields that neither ALERT nor the trigger timer depends on. -/
theorem Settled.other (h : t = { s with
    pending := t.pending, clk := t.clk, startBegan := t.startBegan, freeCount := t.freeCount, pins := t.pins
    tbalEnds := t.tbalEnds, cycle := t.cycle, record := t.record, held := t.held, lane := t.lane
    laneWaiting := t.laneWaiting, setSlots := t.setSlots, pvSlots := t.pvSlots, txQueue := t.txQueue
    txBuffer := t.txBuffer, cfg := { s.cfg with lockFlag := t.cfg.lockFlag }, paramPending := t.paramPending
    shortfall := t.shortfall, surplus := t.surplus, plants := t.plants, aggU := t.aggU, freshStart := t.freshStart
    forcedZero := t.forcedZero, pvReached := t.pvReached, reserveShed := t.reserveShed, mshedLevel := t.mshedLevel
    notedMeter := t.notedMeter, reportCount := t.reportCount, firstReport := t.firstReport, queue := t.queue
    settle := t.settle, restoreDelay := t.restoreDelay, blocked := t.blocked, hold := t.hold, ordering := t.ordering
    cfglockLevel := t.cfglockLevel, window := t.window, store := t.store, save := t.save }) : Settled s t := by
  rw [h]
  exact ⟨rfl, rfl, rfl, rfl, rfl, rfl, rfl, rfl, rfl, rfl, rfl, fun _ => rfl⟩

theorem Settled.ite {c : Prop} [Decidable c] {a b : State} (ha : Settled s a) (hb : Settled s b) :
    Settled s (if c then a else b) := by
  split <;> assumption

theorem Settled.alert (h : Settled s t) (ha : AlertFollowsSet s) : AlertFollowsSet t := by
  obtain ⟨hpower, hpin, -, hfeeders, hstages, hexhausted, hseq, hbad, -, -, -, hsets⟩ := h
  simpa only [AlertFollowsSet, hpower, hpin, hfeeders, hstages, hexhausted, hseq, hbad, hsets] using ha

theorem Settled.trigger (h : Settled s t) (ht : TriggerFollowsConditions s) : TriggerFollowsConditions t := by
  obtain ⟨hpower, -, hmeter, -, -, -, hseq, hbad, hmode, hparams, hroster, hsets⟩ := h
  simpa only [TriggerFollowsConditions, BlackStartConditions, NoSetOnline, SomeCapableSet, hpower, hmeter, hseq, hbad,
    hmode, hparams, hroster, hsets] using ht

theorem queueReport_settled (s : State) : Settled s s.queueReport := .other rfl

theorem reportChanges_settled (s before : State) : Settled s (s.reportChanges before) :=
  .ite (.refl s) (queueReport_settled s)

/-- Every promise on the trigger timer at the end of an event. -/
theorem finish_trigger (hm : ModeMatchesPhase s) (before : State) : TriggerFollowsConditions (s.finish before) := by
  have h := (reportChanges_settled s.sequencerReact before).trigger (sequencerReact_trigger hm)
  unfold State.finish
  generalize s.sequencerReact.reportChanges before = u at h ⊢
  exact h

end Ends

/-! ## Acts of the running device -/

section Acts

variable {s t u : State} {m m' : Meter}

/-- What a command, or a part of one, does to the promises: it leaves the meter at `m`, keeps what `Keeps` says, and ALERT
and the trigger timer follow. -/
structure Acts (s : State) (m : Meter) (t : State) : Prop where
  keeps : Keeps { s with meter := m } t
  alert : AlertFollowsSet s → AlertFollowsSet t
  trigger : ModeMatchesPhase s → TriggerFollowsConditions s → TriggerFollowsConditions t

/-- No kept promise speaks of the meter. -/
theorem Keeps.withMeter (h : Keeps s t) (m : Meter) : Keeps { s with meter := m } { t with meter := m } :=
  { h with meter := rfl }

theorem Keeps.withMeter_trans (h : Keeps { s with meter := m } t) (h' : Keeps { t with meter := m' } u) :
    Keeps { s with meter := m' } u := (h.withMeter m').trans h'

theorem Acts.trans (h : Acts s m t) (h' : Acts t m' u) : Acts s m' u where
  keeps := h.keeps.withMeter_trans h'.keeps
  alert := h'.alert ∘ h.alert
  trigger := fun hm ht => h'.trigger (h.keeps.mode hm) (h.trigger hm ht)

theorem Acts.quiet (h : Keeps s t) (hs : Settled s t) : Acts s s.meter t := ⟨h, hs.alert, fun _ => hs.trigger⟩

theorem Acts.refl (s : State) : Acts s s.meter s := .quiet (.refl s) (.refl s)

theorem Acts.power (h : Acts s m t) : t.power = s.power := h.keeps.power

theorem Acts.ite {c : Prop} [Decidable c] {a b : State} (ha : c → Acts s m a) (hb : ¬ c → Acts s m b) :
    Acts s m (if c then a else b) := by
  split
  next h => exact ha h
  next h => exact hb h

/-- An event acts and ends. -/
theorem Acts.ending (hrun : s.power = .running) {f : State → State} (h : Keeps { s with meter := m } (f s)) :
    Acts s m (s.ending f) where
  keeps := h.trans (finish_keeps _ s)
  alert := fun _ => refreshAlert_follows (by
    show ((f s).sequencerReact.reportChanges s).power = _
    rw [(reportChanges_keeps _ s).power, (sequencerReact_keeps _).power, h.power, hrun])
  trigger := fun hm _ => finish_trigger (h.mode hm) s

theorem Acts.ended (hrun : s.power = .running) {f : State → State} (h : Keeps s (f s)) : Acts s s.meter (s.ending f) :=
  .ending hrun h

theorem Acts.answer {rx : Rx} (hrx : ReplyAddress s rx.src.toNat) (code : BitVec 5) (result : Result) (data : List Byte) :
    Acts s s.meter (s.answer rx code result data) := .quiet (.answer hrx) (.other rfl)

/-! ## Time, frames and pins -/

/-- Passing time changes the count and E alone, and no promise but that on the meter speaks of them. -/
theorem Keeps.afterTime {dt : Nat} (h : Keeps { s.elapse dt with meter := m } t) :
    Keeps { s with clk := s.clk + dt, meter := m } t := h

theorem quiet_acts {dt : Nat} {f : State → State} {g : State → Meter} (hidle : s.power ≠ .running → g (s.elapse dt) = s.meter.elapse dt)
    (hf : ∀ u : State, u.power = .running → Acts u (g u) (f u)) : Acts (s.elapse dt) (g (s.elapse dt)) (s.quiet dt f) := by
  by_cases hrun : s.power = .running
  · rw [quiet_of_running hrun]
    exact hf _ hrun
  · rw [quiet_of_not_running hrun, hidle hrun]
    exact .refl _

theorem quietly_acts {dt : Nat} {f : State → State} (hf : ∀ u : State, u.power = .running → Acts u u.meter (f u)) :
    Acts (s.elapse dt) (s.meter.elapse dt) (s.quiet dt f) := quiet_acts (g := State.meter) (fun _ => rfl) hf

theorem event_acts {dt : Nat} {f : State → State} (hf : ∀ u : State, u.power = .running → Keeps u (f u)) :
    Acts (s.elapse dt) (s.meter.elapse dt) (s.event dt f) := quietly_acts fun u hu => .ended hu (hf u hu)

theorem frameEvent_acts {rx : Rx} {f : State → State} (hf : ∀ u : State, u.power = .running → Acts u u.meter (f u)) :
    Acts (s.elapse rx.dt) (s.meter.elapse rx.dt) (s.frameEvent rx f) :=
  quietly_acts fun u hu => .ite (fun _ => hf u hu) fun _ => .refl u

theorem pinChange_acts {dt : Nat} {changes : Bool} {set : Pins → Pins} {act : State → State}
    (hact : ∀ u : State, u.power = .running → Acts u u.meter (act u)) :
    Acts (s.elapse dt) (s.meter.elapse dt) (s.pinChange dt changes set act) := by
  have hpins : Acts (s.elapse dt) (s.meter.elapse dt) { s.elapse dt with pins := set s.pins } :=
    .quiet (.other rfl) (.other rfl)
  exact .ite (fun _ => .ite (fun hrun => hpins.trans (hact _ hrun)) fun _ => hpins) fun _ => .refl _

/-! ## Requests (R161) -/

theorem fromSupervisor_of_role {rx : Rx} (h : s.roleOf rx.src.toNat = .supervisor) : FromSupervisor rx := by
  unfold State.roleOf at h
  split at h
  next hs => exact hs
  next =>
    split at h
    · cases h
    · split at h <;> cases h

theorem replyAddress_of_genset {rx : Rx} {i : Fin 8} (h : s.roleOf rx.src.toNat = .genset i) :
    ReplyAddress s rx.src.toNat := by
  unfold State.roleOf at h
  split at h
  · cases h
  · split at h
    next j hj => exact .inr (.inr ⟨j, setAt_some hj⟩)
    next => split at h <;> cases h

theorem replyAddress_of_supervisor {rx : Rx} (h : FromSupervisor rx) (s : State) : ReplyAddress s rx.src.toNat :=
  h.elim .inl fun h => .inr (.inl h)

/-- A request that no check refuses comes from a role that may send it, and in a mode that takes it. -/
theorem refusal_none {role : Role} {g : Gate} (h : s.refusal role g = none) :
    role.allowed g.gensets = true ∧ (g.seqActive = true → s.mode ≠ .blackstart) := by
  unfold State.refusal at h
  split at h
  · cases h
  next hrole =>
    split at h
    · cases h
    next hseq => exact ⟨by simpa using hrole, fun hg hm => hseq ⟨hg, hm⟩⟩

/-- A request is discarded, answered with a refusal, or taken by its own cases (R161, R162). -/
theorem request_cases {P : State → Prop} {rx : Rx} {code : BitVec 5} {g : Gate} {own : State → State} (hskip : P s)
    (hrefused : ReplyAddress s rx.src.toNat → ∀ result data, P (s.answer rx code result data))
    (hown : ReplyAddress s rx.src.toNat → (g.gensets = false → FromSupervisor rx) →
      (g.seqActive = true → s.mode ≠ .blackstart) → P (own s)) : P (s.request rx code g own) := by
  unfold State.request
  split
  · exact hskip
  · exact hskip
  next hrole =>
    have hs := fromSupervisor_of_role hrole
    have haddress := replyAddress_of_supervisor hs s
    split
    · exact hrefused haddress _ _
    · exact hrefused haddress _ _
    next h => exact hown haddress (fun _ => hs) (refusal_none h).2
  next i hrole =>
    have haddress := replyAddress_of_genset hrole
    split
    · exact hrefused haddress _ _
    · exact hrefused haddress _ _
    next h =>
      obtain ⟨hallowed, hseq⟩ := refusal_none h
      exact hown haddress (fun hg => absurd (hg.symm.trans hallowed) nofun) hseq

theorem requestEvent_acts {rx : Rx} {code : BitVec 5} {g : Gate} {own : State → State}
    (hown : ∀ u : State, u.power = .running → ReplyAddress u rx.src.toNat → (g.gensets = false → FromSupervisor rx) →
      (g.seqActive = true → u.mode ≠ .blackstart) → Acts u u.meter (own u)) :
    Acts (s.elapse rx.dt) (s.meter.elapse rx.dt) (s.requestEvent rx code g own) :=
  frameEvent_acts fun u hu => request_cases (.refl u) (fun haddress _ _ => .answer haddress _ _ _)
    fun haddress hs hm => hown u hu haddress hs hm

end Acts

end Sys2Proof.Machine
end

section
/-! What every command keeps, and the promises of Safety.lean that every step so keeps. -/

namespace Sys2Proof.Machine

section Operations

variable {s : State}

/-! ## Meter (R4 to R9) -/

/-- The length of the period that a rising edge would end (R5 to R7): E, in ACQUIRING and VALID. -/
def Meter.ending (m : Meter) : Option Count :=
  match m.state, m.elapsed with
  | .acquiring, some e | .valid, some e => some e
  | _, _ => none

theorem Meter.ending_eq_some {m : Meter} {e : Count} :
    m.ending = some e ↔ (m.state = .acquiring ∨ m.state = .valid) ∧ m.elapsed = some e := by
  unfold Meter.ending
  split
  next hs he => simp [hs, he]
  next hs he => simp [hs, he]
  next hacq hval => exact iff_of_false nofun fun ⟨h, he⟩ => h.elim (fun hs => hacq e hs he) fun hs => hval e hs he

theorem Meter.ending_eq_none {m : Meter} :
    m.ending = none ↔ ¬ ((m.state = .acquiring ∨ m.state = .valid) ∧ ∃ e, m.elapsed = some e) := by
  rw [Option.eq_none_iff_forall_ne_some]
  simp only [ne_eq, Meter.ending_eq_some, not_and, not_exists]
  exact ⟨fun h hs e => h e hs, fun h e hs => h hs e⟩

/-- The meter record after a rising edge (R4 to R7): a period, a glitch, a late edge, which loses the signal and begins
anew, or a reference edge. -/
def Meter.edge (m : Meter) : Meter :=
  match m.ending with
  | some e => if e < tPMIN then m else if e ≤ tPMAX then (m.period e).1 else m.lose.reference
  | none => m.reference

theorem risingEdge_eq (s : State) : s.risingEdge =
    match s.meter.ending with
    | some e =>
      if e < tPMIN then s
      else if e ≤ tPMAX then
        if (s.meter.period e).2 then s.publishMeter (s.meter.period e).1 else { s with meter := (s.meter.period e).1 }
      else (s.publishMeter s.meter.lose).publishMeter s.meter.lose.reference
    | none => s.publishMeter s.meter.reference := by
  unfold State.risingEdge
  split
  next e hs he => rw [Meter.ending_eq_some.mpr ⟨.inl hs, he⟩]
  next e hs he => rw [Meter.ending_eq_some.mpr ⟨.inr hs, he⟩]
  next hacq hval =>
    have hnone : s.meter.ending = none :=
      Meter.ending_eq_none.mpr fun ⟨h, e, he⟩ => h.elim (fun hs => hacq e hs he) fun hs => hval e hs he
    rw [hnone]

theorem publishMeter_keeps (s : State) (m : Meter) : Keeps { s with meter := m } (s.publishMeter m) := meterEvent_keeps _ _

theorem risingEdge_keeps (s : State) : Keeps { s with meter := s.meter.edge } s.risingEdge := by
  rw [risingEdge_eq, Meter.edge]
  cases s.meter.ending with
  | none => exact publishMeter_keeps s _
  | some e =>
    simp only
    split
    · exact .refl s
    · split
      · exact .ite (fun _ => publishMeter_keeps s _) fun _ => .refl _
      · exact (publishMeter_keeps s _).withMeter_trans (publishMeter_keeps _ _)

theorem publishMeter_if_keeps (b : Bool) (m : Meter) :
    Keeps { s with meter := if b then m else s.meter } (if b then s.publishMeter m else s) := by
  cases b
  · exact .refl s
  · exact publishMeter_keeps s m

/-! ## Pins (R91, R93, R109, R152) -/

theorem fstatChanges_acts (hrun : s.power = .running) (old new : Vector Bool 16) : Acts s s.meter (s.fstatChanges old new) := by
  unfold State.fstatChanges
  generalize s.changedLines old new = l
  induction l generalizing s with
  | nil => exact .refl s
  | cons i l ih =>
    have hone : Acts s s.meter (s.ending fun s => s.breakerEvent i new[i]) := .ended hrun (breakerEvent_keeps s i _)
    rw [List.foldl_cons]
    generalize (s.ending fun s => s.breakerEvent i new[i]) = t at hone ⊢
    have hrest := ih (hone.power.trans hrun)
    rw [hone.keeps.meter] at hrest
    exact hone.trans hrest

theorem mshedEdge_keeps (s : State) (level : Bool) : Keeps s (s.mshedEdge level) :=
  .trans (t := { s with mshedLevel := level }) (.other rfl) (.ite (fun _ => shedOne_keeps _ _) fun _ => .refl _)

theorem bsabortEdge_keeps (s : State) (level : Bool) : Keeps s (s.bsabortEdge level) :=
  .trans (t := { s with seq := { s.seq with abortLevel := level } }) (seq_keeps rfl rfl id)
    (.ite (fun _ => endInObserve_keeps _ _) fun _ => .refl _)

/-! ## Station bus (R171, R182, R186) -/

theorem dropSentReport_keys (q : List Frame) :
    ((dropSentReport q).map Frame.key).Sublist (q.map Frame.key) := by
  unfold dropSentReport
  split
  · split
    · exact List.sublist_cons_self _ _
    · exact .refl _
  · exact .refl _

theorem leaves_keys (f : Frame) (rest : List Frame) :
    ((f.leaves ++ rest).map Frame.key).Sublist ((f :: rest).map Frame.key) := by
  cases f
  case feederReport => exact .refl _
  all_goals exact List.sublist_cons_self _ _

theorem takeHead_acts (s : State) : Acts s s.meter s.takeHead := by
  unfold State.takeHead
  split
  next f rest _ hq =>
    have hqueue : Keeps s { s with txQueue := f.leaves ++ rest } := .fewerKeys (hq ▸ leaves_keys f rest)
    exact .quiet (hqueue.trans (.other rfl)) (.other rfl)
  next => exact .refl s

theorem switchLane_acts (s : State) : Acts s s.meter s.switchLane := .quiet (.other rfl) (.other rfl)

theorem boundary_acts (s : State) : Acts s s.meter s.boundary := .ite (fun _ => switchLane_acts s) fun _ => .refl s

theorem frameSent_acts (s : State) : Acts s s.meter s.frameSent := by
  unfold State.frameSent
  split
  · have hqueue : Keeps s { s with txQueue := dropSentReport s.txQueue } := .fewerKeys (dropSentReport_keys _)
    have hsent : Acts s s.meter { s with txBuffer := none, txQueue := dropSentReport s.txQueue } :=
      .quiet (hqueue.trans (.other rfl)) (.other rfl)
    exact hsent.trans (boundary_acts _)
  · exact .refl s

theorem laneChange_acts (s : State) (wire : Wire) : Acts s s.meter (s.laneChange wire) :=
  .ite (fun _ => .quiet (.other rfl) (.other rfl)) fun _ => switchLane_acts s

theorem entryFrame_acts (s : State) (rx : Rx) (table : Nat) (fields : List Byte) :
    Acts s s.meter (s.entryFrame rx table fields) := by
  unfold State.entryFrame
  split
  · exact .ite (fun _ => .quiet (.other rfl) (.other rfl)) fun _ => .quiet (.other rfl) (.other rfl)
  · exact .ite (fun hs => .answer (replyAddress_of_supervisor hs s) _ _ _) fun _ => .refl s

theorem entryData_acts (s : State) (rx : Rx) (data : List Byte) : Acts s s.meter (s.entryData rx data) :=
  .ite (fun _ => entryFrame_acts s rx _ _) fun _ => .refl s

theorem unknownCode_acts (s : State) (rx : Rx) (code : BitVec 5) : Acts s s.meter
    (match s.roleOf rx.src.toNat with
      | .stranger | .pvController => s
      | .supervisor | .genset _ => s.answer rx code .invalid []) := by
  split
  · exact .refl s
  · exact .refl s
  next h => exact .answer (replyAddress_of_supervisor (fromSupervisor_of_role h) s) _ _ _
  next h => exact .answer (replyAddress_of_genset h) _ _ _

theorem pvReport_acts (s : State) (src output available : Nat) : Acts s s.meter (s.pvReport src output available) := by
  unfold State.pvReport
  split
  · exact .quiet (.other rfl) (.other rfl)
  · exact .refl s

theorem setReport_acts (hrun : s.power = .running) (src : Nat) (code : Byte) (output : Nat) :
    Acts s s.meter (s.setReport src code output) := by
  unfold State.setReport
  split
  · exact .ended hrun (takeSetReport_keeps s _ _ _)
  · exact .refl s

/-! ## Quiet timers (R39, R127, R135, R172, R180) -/

theorem minRunLapse_acts (s : State) (i : Fin 8) :
    Acts s s.meter { s with sets := modifyAt s.sets i fun r => { r with minRun := r.minRun.lapse s.clk } } := by
  have hlapse (t : MinRun) (now : Count) : t.lapse now = .absent ↔ t = .absent := by
    cases t with
    | running ends => by_cases h : ends ≤ now <;> simp [MinRun.lapse, h]
    | absent => simp [MinRun.lapse]
    | elapsed => simp [MinRun.lapse]
  refine .quiet (.setTimers ?_ rfl rfl rfl) { Settled.refl s with setStates := fun j => ?_ }
  · exact fun ⟨hrun, hothers⟩ => ⟨(hlapse _ _).trans hrun, hothers⟩
  · show (modifyAt s.sets i fun r => { r with minRun := r.minRun.lapse s.clk })[j].state = _
    rw [modifyAt_get]
    split
    next hij => subst hij; rfl
    next => rfl

theorem settleLapse_acts (s : State) : Acts s s.meter { s with settle := s.settle.lapse s.clk } := by
  refine .quiet ?_ (.other rfl)
  cases hs : s.settle with
  | running ends =>
    unfold Settle.lapse
    by_cases h : ends ≤ s.clk
    · simp only [if_pos h]
      exact stopSettle_keeps s
    · simp only [if_neg h, ← hs]
      exact .refl s
  | stopped => exact stopSettle_keeps s
  | paused left => simp only [Settle.lapse, ← hs]; exact .refl s

theorem endHold_acts (s : State) : Acts s s.meter s.endHold := .quiet (endHold_keeps s) (.other rfl)

theorem endGap_acts (s : State) : Acts s s.meter { s with hold := { s.hold with gapEnds := none } } :=
  .quiet (setHold_keeps id) (.other rfl)

/-- A frame for a supervisor's address is queued, and the save ends or not. -/
theorem endWrite_acts (s : State) : Acts s s.meter s.endWrite := by
  unfold State.endWrite
  split
  next w hw =>
    have hdone : Keeps s { s with store := .whole w.image, save := none } :=
      { Keeps.refl s with keys := fun ⟨hnodup, hreply, _⟩ => ⟨hnodup, hreply, nofun⟩ }
    refine .quiet ?_ (.other rfl)
    -- the requester of a running save is a supervisor, by the promise on the Transmit Queue itself
    exact { hdone with
      keys := fun ⟨hnodup, hreply, hsave⟩ =>
        (Keeps.send (s := { s with store := .whole w.image, save := none })
          (f := .reply w.requester 0x10 .accepted (w.image.drop contentLength)) fun dest hd =>
          Key.reply.inj hd ▸ (hsave w hw).elim .inl fun h => .inr (.inl h)).keys ⟨hnodup, hreply, nofun⟩ }
  next => exact .refl s

/-! ## Tables (R67, R87, R117, R175) -/

/-- A roster commit but for the derivation of the directives (R67, R184, R185). -/
def State.rostered (s : State) (t : Vector SetEntry 8) : State :=
  { s with
    cfg := { s.cfg with roster := t }
    sets := tabulate fun (i : Fin 8) => s.sets[i].recommit (s.setReplaced t i) (decide (0 < t[i].rating)) s.clk
    setSlots := tabulate fun (i : Fin 8) =>
      if t[i].address = s.cfg.roster[i].address ∧ 0 < t[i].rating ∧ 0 < s.cfg.roster[i].rating
      then s.setSlots[i] else none
    txQueue := s.txQueue.filter (s.keepsSetFrame t) }

theorem commitRoster_eq (s : State) (t : Vector SetEntry 8) : s.commitRoster t = (s.rostered t).redirectAll := rfl

theorem rostered_sets (s : State) (t : Vector SetEntry 8) (i : Fin 8) :
    (s.rostered t).sets[i] = s.sets[i].recommit (s.setReplaced t i) (decide (0 < t[i].rating)) s.clk := by
  simp [State.rostered]

theorem recommit_mark {r : SetRec} {replaced configured : Bool} {now : Count}
    (h : (r.recommit replaced configured now).mark = true) : r.mark = true := by
  cases replaced
  · exact h
  · cases configured <;> cases h

/-- What a roster commit leaves in the Transmit Queue waits for addresses that still have a reply key (R185). -/
theorem rostered_keys (t : Vector SetEntry 8) (h : QueueKeysDistinct s) : QueueKeysDistinct (s.rostered t) := by
  obtain ⟨hnodup, hreply, hsave⟩ := h
  refine ⟨hnodup.sublist (List.filter_sublist.map _), fun dest hdest => ?_, hsave⟩
  obtain ⟨f, hf, hkey⟩ := List.mem_map.mp hdest
  have hkept := (List.mem_filter.mp hf).2
  cases f with
  | reply d code result data =>
    obtain rfl := Key.reply.inj hkey
    simp only [State.keepsSetFrame, Bool.or_eq_true, decide_eq_true_eq, List.any_eq_true, or_assoc] at hkept
    exact hkept.imp_right (Or.imp_right fun ⟨i, _, hi⟩ => ⟨i, hi⟩)
  | statusA | statusB | setDirective | pvCeiling | feederReport => cases hkey

theorem commitRoster_keeps (hmode : s.mode ≠ .blackstart) (t : Vector SetEntry 8) : Keeps s (s.commitRoster t) := by
  rw [commitRoster_eq]
  have hsets (hs : SetRecordsAgree s) : SetRecordsAgree (s.rostered t) := fun i => by
    rw [rostered_sets]
    exact SetRec.recommit_agrees (hs i)
  have hmarks (hm : ModeMatchesPhase s) (hk : MarkIsCandidate s) : MarkIsCandidate (s.rostered t) := fun i hi => by
    rw [rostered_sets] at hi
    exact absurd (recommit_mark hi) (unmarked_of_phase hk (by rw [phase_none_of_mode hm hmode]; nofun) i)
  have h := redirectAll_keeps (s.rostered t)
  exact {
    pending := h.pending, clk := h.clk, power := h.power, fn := h.fn, meter := h.meter
    feeders := h.feeders, sets := h.sets ∘ hsets, hold := h.hold, queue := h.queue, keys := h.keys ∘ rostered_keys t
    mode := h.mode, directives := fun _ => redirectAll_directives _, ceilings := h.ceilings, params := h.params
    marks := fun hm hs hk => h.marks hm (hsets hs) (hmarks hm hk) }

theorem recommit_within {r : PlantRec} {old new : PvEntry} (hnew : 0 < new.rating) :
    (r.recommit old new).Within new.rating := by
  unfold PlantRec.recommit
  rw [if_neg hnew.ne']
  split
  · exact ⟨le_rfl, le_rfl⟩
  · simp only
    split <;> exact ⟨min_le_right _ _, min_le_right _ _⟩

theorem commitPv_keeps (s : State) (t : Vector PvEntry 4) : Keeps s (s.commitPv t) :=
  { Keeps.refl s with
    keys := fun ⟨hnodup, hreply, hsave⟩ =>
      have hsub := List.filter_sublist.map Frame.key (l₂ := s.txQueue)
      ⟨hnodup.sublist hsub, fun dest hd => hreply dest (hsub.subset hd), hsave⟩
    ceilings := fun _ p hp => by
      have hplant : (s.commitPv t).plants[p] = s.plants[p].recommit s.cfg.pv[p] t[p] := by simp [State.commitPv]
      rw [hplant]
      exact recommit_within hp }

/-- A feeder whose entry a valid copy disables is in a state that uses no entry (R174). -/
theorem unused_of_validate {t : Vector FeederEntry 16} (h : s.validate (.feeder t) = none) {i : Fin 16}
    (hi : t[i].enabled = false) :
    s.feeders[i].state = .disabled ∨ s.feeders[i].state = .closed ∨ s.feeders[i].state = .openExt := by
  have hcheck := List.findSome?_eq_none_iff.mp h i (mem_indices i)
  rw [Option.map_eq_none_iff, Option.or_eq_none_iff] at hcheck
  have huse : s.feederInUse t i = false := by
    by_contra hu
    rw [Bool.not_eq_false] at hu
    rw [if_pos hu] at hcheck
    exact absurd hcheck.2 nofun
  by_contra hstate
  exact decide_eq_false_iff_not.mp huse ⟨by simpa using hstate, .inl hi⟩

theorem commitFeeders_keeps {t : Vector FeederEntry 16} (h : s.validate (.feeder t) = none) :
    Keeps s (s.commitFeeders t) := by
  have hget (i : Fin 16) : (s.commitFeeders t).feeders[i] =
      if t[i].enabled = s.cfg.feeders[i].enabled then s.feeders[i] else foundFeeder t[i].enabled s.pins.fstat[i] := by
    simp [State.commitFeeders]
  exact { Keeps.refl s with
    feeders := fun hf i => by
      show FeederRecAgrees (s.commitFeeders t).feeders[i]
      rw [hget]
      split
      · exact hf i
      · exact foundFeeder_agrees _ _
    queue := fun ⟨hnodup, hshed, henabled⟩ => by
      refine ⟨hnodup, fun i => (hshed i).trans ?_, fun i => ?_⟩
      · rw [hget]
        split
        next => exact Iff.rfl
        next hne =>
          refine iff_of_false (fun hs => ?_) (by cases t[i].enabled <;> cases s.pins.fstat[i] <;> nofun)
          cases hi : t[i].enabled with
          | false =>
            have := unused_of_validate h hi
            rw [hs] at this
            simp at this
          | true =>
            rw [hi] at hne
            have := (henabled i).mp (by simpa using Ne.symm hne)
            rw [hs] at this
            cases this
      · show t[i].enabled = false ↔ _
        rw [hget]
        split
        next heq => exact heq ▸ henabled i
        next => cases t[i].enabled <;> cases s.pins.fstat[i] <;> simp [foundFeeder] }

theorem commitTable_keeps (hmode : s.mode ≠ .blackstart) {staging : Staging} (h : s.validate staging = none) :
    Keeps s (s.commitTable staging) := by
  cases staging with
  | roster t => exact commitRoster_keeps hmode t
  | pv t => exact commitPv_keeps s t
  | feeder t => exact commitFeeders_keeps h
  | stage t => exact { Keeps.refl s with }

theorem commitTable_mode (s : State) (staging : Staging) : (s.commitTable staging).mode = s.mode := by
  cases staging with
  | roster t => exact (redirectAll_setsFrame (s.rostered t)).mode
  | pv t | feeder t | stage t => rfl

theorem commit_keeps (hmode : s.mode ≠ .blackstart) {staging : Staging} (h : s.validate staging = none) :
    Keeps s (s.commit staging) := by
  have hvalid : State.validate { s with window := none } staging = none := by cases staging <;> exact h
  have htable : Keeps s (State.commitTable { s with window := none } staging) :=
    .trans (t := { s with window := none }) (.other rfl) (commitTable_keeps (s := { s with window := none }) hmode hvalid)
  refine .ite (fun _ => htable.trans (setMode_keeps ?_ nofun)) fun _ => htable
  rw [commitTable_mode]
  exact hmode

end Operations
end Sys2Proof.Machine
end

section
/-! What the requests and the resets do to the promises, the whole command, and the promises that every step so keeps. -/

namespace Sys2Proof.Machine

section Requests

variable {s : State} {rx : Rx}

/-! ## Parameters (R176) -/

theorem clampTo_range {lo hi v : Nat} (h : lo ≤ hi) : lo ≤ clampTo lo hi v ∧ clampTo lo hi v ≤ hi := by
  unfold clampTo
  omega

theorem paramRows_ordered : ∀ p : Fin 28, paramRows[p].lo ≤ paramRows[p].hi := by decide

theorem storedValue_range (p : Param) (v : Nat) :
    paramRows[p].lo ≤ storedValue p v ∧ storedValue p v ≤ paramRows[p].hi := clampTo_range (paramRows_ordered p)

/-- A value in its range is put as the live or as the pending value of its parameter. -/
theorem putParameter_keeps (s : State) (p : Param) (value : Nat) : Keeps s (s.putParameter p (storedValue p value)) := by
  have hrange := storedValue_range p value
  have hset {α : Type} (v : Vector α 28) (x : α) (q : Fin 28) : (v.set p x)[q] = if p = q then x else v[q] := by
    simp only [Fin.getElem_fin, Vector.getElem_set, Fin.ext_iff]
  unfold State.putParameter
  split
  · exact { Keeps.refl s with
      params := fun h q => ⟨(h q).1, fun v hv => by
        replace hv : (s.paramPending.set p (some (storedValue p value)))[q] = some v := hv
        rw [hset] at hv
        split at hv
        next hpq => subst hpq; exact Option.some.inj hv ▸ hrange
        next => exact (h q).2 v hv⟩ }
  all_goals
    exact { Keeps.refl s with
      params := fun h q => ⟨by
        show _ ≤ (s.cfg.params.set p (storedValue p value))[q] ∧ (s.cfg.params.set p (storedValue p value))[q] ≤ _
        rw [hset]
        split
        next hpq => subst hpq; exact hrange
        next => exact (h q).1, (h q).2⟩ }

theorem spendParam_keeps (s : State) (p : Param) (v : Nat) : Keeps s (s.spendParam p v) :=
  .ite (fun _ => .other rfl) fun _ => .refl s

theorem setParameter_acts (hrun : s.power = .running) (hs : FromSupervisor rx) (p : Param) (value : Nat) :
    Acts s s.meter (s.setParameter rx p value) := by
  unfold State.setParameter
  refine .ended hrun ?_
  have hput := putParameter_keeps s p value
  generalize s.putParameter p (storedValue p value) = t at hput ⊢
  exact hput.trans (.trans (.answer (replyAddress_of_supervisor hs t)) (spendParam_keeps _ p _))

theorem readParameter_acts (ha : ReplyAddress s rx.src.toNat) (number : Byte) :
    Acts s s.meter (s.readParameter rx number) := by
  unfold State.readParameter
  split
  next p _ =>
    refine .quiet (.trans (.answer ha) (spendParam_keeps _ p _)) (.trans (.other rfl) (.ite (.other rfl) (.refl _)))
  next => exact .answer ha _ _ _

theorem readEntry_acts (ha : ReplyAddress s rx.src.toNat) (selector : Byte) : Acts s s.meter (s.readEntry rx selector) := by
  unfold State.readEntry
  split <;> exact .answer ha _ _ _

/-! ## The Table Window, the store and the lock (R170 to R180) -/

theorem windowOpen_acts (ha : ReplyAddress s rx.src.toNat) (table first last : Byte) :
    Acts s s.meter (s.windowOpen rx table first last) := by
  unfold State.windowOpen
  split
  next t _ =>
    refine .ite (fun _ => ?_) fun _ => .answer ha _ _ _
    have hopened : Acts s s.meter { s with window := some (s.freshWindow rx.src.toNat t first.toNat last.toNat) } :=
      .quiet (.other rfl) (.other rfl)
    exact hopened.trans (.answer (by exact ha) _ _ _)
  next => exact .answer ha _ _ _

theorem windowClose_acts (ha : ReplyAddress s rx.src.toNat) {close : State → Window → State}
    (hclose : ∀ w, Acts s s.meter (close s w)) : Acts s s.meter (s.windowClose rx close) := by
  unfold State.windowClose
  split
  · exact .answer ha _ _ _
  · exact .ite (fun _ => hclose _) fun _ => .answer ha _ _ _

theorem discardWindow_acts (ha : ReplyAddress s rx.src.toNat) (w : Window) : Acts s s.meter (s.discardWindow rx w) :=
  Acts.trans (t := { s with window := none }) (m := s.meter) (.quiet (.other rfl) (.other rfl)) (.answer (by exact ha) _ _ _)

theorem closeCommit_acts (hrun : s.power = .running) (hs : FromSupervisor rx) (hmode : s.mode ≠ .blackstart) (w : Window) :
    Acts s s.meter (s.closeCommit rx w) := by
  unfold State.closeCommit
  split
  · exact Acts.trans (t := { s with window := some { w with idleEnds := s.clk + tWIN } }) (m := s.meter)
      (.quiet (.other rfl) (.other rfl)) (.answer (replyAddress_of_supervisor hs _) _ _ _)
  next hvalid =>
    exact .ended hrun ((commit_keeps hmode hvalid).trans (.answer (replyAddress_of_supervisor hs _)))

theorem beginSave_acts (hs : FromSupervisor rx) : Acts s s.meter (s.beginSave rx.src.toNat) :=
  .quiet { Keeps.refl s with
    keys := fun ⟨hnodup, hreply, _⟩ => ⟨hnodup, hreply, fun _ hw => Option.some.inj hw ▸ hs⟩ } (.other rfl)

theorem setLockFlag_acts (s : State) (b : Bool) : Acts s s.meter { s with cfg := { s.cfg with lockFlag := b } } :=
  .quiet { Keeps.refl s with } (.other rfl)

theorem setLock_acts (ha : ReplyAddress s rx.src.toNat) : Acts s s.meter (s.setLock rx) :=
  (setLockFlag_acts s true).trans (.answer (by exact ha) _ _ _)

theorem clearLock_acts (ha : ReplyAddress s rx.src.toNat) : Acts s s.meter (s.clearLock rx) :=
  .ite (fun _ => .answer ha _ _ _) fun _ => (setLockFlag_acts s false).trans (.answer (by exact ha) _ _ _)

/-! ## Holds (R132 to R135) -/

theorem answerHold_acts (ha : ReplyAddress s rx.src.toNat) (result : Result) : Acts s s.meter (s.answerHold rx result) :=
  .ite (fun _ => Acts.trans (.answer ha _ _ _) (.quiet (.other rfl) (.other rfl))) fun _ => .answer ha _ _ _

theorem acceptHold_keeps (hnone : s.hold.state = .none) (holder : Nat) : Keeps s (s.acceptHold holder) := by
  have hpending : Keeps s { s with hold := ⟨.pending, some holder, some (s.clk + tHOLDMAX), none⟩ } :=
    setHold_keeps (t := s.settle) fun ⟨_, _, hpaused, _⟩ =>
      ⟨by simp, by simp, fun h => absurd (hnone.symm.trans (hpaused h)) nofun, fun _ => nofun⟩
  exact .ite (fun _ => hpending) fun _ => hpending.trans (holdTakesEffect_keeps nofun)

theorem acceptHold_acts (hnone : s.hold.state = .none) (holder : Nat) : Acts s s.meter (s.acceptHold holder) :=
  .quiet (acceptHold_keeps hnone holder) (.ite (.other rfl) (.other rfl))

theorem holdRestoration_acts (ha : ReplyAddress s rx.src.toNat) : Acts s s.meter (s.holdRestoration rx) := by
  refine .ite (fun _ => answerHold_acts ha _) fun hnone => ?_
  refine .ite (fun _ => answerHold_acts ha _) fun _ => .ite (fun _ => answerHold_acts ha _) fun _ => ?_
  have haccepted := acceptHold_acts (not_not.mp hnone) rx.src.toNat
  have hcfg : (s.acceptHold rx.src.toNat).cfg = s.cfg := by unfold State.acceptHold; simp only; split <;> rfl
  have hanswer := answerHold_acts (s := s.acceptHold rx.src.toNat) (by rw [ReplyAddress, hcfg]; exact ha) .accepted
  rw [haccepted.keeps.meter] at hanswer
  exact haccepted.trans hanswer

theorem resumeRestoration_acts (ha : ReplyAddress s rx.src.toNat) : Acts s s.meter (s.resumeRestoration rx) :=
  .ite (fun _ => .answer ha _ _ _) fun _ =>
    .ite (fun _ => (endHold_acts s).trans (.answer (by exact ha) _ _ _)) fun _ => .answer ha _ _ _

/-! ## Feeders and sets (R64, R110, R111, R129, R130) -/

theorem shedStep_keeps (hs : FromSupervisor rx) : Keeps s (s.shedStep rx) := by
  unfold State.shedStep
  split <;> exact (shedOne_keeps s .manual).trans (.answer (replyAddress_of_supervisor hs _))

theorem openFeeder_acts (hrun : s.power = .running) (hs : FromSupervisor rx) (i : Fin 16) :
    Acts s s.meter (s.openFeeder rx i) := by
  unfold State.openFeeder
  split
  case h_3 | h_4 | h_5 =>
    exact .ended hrun ((openByRequest_keeps s i).trans (.answer (replyAddress_of_supervisor hs _)))
  all_goals exact .answer (replyAddress_of_supervisor hs s) _ _ _

theorem restoreFeeder_acts (hrun : s.power = .running) (hs : FromSupervisor rx) (i : Fin 16) :
    Acts s s.meter (s.restoreFeeder rx i) := by
  unfold State.restoreFeeder
  refine .ite (fun _ => .answer (replyAddress_of_supervisor hs s) _ _ _) fun _ => ?_
  split
  case h_1 hst | h_2 hst | h_3 hst =>
    exact .ended hrun ((closeFeeder_keeps (by rw [hst]; nofun)).trans (.answer (replyAddress_of_supervisor hs _)))
  all_goals exact .answer (replyAddress_of_supervisor hs s) _ _ _

theorem clearFeederFault_acts (hrun : s.power = .running) (hs : FromSupervisor rx) (i : Fin 16) :
    Acts s s.meter (s.clearFeederFault rx i) :=
  .ite (fun _ => .ended hrun ((rederiveFeeder_keeps s i).trans (.answer (replyAddress_of_supervisor hs _))))
    fun _ => .answer (replyAddress_of_supervisor hs s) _ _ _

theorem clearSetFault_acts (hrun : s.power = .running) (hs : FromSupervisor rx) (i : Fin 8) :
    Acts s s.meter (s.clearSetFault rx i) :=
  .ite (fun _ => .answer (replyAddress_of_supervisor hs s) _ _ _) fun _ =>
    .ite (fun _ => .ended hrun ((rederiveSet_keeps s i).trans (.answer (replyAddress_of_supervisor hs _))))
      fun _ => .answer (replyAddress_of_supervisor hs s) _ _ _

/-! ## The mode and the resets by request (R141, R163, R165, R167) -/

theorem resumeDispatch_acts (hrun : s.power = .running) (hs : FromSupervisor rx) (hmode : s.mode ≠ .blackstart) :
    Acts s s.meter (s.resumeDispatch rx) := by
  have ha := replyAddress_of_supervisor hs s
  unfold State.resumeDispatch
  refine .ite (fun _ => .answer ha _ _ _) fun _ => .ite (fun _ => .answer ha _ _ _) fun _ => ?_
  exact .ite (fun _ => .answer ha _ _ _) fun _ =>
    .ended hrun ((toDispatch_keeps hmode).trans (.answer (replyAddress_of_supervisor hs _)))

theorem enterObserve_acts (hrun : s.power = .running) (hs : FromSupervisor rx) (hmode : s.mode ≠ .blackstart) :
    Acts s s.meter (s.enterObserve rx) :=
  .ite (fun _ => .answer (replyAddress_of_supervisor hs s) _ _ _) fun _ =>
    .ended hrun ((setMode_keeps (m := .observe) hmode nofun).trans (.answer (replyAddress_of_supervisor hs _)))

theorem blackStart_acts (hrun : s.power = .running) (hs : FromSupervisor rx) (hmode : s.mode ≠ .blackstart) :
    Acts s s.meter (s.blackStart rx) := by
  have ha := replyAddress_of_supervisor hs s
  unfold State.blackStart
  refine .ite (fun _ => .answer ha _ _ _) fun _ => .ite (fun _ => .answer ha _ _ _) fun _ => ?_
  exact .ended hrun ((beginSequence_keeps fun _ => hmode).trans (.answer (replyAddress_of_supervisor hs _)))

/-- The reset order of R165 at the mode, the window, the cycle number and the Commitment Unit. -/
def State.softResetMode (s : State) : State :=
  State.softResetSets { s with
    mode := .observe, window := none, cycle := 0, freshStart := true, pvReached := false
    seq := { s.seq with trigger := none } }

theorem softReset_eq (s : State) : s.softReset =
    State.queueReport { s.softResetMode.softResetLadder.softResetRestoration with txQueue := [] } := rfl

theorem softResetMode_sets (s : State) (i : Fin 8) :
    s.softResetMode.sets[i] = s.sets[i].softReset (s.setConfigured i) s.clk := by
  simp [State.softResetMode, State.softResetSets, State.setConfigured]

theorem softResetMode_keeps (hmode : s.mode ≠ .blackstart) : Keeps s s.softResetMode :=
  { Keeps.refl s with
    sets := fun hs i => by
      rw [softResetMode_sets]
      exact SetRec.softReset_agrees (hs i)
    mode := fun hm => by
      have hphase := phase_none_of_mode hm hmode
      exact ⟨iff_of_false nofun (not_not.mpr hphase), hm.2.1, fun h => absurd rfl h⟩
    directives := fun _ i hi => by
      rw [softResetMode_sets, SetRec.softReset]
      exact if_pos ((setConfigured_iff s i).mpr hi)
    marks := fun _ hs _ i hi => by
      rw [softResetMode_sets, SetRec.softReset_mark (hs i)] at hi
      cases hi }

theorem clearTxQueue_keeps (s : State) : Keeps s { s with txQueue := [] } := .fewerKeys (List.nil_sublist _)

theorem softReset_keeps (hmode : s.mode ≠ .blackstart) : Keeps s s.softReset := by
  rw [softReset_eq]
  exact (softResetMode_keeps hmode).trans ((softResetLadder_keeps _).trans
    ((softResetRestoration_keeps _).trans ((clearTxQueue_keeps _).trans (queueReport_keeps _))))

end Requests

end Sys2Proof.Machine
end

section
/-! The whole command, the resets, and the promises that every step keeps. -/

namespace Sys2Proof.Machine

/-! ## The meter record (R3, R4 to R12) -/

/-- The promise on the meter record, of the record alone. -/
def Meter.Agrees (m : Meter) : Prop :=
  (m.freq.isSome = true ↔ m.state = .valid)
    ∧ (m.rocof.isSome = true ↔ m.freqs.length = 11)
    ∧ m.periods.length ≤ 10 ∧ m.freqs.length ≤ 11
    ∧ (∀ e ∈ m.elapsed, e ≤ tDEAD + 1)

theorem meterRecordAgrees_iff (s : State) : MeterRecordAgrees s ↔ s.meter.Agrees := Iff.rfl

namespace Meter

variable {m : Meter}

theorem elapse_agrees (dt : Nat) (h : m.Agrees) : (m.elapse dt).Agrees := by
  obtain ⟨hfreq, hrocof, hperiods, hfreqs, helapsed⟩ := h
  refine ⟨by simpa using hfreq, by simpa using hrocof, by simpa using hperiods, by simpa using hfreqs, ?_⟩
  intro e he
  unfold elapse at he
  split at he
  case h_1 | h_2 | h_3 =>
    obtain ⟨e', -, rfl⟩ := Option.map_eq_some_iff.mp he
    exact min_le_right _ _
  all_goals exact helapsed e he

theorem reference_agrees : m.reference.Agrees := by simp [Agrees, reference]

theorem lose_agrees (h : m.Agrees) : m.lose.Agrees := by
  obtain ⟨-, -, -, -, helapsed⟩ := h
  simpa [Agrees, lose] using helapsed

theorem die_agrees (h : m.Agrees) (hs : m.state ≠ .valid) : m.die.Agrees := by
  obtain ⟨hfreq, hrocof, hperiods, hfreqs, -⟩ := h
  have hnone : ¬ m.freq.isSome = true := fun hf => hs (hfreq.mp hf)
  exact ⟨iff_of_false hnone nofun, hrocof, hperiods, hfreqs, fun e he => (Option.some.inj he).ge⟩

theorem dieWaiting_agrees (h : m.Agrees) (hs : m.state ≠ .valid) : m.dieWaiting.Agrees := by
  obtain ⟨hfreq, hrocof, hperiods, hfreqs, -⟩ := h
  have hnone : ¬ m.freq.isSome = true := fun hf => hs (hfreq.mp hf)
  exact ⟨iff_of_false hnone nofun, hrocof, hperiods, hfreqs, nofun⟩

theorem pushBounded_length (n : Nat) (xs : List Nat) (x : Nat) (hn : 0 < n) : (pushBounded n xs x).length ≤ n := by
  simp only [pushBounded, List.length_drop, List.length_append, List.length_singleton]
  omega

theorem value_agrees (hperiods : m.periods.length ≤ 10) (helapsed : ∀ e ∈ m.elapsed, e ≤ tDEAD + 1) : m.value.Agrees := by
  refine ⟨by simp [value], ?_, hperiods, pushBounded_length _ _ _ (by decide), helapsed⟩
  simp only [value]
  split
  next h => simp [h]
  next h => simp [h]

theorem period_agrees (e : Count) (h : m.Agrees) : (m.period e).1.Agrees := by
  obtain ⟨hfreq, hrocof, -, hfreqs, -⟩ := h
  have hperiods := pushBounded_length 10 m.periods e (by decide)
  have helapsed : ∀ e' ∈ some 0, e' ≤ tDEAD + 1 := fun e' he => by
    obtain rfl := Option.some.inj he
    exact Nat.zero_le _
  unfold period
  simp only
  split
  · split
    · exact ⟨hfreq, hrocof, hperiods, hfreqs, helapsed⟩
    · exact value_agrees hperiods helapsed
  · exact value_agrees hperiods helapsed

theorem edge_agrees (h : m.Agrees) : m.edge.Agrees := by
  unfold edge
  split
  · split
    · exact h
    · split
      · exact period_agrees _ h
      · exact reference_agrees
  · exact reference_agrees

theorem lossDue_iff : m.lossDue = true ↔
    (m.state = .acquiring ∨ m.state = .valid) ∧ ∃ e, m.elapsed = some e ∧ tPMAX < e := by
  unfold lossDue
  split
  next hs he => simp [hs, he]
  next hs he => simp [hs, he]
  next hacq hval =>
    refine iff_of_false nofun fun ⟨h, e, he, _⟩ => ?_
    exact h.elim (fun hs => hacq e hs he) fun hs => hval e hs he

theorem deadDue_iff : m.deadDue = true ↔ m.state = .lost ∧ ∃ e, m.elapsed = some e ∧ tDEAD < e := by
  unfold deadDue
  split
  next hs he => simp [hs, he]
  next hno => exact iff_of_false nofun fun ⟨hs, e, he, _⟩ => hno e hs he

theorem waitDue_iff {now : Count} : m.waitDue now = true ↔
    m.state = .noSignal ∧ ∃ start, m.waitFrom = some start ∧ tDEAD < now - start := by
  unfold waitDue
  split
  next hs hw => simp [hs, hw]
  next hno => exact iff_of_false nofun fun ⟨hs, w, hw, _⟩ => hno w hs hw

end Meter

/-- The meter after what a command does to it at count `now`, once its time has passed: the four meter commands act when
they are due, and no other does. -/
def Meter.afterCommand (m : Meter) (now : Count) : Instr → Meter
  | .gtickRisingEdge _ => m.edge
  | .lossExpiry _ => if m.lossDue then m.lose else m
  | .deadExpiry _ => if m.deadDue then m.die else m
  | .startUpWait _ => if m.waitDue now then m.dieWaiting else m
  | _ => m

theorem Meter.afterCommand_agrees {m : Meter} (h : m.Agrees) (now : Count) (c : Instr) : (m.afterCommand now c).Agrees := by
  unfold Meter.afterCommand
  split
  · exact edge_agrees h
  · split
    · exact lose_agrees h
    · exact h
  · split
    next hdue => exact die_agrees h (by rw [(deadDue_iff.mp hdue).1]; nofun)
    next => exact h
  · split
    next hdue => exact dieWaiting_agrees h (by rw [(waitDue_iff.mp hdue).1]; nofun)
    next => exact h
  · exact h

/-! ## Commands other than the resets -/

/-- The reset commands and the end of start-up, which put whole blocks at new values (R181). -/
def isReset : Instr → Bool
  | .powerOnReset .. | .resetnAssert _ | .resetnRelease .. | .endOfStartUp _ => true
  | _ => false

section Commands

variable {s : State}

/-- The meter after a command: outside running only time passes. -/
def State.meterAfter (s : State) (c : Instr) : Meter :=
  if s.power = .running then (s.meter.elapse c.dt).afterCommand (s.clk + c.dt) c else s.meter.elapse c.dt

/-- A command that the meter does not act on. -/
theorem meterAfter_of_other {c : Instr} (h : ∀ m now, Meter.afterCommand m now c = m) :
    s.meterAfter c = s.meter.elapse c.dt := by
  unfold State.meterAfter
  rw [h]
  exact ite_self _

theorem due_acts {dt : Nat} {f : State → State} {due : State → Bool} {m : State → Meter} {c : Instr}
    (hdt : c.dt = dt) (hm : ∀ u : State, Meter.afterCommand u.meter u.clk c = if due u then m u else u.meter)
    (hf : ∀ u : State, f u = if due u then u.publishMeter (m u) else u) :
    Acts (s.elapse c.dt) (s.meterAfter c) (s.event dt f) := by
  subst hdt
  unfold State.meterAfter
  by_cases hrun : s.power = .running
  · rw [if_pos hrun, State.event, quiet_of_running hrun]
    have h := publishMeter_if_keeps (s := s.elapse c.dt) (due (s.elapse c.dt)) (m (s.elapse c.dt))
    rw [← hm, ← hf] at h
    exact Acts.ending (s := s.elapse c.dt) hrun h
  · rw [if_neg hrun, event_of_not_running hrun]
    exact .refl _

theorem edge_acts (s : State) (dt : Nat) :
    Acts (s.elapse dt) (s.meterAfter (.gtickRisingEdge dt)) (s.event dt State.risingEdge) := by
  unfold State.meterAfter
  by_cases hrun : s.power = .running
  · rw [if_pos hrun, State.event, quiet_of_running hrun]
    exact Acts.ending (s := s.elapse dt) hrun (risingEdge_keeps _)
  · rw [if_neg hrun, event_of_not_running hrun]
    exact .refl _

theorem exec_acts (s : State) (c : Instr) (hc : isReset c = false) :
    ∃ t, exec c s = .next t ∧ Acts (s.elapse c.dt) (s.meterAfter c) t := by
  have hother (h : ∀ m now, Meter.afterCommand m now c = m) {t : State}
      (ht : Acts (s.elapse c.dt) (s.meter.elapse c.dt) t) : Acts (s.elapse c.dt) (s.meterAfter c) t := by
    rw [meterAfter_of_other h]
    exact ht
  cases c with
  | powerOnReset | resetnAssert | resetnRelease | endOfStartUp => cases hc
  | gtickRisingEdge dt => exact ⟨_, rfl, edge_acts s dt⟩
  | lossExpiry dt =>
    exact ⟨_, rfl, due_acts (due := fun u => u.meter.lossDue) (m := fun u => u.meter.lose) rfl (fun _ => rfl) fun _ => rfl⟩
  | deadExpiry dt =>
    exact ⟨_, rfl, due_acts (due := fun u => u.meter.deadDue) (m := fun u => u.meter.die) rfl (fun _ => rfl) fun _ => rfl⟩
  | startUpWait dt =>
    exact ⟨_, rfl, due_acts (due := fun u => u.meter.waitDue u.clk) (m := fun u => u.meter.dieWaiting) rfl (fun _ => rfl)
      fun _ => rfl⟩
  | tbalExpiry dt =>
    refine ⟨_, rfl, hother (fun _ _ => rfl) (event_acts fun u _ => ?_)⟩
    split
    · exact .ite (fun _ => balanceExpiry_keeps u _) fun _ => .refl u
    · exact .refl u
  | fstatChange lines levels dt =>
    exact ⟨_, rfl, hother (fun _ _ => rfl) (pinChange_acts fun u hu => fstatChanges_acts hu _ _)⟩
  | breakerTimerExpiry i dt =>
    exact ⟨_, rfl, hother (fun _ _ => rfl) (event_acts fun u _ => .ite (fun _ => breakerExpiry_keeps u i) fun _ => .refl u)⟩
  | mshedEdge level dt =>
    exact ⟨_, rfl, hother (fun _ _ => rfl) (pinChange_acts fun u hu => .ended hu (mshedEdge_keeps u level))⟩
  | bsabortEdge level dt =>
    exact ⟨_, rfl, hother (fun _ _ => rfl) (pinChange_acts fun u hu => .ended hu (bsabortEdge_keeps u level))⟩
  | cfglockChange level dt =>
    exact ⟨_, rfl, hother (fun _ _ => rfl) (pinChange_acts fun u _ => .quiet (.other rfl) (.other rfl))⟩
  | laneChange level wire dt =>
    exact ⟨_, rfl, hother (fun _ _ => rfl) (pinChange_acts fun u _ => laneChange_acts u wire)⟩
  | setReport rx code output =>
    exact ⟨_, rfl, hother (fun _ _ => rfl) (frameEvent_acts fun u hu => setReport_acts hu _ _ _)⟩
  | pvReport rx output available =>
    exact ⟨_, rfl, hother (fun _ _ => rfl) (frameEvent_acts fun u _ => pvReport_acts u _ _ _)⟩
  | lostTimerExpiry i dt =>
    exact ⟨_, rfl, hother (fun _ _ => rfl) (event_acts fun u _ => .ite (fun _ => lostExpiry_keeps u i) fun _ => .refl u)⟩
  | startTimerExpiry i dt =>
    exact ⟨_, rfl, hother (fun _ _ => rfl) (event_acts fun u _ =>
      .ite (fun h => failedAttempt_keeps (by rw [h.1]; nofun)) fun _ => .refl u)⟩
  | stopTimerExpiry i dt =>
    exact ⟨_, rfl, hother (fun _ _ => rfl) (event_acts fun u _ =>
      .ite (fun _ => setFailed_keeps (by nofun)) fun _ => .refl u)⟩
  | minimumRunExpiry i dt =>
    exact ⟨_, rfl, hother (fun _ _ => rfl) (quietly_acts fun u _ => minRunLapse_acts u i)⟩
  | minimumDownExpiry i dt =>
    exact ⟨_, rfl, hother (fun _ _ => rfl) (event_acts fun u _ =>
      .ite (fun h => setStopped_keeps (by rw [h.1]; nofun)) fun _ => .refl u)⟩
  | deadBusStartTimerExpiry i dt =>
    exact ⟨_, rfl, hother (fun _ _ => rfl) (event_acts fun u _ =>
      .ite (fun _ => setFailed_keeps (by nofun)) fun _ => .refl u)⟩
  | settleExpiry dt => exact ⟨_, rfl, hother (fun _ _ => rfl) (quietly_acts fun u _ => settleLapse_acts u)⟩
  | tholdmaxExpiry dt =>
    exact ⟨_, rfl, hother (fun _ _ => rfl) (quietly_acts fun u _ => .ite (fun _ => endHold_acts u) fun _ => .refl u)⟩
  | tholdgapEnd dt =>
    exact ⟨_, rfl, hother (fun _ _ => rfl) (quietly_acts fun u _ => .ite (fun _ => endGap_acts u) fun _ => .refl u)⟩
  | triggerTimerExpiry dt =>
    exact ⟨_, rfl, hother (fun _ _ => rfl) (event_acts fun u _ =>
      .ite (fun h => beginSequence_keeps fun hm => by
        obtain ⟨ends, ht, -⟩ := (due_iff u _).mp h
        rw [hm.2.2 (by rw [ht]; nofun)]
        nofun) fun _ => .refl u)⟩
  | idleExpiry dt =>
    exact ⟨_, rfl, hother (fun _ _ => rfl) (quietly_acts fun u _ =>
      .ite (fun _ => .quiet (.other rfl) (.other rfl)) fun _ => .refl u)⟩
  | endOfTheWrite dt => exact ⟨_, rfl, hother (fun _ _ => rfl) (quietly_acts fun u _ => endWrite_acts u)⟩
  | entryData rx data => exact ⟨_, rfl, hother (fun _ _ => rfl) (frameEvent_acts fun u _ => entryData_acts u rx data)⟩
  | frameOfOtherKind rx kind data => exact ⟨_, rfl, hother (fun _ _ => rfl) (frameEvent_acts fun u _ => .refl u)⟩
  | unknownRequestCode rx code =>
    exact ⟨_, rfl, hother (fun _ _ => rfl) (frameEvent_acts fun u _ => unknownCode_acts u rx _)⟩
  | resumeDispatch rx =>
    exact ⟨_, rfl, hother (fun _ _ => rfl) (requestEvent_acts fun u hu _ hs hm => resumeDispatch_acts hu (hs rfl) (hm rfl))⟩
  | enterObserve rx =>
    exact ⟨_, rfl, hother (fun _ _ => rfl) (requestEvent_acts fun u hu _ hs hm => enterObserve_acts hu (hs rfl) (hm rfl))⟩
  | blackStart rx =>
    exact ⟨_, rfl, hother (fun _ _ => rfl) (requestEvent_acts fun u hu _ hs hm => blackStart_acts hu (hs rfl) (hm rfl))⟩
  | holdRestoration rx =>
    exact ⟨_, rfl, hother (fun _ _ => rfl) (requestEvent_acts fun u _ ha _ _ => holdRestoration_acts ha)⟩
  | resumeRestoration rx =>
    exact ⟨_, rfl, hother (fun _ _ => rfl) (requestEvent_acts fun u _ ha _ _ => resumeRestoration_acts ha)⟩
  | shedStep rx =>
    exact ⟨_, rfl, hother (fun _ _ => rfl) (requestEvent_acts fun u hu _ hs _ => .ended hu (shedStep_keeps (hs rfl)))⟩
  | openFeeder rx index =>
    refine ⟨_, rfl, hother (fun _ _ => rfl) (requestEvent_acts fun u hu ha hs _ => ?_)⟩
    split
    · exact openFeeder_acts hu (hs rfl) _
    · exact .answer ha _ _ _
  | restoreFeeder rx index =>
    refine ⟨_, rfl, hother (fun _ _ => rfl) (requestEvent_acts fun u hu ha hs _ => ?_)⟩
    split
    · exact restoreFeeder_acts hu (hs rfl) _
    · exact .answer ha _ _ _
  | clearSetFault rx index =>
    refine ⟨_, rfl, hother (fun _ _ => rfl) (requestEvent_acts fun u hu ha hs _ => ?_)⟩
    split
    · exact clearSetFault_acts hu (hs rfl) _
    · exact .answer ha _ _ _
  | clearFeederFault rx index =>
    refine ⟨_, rfl, hother (fun _ _ => rfl) (requestEvent_acts fun u hu ha hs _ => ?_)⟩
    split
    · exact clearFeederFault_acts hu (hs rfl) _
    · exact .answer ha _ _ _
  | setParameter rx number value =>
    refine ⟨_, rfl, hother (fun _ _ => rfl) (requestEvent_acts fun u hu ha hs _ => ?_)⟩
    split
    · exact setParameter_acts hu (hs rfl) _ _
    · exact .answer ha _ _ _
  | readParameter rx number =>
    exact ⟨_, rfl, hother (fun _ _ => rfl) (requestEvent_acts fun u _ ha _ _ => readParameter_acts ha number)⟩
  | readEntry rx selector =>
    exact ⟨_, rfl, hother (fun _ _ => rfl) (requestEvent_acts fun u _ ha _ _ => readEntry_acts ha selector)⟩
  | windowOpen rx table first last =>
    exact ⟨_, rfl, hother (fun _ _ => rfl) (requestEvent_acts fun u _ ha _ _ => windowOpen_acts ha table first last)⟩
  | windowCloseDiscard rx argument =>
    exact ⟨_, rfl, hother (fun _ _ => rfl) (requestEvent_acts fun u _ ha _ _ =>
      .ite (fun _ => windowClose_acts ha fun w => discardWindow_acts ha w) fun _ => .answer ha _ _ _)⟩
  | windowCloseCommit rx =>
    exact ⟨_, rfl, hother (fun _ _ => rfl) (requestEvent_acts fun u hu ha hs hm =>
      windowClose_acts ha fun w => closeCommit_acts hu (hs rfl) (hm rfl) w)⟩
  | saveSettings rx =>
    exact ⟨_, rfl, hother (fun _ _ => rfl) (requestEvent_acts fun u _ _ hs _ => beginSave_acts (hs rfl))⟩
  | setLock rx => exact ⟨_, rfl, hother (fun _ _ => rfl) (requestEvent_acts fun u _ ha _ _ => setLock_acts ha)⟩
  | clearLock rx => exact ⟨_, rfl, hother (fun _ _ => rfl) (requestEvent_acts fun u _ ha _ _ => clearLock_acts ha)⟩
  | softReset rx =>
    exact ⟨_, rfl, hother (fun _ _ => rfl) (requestEvent_acts fun u hu _ hs hm =>
      .ended hu ((softReset_keeps (hm rfl)).trans (.answer (replyAddress_of_supervisor (hs rfl) _))))⟩
  | cycleReset rx =>
    exact ⟨_, rfl, hother (fun _ _ => rfl) (requestEvent_acts fun u _ ha _ _ =>
      Acts.trans (t := { u with cycle := 0 }) (m := u.meter) (.quiet (.other rfl) (.other rfl)) (.answer (by exact ha) _ _ _))⟩
  | take dt => exact ⟨_, rfl, hother (fun _ _ => rfl) (quietly_acts fun u _ => takeHead_acts u)⟩
  | frameSent dt => exact ⟨_, rfl, hother (fun _ _ => rfl) (quietly_acts fun u _ => frameSent_acts u)⟩
  | offeredAgain dt => exact ⟨_, rfl, hother (fun _ _ => rfl) (quietly_acts fun u _ => boundary_acts u)⟩

end Commands

end Sys2Proof.Machine
end

section
/-! The resets and the end of start-up, which put the whole state at new values that keep every promise (R181), and the
promises that every step so keeps. -/

namespace Sys2Proof.Machine

section Resets

variable {s : State}

theorem defaultParams_range : ∀ p : Fin 28, paramRows[p].lo ≤ Settings.defaults.params[p] ∧
    Settings.defaults.params[p] ≤ paramRows[p].hi := by decide

theorem reset_agrees : SetRecordAgrees SetRec.reset := by decide

/-- The state right after a reset keeps every promise, whatever the reset does not reach (R181). -/
theorem restart_safe (s : State) {power : Power} (hpower : power ≠ .running) (fn : Nat) : Safe (s.restart power fn) := by
  have hsets (i : Fin 8) : (s.restart power fn).sets[i] = .reset := by simp [State.restart, State.reset]
  have hfeeders (i : Fin 16) : (s.restart power fn).feeders[i] = .reset := by simp [State.restart, State.reset]
  have hroster (i : Fin 8) : (s.restart power fn).cfg.roster[i] = .empty := by
    simp [State.restart, State.reset, Settings.defaults]
  have hpv (p : Fin 4) : (s.restart power fn).cfg.pv[p] = .empty := by
    simp [State.restart, State.reset, Settings.defaults]
  have hentries (i : Fin 16) : (s.restart power fn).cfg.feeders[i] = .disabled := by
    simp [State.restart, State.reset, Settings.defaults]
  have hpending (p : Fin 28) : (s.restart power fn).paramPending[p] = none := by simp [State.restart, State.reset]
  refine ⟨restart_follows s power fn, ?_, ?_, ?_, ?_, ?_, ?_, ?_, ?_, ?_, ?_, ?_, ?_, ?_⟩
  · exact fun i => by rw [hfeeders]; decide
  · exact ⟨List.nodup_nil, fun i => by rw [hfeeders]; exact iff_of_false List.not_mem_nil nofun,
      fun i => by rw [hfeeders, hentries]; decide⟩
  · exact ⟨List.nodup_nil, fun dest h => absurd h List.not_mem_nil, nofun⟩
  · exact ⟨fun h => absurd h hpower, fun _ => rfl⟩
  · exact ⟨iff_of_false nofun (not_not.mpr rfl), fun _ => ⟨rfl, rfl, rfl, rfl⟩, fun h => absurd rfl h⟩
  · exact fun h => absurd h hpower
  · exact fun i => by rw [hsets]; exact reset_agrees
  · exact fun i h => by rw [hsets] at h; cases h
  · exact fun i h => by rw [hroster] at h; cases h
  · exact ⟨iff_of_false nofun nofun, iff_of_false nofun nofun, Nat.zero_le _, Nat.zero_le _, nofun⟩
  · exact fun p h => by rw [hpv] at h; cases h
  · exact ⟨iff_of_false nofun (not_not.mpr rfl), iff_of_false nofun (not_not.mpr rfl), nofun, nofun⟩
  · exact fun p => ⟨defaultParams_range p, fun v hv => by rw [hpending] at hv; cases hv⟩

/-! ## The end of start-up (R178, R181) -/

theorem load_params (image : StoreImage) (p : Fin 28) :
    paramRows[p].lo ≤ image.load.1.params[p] ∧ image.load.1.params[p] ≤ paramRows[p].hi := by
  unfold StoreImage.load
  split
  · simp only
    split
    next hok =>
      simp only [Settings.contentOk, Bool.and_eq_true, List.all_eq_true, decide_eq_true_eq] at hok
      exact hok.2 p (mem_indices p)
    next => exact defaultParams_range p
  · exact defaultParams_range p

theorem startMode_ne (c : Settings) : c.startMode ≠ .blackstart := by
  unfold Settings.startMode
  split <;> nofun

theorem started_agrees (e : SetEntry) (mode : Mode) (now : Count) : SetRecordAgrees (SetRec.started e mode now) := by
  unfold SetRec.started
  split <;> exact reset_agrees

theorem started_mark (e : SetEntry) (mode : Mode) (now : Count) : (SetRec.started e mode now).mark = false := by
  unfold SetRec.started
  split <;> rfl

theorem started_directive {e : SetEntry} (he : 0 < e.rating) (mode : Mode) (now : Count) :
    (SetRec.started e mode now).directive =
      wantedDirective mode (SetRec.started e mode now).state (SetRec.started e mode now).mark := by
  simp only [SetRec.started, if_pos he]
  exact directiveOf_eq _ _

theorem foundFeeder_state (enabled level : Bool) :
    (foundFeeder enabled level).state ≠ .openShed ∧ (enabled = false ↔ (foundFeeder enabled level).state = .disabled) := by
  cases enabled <;> cases level <;> simp [foundFeeder]

theorem finishStartUp_safe (s : State) : Safe s.finishStartUp := by
  have hsets (i : Fin 8) : s.finishStartUp.sets[i] = .started s.store.load.1.roster[i] s.store.load.1.startMode s.clk := by
    simp [State.finishStartUp]
  have hfeeders (i : Fin 16) :
      s.finishStartUp.feeders[i] = foundFeeder s.store.load.1.feeders[i].enabled s.pins.fstat[i] := by
    simp [State.finishStartUp]
  have hplants (p : Fin 4) : s.finishStartUp.plants[p] = .default s.store.load.1.pv[p].rating := by
    simp [State.finishStartUp]
  have hpending (p : Fin 28) : s.finishStartUp.paramPending[p] = none := by
    simp [State.finishStartUp, State.restart, State.reset]
  refine ⟨(finishStartUp_feedDriven s).follows, ?_, ?_, ?_, ?_, ?_, ?_, ?_, ?_, ?_, ?_, ?_, ?_, ?_⟩
  · exact fun i => by rw [hfeeders]; exact foundFeeder_agrees _ _
  · exact ⟨List.nodup_nil, fun i => by rw [hfeeders]; exact iff_of_false List.not_mem_nil (foundFeeder_state _ _).1,
      fun i => by rw [hfeeders]; exact (foundFeeder_state _ _).2⟩
  · exact ⟨List.nodup_nil, fun dest h => absurd h List.not_mem_nil, nofun⟩
  · exact refreshAlert_follows rfl
  · exact ⟨iff_of_false (startMode_ne _) (not_not.mpr rfl), fun _ => ⟨rfl, rfl, rfl, rfl⟩, fun h => absurd rfl h⟩
  · exact fun _ => iff_of_false (fun h => h rfl) fun ⟨_, _, hdead, _⟩ => nomatch hdead
  · exact fun i => by rw [hsets]; exact started_agrees _ _ _
  · exact fun i h => by rw [hsets, started_mark] at h; cases h
  · exact fun i h => by rw [hsets]; exact started_directive h _ _
  · exact ⟨iff_of_false nofun nofun, iff_of_false nofun nofun, Nat.zero_le _, Nat.zero_le _, nofun⟩
  · exact fun p _ => by rw [hplants]; exact ⟨le_rfl, le_rfl⟩
  · exact ⟨iff_of_false nofun (not_not.mpr rfl), iff_of_false nofun (not_not.mpr rfl), nofun, nofun⟩
  · exact fun p => ⟨load_params _ p, fun v hv => by rw [hpending] at hv; cases hv⟩

/-- A reset command either lets only time pass, or puts the state at values that keep every promise. -/
theorem exec_reset (s : State) (c : Instr) (hc : isReset c = true) :
    ∃ t, exec c s = .next t ∧ t.pending = s.pending ∧ t.clk = s.clk + c.dt ∧ (t = s.elapse c.dt ∨ Safe t) := by
  have hnominal (b : Bool) : (if b then Power.startUp else Power.held) ≠ .running := by cases b <;> nofun
  cases c with
  | powerOnReset fsel dt => exact ⟨_, rfl, rfl, rfl, .inr (restart_safe _ (hnominal _) _)⟩
  | resetnAssert dt =>
    refine ⟨_, rfl, ?_⟩
    split
    · exact ⟨rfl, rfl, .inr (restart_safe (power := .held) _ nofun _)⟩
    · exact ⟨rfl, rfl, .inl rfl⟩
  | resetnRelease fsel dt =>
    refine ⟨_, rfl, ?_⟩
    split
    · exact ⟨rfl, rfl, .inl rfl⟩
    · exact ⟨rfl, rfl, .inr (restart_safe (power := .startUp) _ nofun _)⟩
  | endOfStartUp dt =>
    refine ⟨_, rfl, ?_⟩
    split
    · exact ⟨rfl, rfl, .inr (finishStartUp_safe _)⟩
    · exact ⟨rfl, rfl, .inl rfl⟩
  | _ => cases hc

end Resets

/-! ## Every step -/

section Steps

variable {s t : State}

/-- A promise that passing time leaves alone, that every safe state meets, and that the acts of the running device keep,
is kept by every step. -/
theorem step_keeps {P : State → Prop} (htime : ∀ s dt, P s → P (State.elapse s dt))
    (hpending : ∀ s l, P s → P { s with pending := l }) (hsafe : ∀ t, Safe t → P t)
    (hacts : ∀ s c t, P s → isReset c = false → Acts (s.elapse c.dt) (s.meterAfter c) t → P t)
    (h : P s) (hstep : step s = .next t) : P t := by
  unfold step at hstep
  split at hstep
  · obtain rfl := Host.Outcome.next.inj hstep
    exact hpending _ _ (htime s 1 h)
  next c rest _ =>
    cases hc : isReset c with
    | true =>
      obtain ⟨u, hexec, -, -, hu⟩ := exec_reset { s with pending := rest } c hc
      obtain rfl := Host.Outcome.next.inj (hexec.symm.trans hstep)
      obtain rfl | hu := hu
      · exact htime _ _ (hpending s rest h)
      · exact hsafe _ hu
    | false =>
      obtain ⟨u, hexec, hu⟩ := exec_acts { s with pending := rest } c hc
      obtain rfl := Host.Outcome.next.inj (hexec.symm.trans hstep)
      exact hacts _ c _ (hpending s rest h) hc hu

/-- Settles O1: a step on a queue that holds a command is that command with the queue's rest. -/
theorem stepRunsFrontCommand : Obligations.StepRunsFrontCommand := fun _ _ _ => rfl

/-- Settles O3: the resets and the other commands by `exec_reset` and `exec_acts`. -/
theorem everyCommandAnswersNext : Obligations.EveryCommandAnswersNext := by
  intro s c
  cases hc : isReset c with
  | true =>
    obtain ⟨t, hexec, hpending, hclk, -⟩ := exec_reset s c hc
    exact ⟨t, hexec, hpending, hclk⟩
  | false =>
    obtain ⟨t, hexec, ht⟩ := exec_acts s c hc
    exact ⟨t, hexec, ht.keeps.pending, ht.keeps.clk⟩

/-- What the meter does at a reset command does not depend on fn. -/
theorem exec_reset_meter (s : State) (c : Instr) (hc : isReset c = true) (x : Nat) :
    ∃ t u, exec c s = .next t ∧ exec c { s with fn := x } = .next u ∧ u.meter = t.meter := by
  cases c with
  | powerOnReset fsel dt => exact ⟨_, _, rfl, rfl, rfl⟩
  | resetnAssert dt => exact ⟨_, _, rfl, rfl, by cases h : s.pins.resetn <;> simp [h, State.restart]⟩
  | resetnRelease fsel dt =>
    exact ⟨_, _, rfl, rfl, by cases h : s.pins.resetn <;> simp [h, State.restart]⟩
  | endOfStartUp dt =>
    exact ⟨_, _, rfl, rfl, by by_cases h : s.power = .startUp <;> simp [h, State.finishStartUp]⟩
  | _ => cases hc

/-- Settles O4: only the two resets that sample FSEL write fn, and no move of the meter reads it. -/
theorem nominalFrequencyIsHeld : Obligations.NominalFrequencyIsHeld := by
  intro s c fsel dt x
  refine ⟨⟨_, rfl, rfl⟩, fun hlow => ⟨_, rfl, ?_⟩, fun hpower hrelease => ?_, ?_⟩
  · simp [hlow, State.restart, nominalOf]
  · cases hc : isReset c with
    | false =>
      obtain ⟨t, hexec, ht⟩ := exec_acts s c hc
      exact ⟨t, hexec, ht.keeps.fn⟩
    | true =>
      cases c with
      | powerOnReset f d => exact absurd rfl (hpower f d)
      | resetnAssert d => exact ⟨_, rfl, by split <;> rfl⟩
      | resetnRelease f d => exact ⟨_, rfl, by simp [hrelease f d rfl]⟩
      | endOfStartUp d => exact ⟨_, rfl, by split <;> rfl⟩
      | _ => cases hc
  · cases hc : isReset c with
    | false =>
      obtain ⟨t, hexec, ht⟩ := exec_acts s c hc
      obtain ⟨u, hexec', hu⟩ := exec_acts { s with fn := x } c hc
      exact ⟨t, u, hexec, hexec', hu.keeps.meter.trans ht.keeps.meter.symm⟩
    | true => exact exec_reset_meter s c hc x

/-- Settles O6: feeder, set and hold records by `Keeps`, the meter record by the moves of `Meter.afterCommand`. -/
theorem recordsStayConsistent : Obligations.RecordsStayConsistent := by
  intro s t
  refine ⟨step_keeps (fun _ _ h => h) (fun _ _ h => h) ?_ fun _ _ _ h _ ha => ha.keeps.feeders h,
    step_keeps (fun _ _ h => h) (fun _ _ h => h) ?_ fun _ _ _ h _ ha => ha.keeps.sets h,
    step_keeps (fun _ _ h => Meter.elapse_agrees _ h) (fun _ _ h => h) ?_ fun s c t h _ ha => ?_,
    step_keeps (fun _ _ h => h) (fun _ _ h => h) ?_ fun _ _ _ h _ ha => ha.keeps.hold h⟩
  case refine_4 =>
    rw [meterRecordAgrees_iff, ha.keeps.meter]
    show (s.meterAfter c).Agrees
    unfold State.meterAfter
    split
    · exact Meter.afterCommand_agrees (Meter.elapse_agrees _ h) _ _
    · exact Meter.elapse_agrees _ h
  all_goals
    rintro t ⟨-, hfeeders, -, -, -, -, -, hsets, -, -, hmeter, -, hhold, -⟩
    assumption

/-- Settles O7: the queue by `Keeps`, and sixteen feeders have at most sixteen places. -/
theorem queueAlwaysHoldsExactlyShedFeeders : Obligations.QueueAlwaysHoldsExactlyShedFeeders := by
  intro s t h hstep
  have ht : QueueHoldsShedFeeders t := step_keeps (fun _ _ h => h) (fun _ _ h => h)
    (fun t ⟨_, _, hqueue, _⟩ => hqueue) (fun _ _ _ h _ ha => ha.keeps.queue h) h hstep
  refine ⟨ht, ?_⟩
  simpa using ht.1.length_le_card

/-- The keys that the Transmit Queue can hold (R185). -/
def State.txKeys (s : State) : List Key :=
  (indices 8).map Key.setDirective ++ (indices 4).map Key.pvCeiling
    ++ [.statusA, .statusB, .feederReport, .reply 1, .reply 2]
    ++ (indices 8).map fun i => .reply s.cfg.roster[i].address

theorem key_mem_txKeys (h : QueueKeysDistinct s) {f : Frame} (hf : f ∈ s.txQueue) : f.key ∈ s.txKeys := by
  have hkey : f.key ∈ s.txQueue.map Frame.key := List.mem_map_of_mem hf
  cases f with
  | reply dest code result data =>
    obtain h1 | h2 | ⟨i, -, hi⟩ := h.2.1 dest hkey
    · simp [State.txKeys, Frame.key, h1]
    · simp [State.txKeys, Frame.key, h2]
    · exact List.mem_append_right _ (List.mem_map.mpr ⟨i, mem_indices i, congrArg Key.reply hi⟩)
  | setDirective | pvCeiling | statusA | statusB | feederReport => simp [State.txKeys, Frame.key]

theorem txQueue_length (h : QueueKeysDistinct s) : s.txQueue.length ≤ 25 := by
  have hsub : s.txQueue.map Frame.key ⊆ s.txKeys := fun k hk => by
    obtain ⟨f, hf, rfl⟩ := List.mem_map.mp hk
    exact key_mem_txKeys h hf
  simpa [State.txKeys, indices] using (h.1.subperm hsub).length_le

/-- Settles O8: `Keeps` for the keys, and the 25 keys that there are for the bound. -/
theorem transmitQueueKeysStayDistinct : Obligations.TransmitQueueKeysStayDistinct := by
  intro s t f
  refine ⟨fun h hstep => ?_, fun before old after hq h hkey => ?_, fun hnew => enqueue_of_new hnew, rfl⟩
  · have ht : QueueKeysDistinct t := step_keeps (fun _ _ h => h) (fun _ _ h => h) (fun t ⟨_, _, _, hkeys, _⟩ => hkeys)
      (fun _ _ _ h _ ha => ha.keeps.keys h) h hstep
    exact ⟨ht, txQueue_length ht⟩
  · have hnodup := h.1
    rw [hq, List.map_append, List.map_cons, List.nodup_middle, List.nodup_cons, hkey, List.mem_append, not_or] at hnodup
    rw [State.send_txQueue, hq]
    exact enqueue_in_place hkey hnodup.1.1 hnodup.1.2

/-- Passing time touches nothing that ALERT and the trigger timer depend on. -/
theorem elapse_settled (s : State) (dt : Nat) : Settled s (s.elapse dt) :=
  { Settled.refl s with meterState := Meter.elapse_state _ _ }

/-- Settles O10: mode, marks and the trigger timer, each with the promises it leans on. -/
theorem modeAndMarkAlwaysMatchThePhase : Obligations.ModeAndMarkAlwaysMatchThePhase := by
  intro s t
  refine ⟨step_keeps (fun _ _ h => h) (fun _ _ h => h) ?_ fun _ _ _ h _ ha => ha.keeps.mode h,
    fun hm hs hk hstep => ?_, fun hm ht hstep => ?_⟩
  · rintro t ⟨-, -, -, -, -, hmode, -⟩
    exact hmode
  · have ht : ModeMatchesPhase t ∧ SetRecordsAgree t ∧ MarkIsCandidate t :=
      step_keeps (P := fun s => ModeMatchesPhase s ∧ SetRecordsAgree s ∧ MarkIsCandidate s) (fun _ _ h => h) (fun _ _ h => h)
        (fun t ⟨_, _, _, _, _, hmode, _, hsets, hmarks, _⟩ => ⟨hmode, hsets, hmarks⟩)
        (fun _ _ _ ⟨hm, hs, hk⟩ _ ha => ⟨ha.keeps.mode hm, ha.keeps.sets hs, ha.keeps.marks hm hs hk⟩) ⟨hm, hs, hk⟩ hstep
    refine ⟨ht.2.2, fun i j hi hj => ?_⟩
    exact Option.some.inj ((ht.2.2 i hi).2.1.symm.trans (ht.2.2 j hj).2.1)
  · exact (step_keeps (P := fun s => ModeMatchesPhase s ∧ TriggerFollowsConditions s)
      (fun s dt h => ⟨h.1, (elapse_settled s dt).trigger h.2⟩) (fun _ _ h => h)
      (fun t ⟨_, _, _, _, _, hmode, htrigger, _⟩ => ⟨hmode, htrigger⟩)
      (fun s c _ ⟨hm, ht⟩ _ ha => ⟨ha.keeps.mode hm, ha.trigger hm ((elapse_settled s c.dt).trigger ht)⟩) ⟨hm, ht⟩ hstep).2

/-- Settles O9: ALERT is set at the end of every event, and no quiet command touches what it depends on. -/
theorem alertAlwaysFollowsAlertSet : Obligations.AlertAlwaysFollowsAlertSet := by
  intro s t h hstep
  exact step_keeps (fun _ _ h => h) (fun _ _ h => h) (fun t ⟨_, _, _, _, halert, _⟩ => halert)
    (fun _ _ _ h _ ha => ha.alert h) h hstep

/-- Settles O11: every change of a set's state, its mark or the mode derives the directive again. -/
theorem directivesAlwaysFollowStates : Obligations.DirectivesAlwaysFollowStates := by
  intro s t h hstep
  exact step_keeps (fun _ _ h => h) (fun _ _ h => h) (fun t ⟨_, _, _, _, _, _, _, _, _, hdirectives, _⟩ => hdirectives)
    (fun _ _ _ h _ ha => ha.keeps.directives h) h hstep

/-- Settles O12: ceilings and parameters by `Keeps`. -/
theorem valuesStayInRange : Obligations.ValuesStayInRange := by
  intro s t
  refine ⟨step_keeps (fun _ _ h => h) (fun _ _ h => h) ?_ fun _ _ _ h _ ha => ha.keeps.ceilings h,
    step_keeps (fun _ _ h => h) (fun _ _ h => h) ?_ fun _ _ _ h _ ha => ha.keeps.params h⟩
  all_goals
    rintro t ⟨-, -, -, -, -, -, -, -, -, -, -, hceilings, -, hparams⟩
    assumption

/-- Settles O13: the reset state is what a reset makes of itself. -/
theorem resetMeetsEveryPromise : Obligations.ResetMeetsEveryPromise := by
  refine ⟨restart_safe State.reset (power := .startUp) nofun 50000, ?_⟩
  decide

end Steps

end Sys2Proof.Machine
end

section
/-! The requests and timers that act without an end of event: what the running device makes of them, and the
statements on holds, reads, locks and windows. -/

namespace Sys2Proof.Machine

variable {s : State} {rx : Rx}

/-! ## Requests that pass the checks of R161 -/

theorem refusal_elapse (dt : Nat) (role : Role) (g : Gate) : (s.elapse dt).refusal role g = s.refusal role g := rfl

theorem refusal_none_of {role : Role} {g : Gate} (hrole : role.allowed g.gensets = true)
    (hseq : g.seqActive = true → s.mode ≠ .blackstart)
    (hlock : g.lock = true → ¬ (s.cfg.lockFlag = true ∧ s.cfglockLevel = true))
    (hsave : g.busySave = true → s.save = none) (hwindow : g.busyWindow = true → s.window = none) :
    s.refusal role g = none := by
  have h1 : ¬ (g.seqActive = true ∧ s.mode = .blackstart) := fun h => hseq h.1 h.2
  have h2 : ¬ (g.lock = true ∧ s.lockInForce = true) := fun h => hlock h.1 (by simpa [State.lockInForce] using h.2)
  have h3 : ¬ ((g.busySave = true ∧ s.save.isSome = true) ∨ (g.busyWindow = true ∧ s.window.isSome = true)) := by
    rintro (h | h)
    · simp [hsave h.1] at h
    · simp [hwindow h.1] at h
  simp [State.refusal, hrole, h1, h2, h3]

theorem requestEvent_of_supervisor {code : BitVec 5} {g : Gate} {own : State → State} (h : Hears s rx)
    (hs : FromSupervisor rx) (hr : s.refusal .supervisor g = none) :
    s.requestEvent rx code g own = own (s.elapse rx.dt) := by
  rw [State.requestEvent, frameEvent_of_heard h, request_of_passed (s := s.elapse rx.dt) hs hr]

/-- A request without a gate is taken from every supervisor. -/
theorem requestEvent_ungated {code : BitVec 5} {own : State → State} (h : Hears s rx) (hs : FromSupervisor rx) :
    s.requestEvent rx code {} own = own (s.elapse rx.dt) :=
  requestEvent_of_supervisor h hs (refusal_none_of rfl nofun nofun nofun nofun)

/-- A request that genset controllers may send and that has no other gate is taken from them and from supervisors. -/
theorem requestEvent_of_member {code : BitVec 5} {own : State → State} (h : Hears s rx)
    (hm : FromSupervisor rx ∨ FromGenset s rx) :
    s.requestEvent rx code { gensets := true } own = own (s.elapse rx.dt) := by
  obtain hs | hg := hm
  · exact requestEvent_of_supervisor h hs (refusal_none_of rfl nofun nofun nofun nofun)
  · obtain ⟨i, hrole, -⟩ := roleOf_genset hg
    have hrole' : (s.elapse rx.dt).roleOf rx.src.toNat = .genset i := hrole
    rw [State.requestEvent, frameEvent_of_heard h, State.request, hrole']
    simp only [refusal_none_of (s := s.elapse rx.dt) (role := .genset i) (g := { gensets := true }) rfl nofun nofun nofun
      nofun]

/-! ## Timers that are taken when due -/

theorem due_of_le {timer : Option Count} {ends : Count} (ht : timer = some ends) (h : ends ≤ s.clk) :
    s.due timer = true := ht ▸ decide_eq_true h

theorem not_due_of_lt {timer : Option Count} {ends : Count} (ht : timer = some ends) (h : s.clk < ends) :
    s.due timer ≠ true := ht ▸ by simpa [State.due] using h

theorem resume_eq (t : Settle) (now : Count) : t.resume now = match t with
    | .paused left => .running (now + left)
    | other => other := by
  cases t <;> rfl

theorem pause_eq (t : Settle) (now : Count) : t.pause now = match t with
    | .running ends => .paused (ends - now)
    | other => other := by
  cases t <;> rfl

theorem settle_lapse_running (ends now : Count) :
    (Settle.running ends).lapse now = if ends ≤ now then .stopped else .running ends := rfl

/-- Settles O36. -/
theorem restorationAndWindowTimersExpire : Obligations.RestorationAndWindowTimersExpire := by
  intro s dt ends hrun
  simp only [exec, execSettleExpiry, execTholdmaxExpiry, execTholdgapEnd, execIdleExpiry, quiet_of_running hrun,
    Host.Outcome.next.injEq, State.elapse_settle, State.elapse_hold, State.elapse_window, State.elapse_clk]
  refine ⟨fun hsettle => ?_, fun hhold hmax hdue => ?_, fun hmax hdue => ?_, fun hgap hdue => ?_, fun hgap hdue => ?_,
    fun w hw hdue => ?_, fun w hw hdue => ?_⟩
  · rw [hsettle, settle_lapse_running]
  · refine (if_pos ⟨hhold, due_of_le hmax hdue⟩).trans ?_
    rw [State.endHold, resume_eq]
    rfl
  · exact if_neg fun h => not_due_of_lt (s := s.elapse dt) hmax hdue h.2
  · exact if_pos (due_of_le (s := s.elapse dt) hgap hdue)
  · exact if_neg (not_due_of_lt (s := s.elapse dt) hgap hdue)
  · exact if_pos (due_of_le (s := s.elapse dt) (by rw [hw, Option.map_some]) hdue)
  · exact if_neg (not_due_of_lt (s := s.elapse dt) (by rw [hw, Option.map_some]) hdue)

/-! ## Holds (R132 to R135) -/

theorem anyFeeder_iff (s : State) (st : FeederState) : s.anyFeeder st = true ↔ ∃ i : Fin 16, s.feeders[i].state = st := by
  simp only [State.anyFeeder, List.any_eq_true, mem_indices, true_and, decide_eq_true_eq]

theorem anyFeeder_eq_false (s : State) (st : FeederState) :
    s.anyFeeder st = false ↔ ¬ ∃ i : Fin 16, s.feeders[i].state = st := by
  rw [← anyFeeder_iff, Bool.not_eq_true]

/-- The reply of a Hold Restoration names the holder and the time left to the end of the hold (R132). -/
theorem answerHold_of_hold {holder ends : Nat} (hholder : s.hold.holder = some holder) (hends : s.hold.maxEnds = some ends)
    (result : Result) : s.answerHold rx result =
      s.answer rx 0x04 result (byte s.hold.state.code :: byte holder :: be16 (secondsLeft ends s.clk)) := by
  simp only [State.answerHold, State.holdData, hholder, hends]
  rfl

/-- With neither a hold nor tHOLDGAP running the time field is a free value (log 15). -/
theorem answerHold_of_none (hhold : s.hold = .none) (result : Result) : s.answerHold rx result =
    (s.answer rx 0x04 result (0 :: be16 (Config.freeWord s.freeCount).toNat)).useFree := by
  simp only [State.answerHold, State.holdData, hhold]
  rfl

theorem nothingToHold_iff (s : State) : s.nothingToHold = true ↔
    s.queue = [] ∧ (¬ ∃ i : Fin 16, s.feeders[i].state = .closing) ∧ s.settle = .stopped := by
  simp only [State.nothingToHold, Bool.and_eq_true, Bool.not_eq_true', anyFeeder_eq_false, decide_eq_true_eq,
    List.isEmpty_iff, and_assoc]

theorem secondsLeft_whole (now : Nat) : secondsLeft (now + tHOLDMAX) now = 30 := by
  simp [secondsLeft, ceilDiv, tHOLDMAX]

theorem holdRestoration_accepted (hhold : s.hold = .none) (h : ¬ s.nothingToHold = true) (rx : Rx) :
    s.holdRestoration rx = (s.acceptHold rx.src.toNat).answerHold rx .accepted := by
  rw [State.holdRestoration, if_neg (by simp [hhold, Hold.none]), if_neg (by simp [hhold, Hold.none]), if_neg h]

theorem acceptHold_of_closing (h : ∃ i : Fin 16, s.feeders[i].state = .closing) (holder : Nat) :
    s.acceptHold holder = { s with hold := ⟨.pending, some holder, some (s.clk + tHOLDMAX), none⟩ } :=
  if_pos ((anyFeeder_iff _ _).mpr h)

theorem acceptHold_of_not_closing (h : ¬ ∃ i : Fin 16, s.feeders[i].state = .closing) (holder : Nat) :
    s.acceptHold holder = { s with
      hold := ⟨.inEffect, some holder, some (s.clk + tHOLDMAX), none⟩, settle := s.settle.pause s.clk } :=
  if_neg (by rwa [anyFeeder_iff])

/-- Settles O35. -/
theorem holdsStartAndEnd : Obligations.HoldsStartAndEnd := by
  refine fun s rx => ⟨fun hhears hm => ?_, fun hhears hm => ?_⟩
  · have hexec : exec (.holdRestoration rx) s = .next ((s.elapse rx.dt).holdRestoration rx) :=
      congrArg Host.Outcome.next (requestEvent_of_member hhears hm)
    simp only [hexec, Host.Outcome.next.injEq]
    refine ⟨fun holder ends hstate hholder hends => ?_, fun ends hhold => ?_, fun hhold hqueue hclosing hsettle => ?_,
      fun hhold hclosing => ?_, fun hhold hclosing hsome => ?_⟩
    · rw [State.holdRestoration, if_pos (by exact hstate), answerHold_of_hold (s := s.elapse rx.dt) hholder hends]
      simp only [State.elapse_hold, hholder, Option.some.injEq]
      rfl
    · simp [State.holdRestoration, State.answerHold, State.holdData, hhold, HoldState.code, byte, State.answer,
        State.reply, State.send, withReply]
    · have hnothing : (s.elapse rx.dt).nothingToHold = true := (nothingToHold_iff _).mpr ⟨hqueue, hclosing, hsettle⟩
      refine ⟨_, _, s.freeCount + 1, show _ = { s.elapse rx.dt with
        txQueue := withReply s rx 0x04 .acceptedNoEffect (0 :: be16 (Config.freeWord s.freeCount).toNat)
        freeCount := s.freeCount + 1 } from ?_⟩
      rw [State.holdRestoration, if_neg (by simp [hhold]), if_neg (by simp [hhold]), if_pos hnothing,
        answerHold_of_none (s := s.elapse rx.dt) hhold]
      rfl
    · rw [holdRestoration_accepted (s := s.elapse rx.dt) hhold (by rw [nothingToHold_iff]; exact fun h => h.2.1 hclosing),
        acceptHold_of_closing (s := s.elapse rx.dt) hclosing, answerHold_of_hold rfl rfl, secondsLeft_whole]
      rfl
    · rw [holdRestoration_accepted (s := s.elapse rx.dt) hhold (by rw [nothingToHold_iff]; exact fun h => hsome.elim (· h.1) (· h.2.2)),
        acceptHold_of_not_closing (s := s.elapse rx.dt) hclosing, answerHold_of_hold rfl rfl, secondsLeft_whole, pause_eq]
      rfl
  · have hexec : exec (.resumeRestoration rx) s = .next ((s.elapse rx.dt).resumeRestoration rx) :=
      congrArg Host.Outcome.next (requestEvent_of_member hhears hm)
    simp only [hexec, Host.Outcome.next.injEq]
    refine ⟨fun hstate hholder => ?_, fun hstate hholder => ?_, fun hstate => ?_⟩
    · rw [State.resumeRestoration, if_neg (by exact hstate), if_pos (by exact hholder)]
      simp only [State.endHold, resume_eq, State.elapse_settle, State.elapse_clk]
      cases s.settle <;> simp [Settle.secondsLeft, secondsLeft, ceilDiv, State.answer, State.reply, State.send, withReply,
        HoldState.code, byte, tHOLDGAP]
    · rw [State.resumeRestoration, if_neg (by exact hstate), if_neg (by exact hholder)]
      rfl
    · rw [State.resumeRestoration, if_pos (by exact hstate)]
      simp only [State.elapse_hold, hstate]
      rfl

end Sys2Proof.Machine
end

section
/-! The store image (R178, R180): its layout, and that settings come back from their own image. -/

namespace Sys2Proof.Machine

/-! ## Bytes -/

theorem byte_toNat {n : Nat} (h : n < 256) : (byte n).toNat = n := Nat.mod_eq_of_lt h

theorem octet_cons {n : Nat} (h : n < 256) (bs : List Byte) : octet (byte n :: bs) 0 = n := byte_toNat h

theorem octet_succ (b : Byte) (bs : List Byte) (i : Nat) : octet (b :: bs) (i + 1) = octet bs i := rfl

theorem word_succ (b : Byte) (bs : List Byte) (i : Nat) : word (b :: bs) (i + 1) = word bs i := rfl

theorem word_be16 {n : Nat} (h : n < 65536) (bs : List Byte) : word (be16 n ++ bs) 0 = n := by
  have hhi : (BitVec.ofNat 8 (n / 256)).toNat = n / 256 := Nat.mod_eq_of_lt (by omega)
  have hlo : (BitVec.ofNat 8 n).toNat = n % 256 := rfl
  calc word (be16 n ++ bs) 0 = (BitVec.ofNat 8 (n / 256)).toNat * 256 + (BitVec.ofNat 8 n).toNat := rfl
    _ = n := by omega

theorem word_skip (n : Nat) (bs : List Byte) (i : Nat) : word (be16 n ++ bs) (i + 2) = word bs i := rfl

theorem word_eq_word_drop (bs : List Byte) (i : Nat) : word bs i = word (bs.drop i) 0 := by
  simp [word]

theorem octet_eq_octet_drop (bs : List Byte) (i : Nat) : octet bs i = octet (bs.drop i) 0 := by
  simp [octet]

/-! ## Entries -/

theorem setEntry_roundTrip {e : SetEntry} (haddress : e.address < 256) (hrating : e.rating < 65536)
    (hpriority : e.priority < 16) (hrun : e.minRun < 256) (hdown : e.minDown < 256) (hstart : e.startTimeout < 256)
    (bs : List Byte) : SetEntry.ofBytes (e.toBytes ++ bs) = e := by
  have hflag : e.priority % 16 + 128 * e.capable.toNat < 256 := by have := e.capable.toNat_le; omega
  have hparts : (e.priority % 16 + 128 * e.capable.toNat) % 16 = e.priority
      ∧ ((e.priority % 16 + 128 * e.capable.toNat) / 128 = 1 ↔ e.capable = true) := by
    cases e.capable <;> simp <;> omega
  obtain ⟨address, rating, priority, capable, minRun, minDown, startTimeout⟩ := e
  simp only [SetEntry.toBytes, List.cons_append, List.append_assoc, SetEntry.ofBytes, octet_cons haddress, word_succ,
    word_be16 hrating]
  simp only [be16, List.cons_append, List.nil_append, octet_succ, octet_cons hflag, octet_cons hrun, octet_cons hdown,
    octet_cons hstart, hparts.1, hparts.2, Bool.decide_eq_true]

theorem pvEntry_roundTrip {e : PvEntry} (haddress : e.address < 256) (hrating : e.rating < 65536) (bs : List Byte) :
    PvEntry.ofBytes (e.toBytes ++ bs) = e := by
  simp only [PvEntry.toBytes, List.cons_append, PvEntry.ofBytes, octet_cons haddress, word_succ, word_be16 hrating]

theorem feederEntry_roundTrip {e : FeederEntry} (hposition : e.position < 32) (hload : e.load < 65536) (bs : List Byte) :
    FeederEntry.ofBytes (e.toBytes ++ bs) = e := by
  have hflag : e.position % 32 + 128 * e.enabled.toNat < 256 := by have := e.enabled.toNat_le; omega
  have hparts : (e.position % 32 + 128 * e.enabled.toNat) % 32 = e.position
      ∧ ((e.position % 32 + 128 * e.enabled.toNat) / 128 = 1 ↔ e.enabled = true) := by
    cases e.enabled <;> simp <;> omega
  simp only [FeederEntry.toBytes, List.cons_append, FeederEntry.ofBytes, octet_cons hflag, word_succ, word_be16 hload,
    hparts.1, hparts.2, Bool.decide_eq_true]

theorem stageEntry_roundTrip {e : StageEntry} (hwidth : e.width < 8) (hoffset : e.offset < 65536) (hdelay : e.delay < 65536)
    (hrocof : e.rocofLimit < 65536) (bs : List Byte) : StageEntry.ofBytes (e.toBytes ++ bs) = e := by
  have hflag : e.width % 8 + 64 * (if e.reach = .deep then 1 else 0) + 128 * e.enabled.toNat < 256 := by
    have := e.enabled.toNat_le
    split <;> omega
  have hparts : (e.width % 8 + 64 * (if e.reach = .deep then 1 else 0) + 128 * e.enabled.toNat) % 8 = e.width
      ∧ ((e.width % 8 + 64 * (if e.reach = .deep then 1 else 0) + 128 * e.enabled.toNat) / 128 = 1 ↔ e.enabled = true)
      ∧ (if (e.width % 8 + 64 * (if e.reach = .deep then 1 else 0) + 128 * e.enabled.toNat) / 64 % 2 = 1 then Reach.deep
          else .shallow) = e.reach := by
    cases e.enabled <;> cases e.reach <;> simp <;> omega
  simp only [StageEntry.toBytes, List.cons_append, List.append_assoc, StageEntry.ofBytes, octet_cons hflag, word_succ,
    word_skip, word_be16 hoffset, word_be16 hdelay, word_be16 hrocof, hparts.1, hparts.2.1, hparts.2.2,
    Bool.decide_eq_true]

/-! ## The layout of the content -/

section Blocks

variable {α : Type} {f : α → List Byte} {k : Nat}

theorem length_flatMap_entries (hk : ∀ x, (f x).length = k) (l : List α) : (l.flatMap f).length = k * l.length := by
  simp [List.length_flatMap, hk, Nat.mul_comm]

/-- The bytes of entry `i` of a block stand at `k * i` of it. -/
theorem drop_block (hk : ∀ x, (f x).length = k) (before after : List Byte) {l : List α} {i : Nat} (h : i < l.length) :
    ∃ rest, (before ++ (l.flatMap f ++ after)).drop (before.length + k * i) = f l[i] ++ rest := by
  have hl : l = l.take i ++ l[i] :: l.drop (i + 1) := by simp
  have hlen : k * i = ((l.take i).flatMap f).length := by
    rw [length_flatMap_entries hk, List.length_take, Nat.min_eq_left (Nat.le_of_lt h)]
  refine ⟨(l.drop (i + 1)).flatMap f ++ after, ?_⟩
  rw [List.drop_append, List.drop_of_length_le (Nat.le_add_right _ _), Nat.add_sub_cancel_left, List.nil_append]
  conv_lhs => rw [hl]
  rw [List.flatMap_append, List.flatMap_cons, List.append_assoc, hlen, List.drop_left, List.append_assoc]

end Blocks

theorem setEntry_length (e : SetEntry) : e.toBytes.length = 7 := rfl
theorem pvEntry_length (e : PvEntry) : e.toBytes.length = 3 := rfl
theorem feederEntry_length (e : FeederEntry) : e.toBytes.length = 3 := rfl
theorem stageEntry_length (e : StageEntry) : e.toBytes.length = 7 := rfl
theorem be16_length (n : Nat) : (be16 n).length = 2 := rfl

section Content

variable {c : Settings}

theorem content_length (c : Settings) : c.content.length = contentLength := by
  simp only [Settings.content, List.length_append, length_flatMap_entries setEntry_length,
    length_flatMap_entries pvEntry_length, length_flatMap_entries feederEntry_length,
    length_flatMap_entries stageEntry_length, length_flatMap_entries be16_length, Vector.length_toList, List.length_singleton,
    contentLength]

theorem content_roster (c : Settings) (i : Fin 8) : ∃ rest, c.content.drop (7 * i.val) = c.roster[i].toBytes ++ rest := by
  obtain ⟨rest, h⟩ := drop_block setEntry_length [] (c.pv.toList.flatMap PvEntry.toBytes
    ++ c.feeders.toList.flatMap FeederEntry.toBytes ++ c.stages.toList.flatMap StageEntry.toBytes
    ++ c.params.toList.flatMap be16 ++ [boolByte c.lockFlag]) (l := c.roster.toList) (i := i.val) (by simp)
  refine ⟨rest, ?_⟩
  simpa [Settings.content] using h

theorem content_pv (c : Settings) (p : Fin 4) : ∃ rest, c.content.drop (56 + 3 * p.val) = c.pv[p].toBytes ++ rest := by
  obtain ⟨rest, h⟩ := drop_block pvEntry_length (c.roster.toList.flatMap SetEntry.toBytes)
    (c.feeders.toList.flatMap FeederEntry.toBytes ++ c.stages.toList.flatMap StageEntry.toBytes
    ++ c.params.toList.flatMap be16 ++ [boolByte c.lockFlag]) (l := c.pv.toList) (i := p.val) (by simp)
  rw [length_flatMap_entries setEntry_length, Vector.length_toList] at h
  refine ⟨rest, ?_⟩
  simpa [Settings.content] using h

theorem content_feeders (c : Settings) (i : Fin 16) :
    ∃ rest, c.content.drop (68 + 3 * i.val) = c.feeders[i].toBytes ++ rest := by
  obtain ⟨rest, h⟩ := drop_block feederEntry_length (c.roster.toList.flatMap SetEntry.toBytes
    ++ c.pv.toList.flatMap PvEntry.toBytes) (c.stages.toList.flatMap StageEntry.toBytes
    ++ c.params.toList.flatMap be16 ++ [boolByte c.lockFlag]) (l := c.feeders.toList) (i := i.val) (by simp)
  rw [List.length_append, length_flatMap_entries setEntry_length, length_flatMap_entries pvEntry_length,
    Vector.length_toList, Vector.length_toList] at h
  refine ⟨rest, ?_⟩
  simpa [Settings.content] using h

theorem content_stages (c : Settings) (k : Fin 8) :
    ∃ rest, c.content.drop (116 + 7 * k.val) = c.stages[k].toBytes ++ rest := by
  obtain ⟨rest, h⟩ := drop_block stageEntry_length (c.roster.toList.flatMap SetEntry.toBytes
    ++ c.pv.toList.flatMap PvEntry.toBytes ++ c.feeders.toList.flatMap FeederEntry.toBytes)
    (c.params.toList.flatMap be16 ++ [boolByte c.lockFlag]) (l := c.stages.toList) (i := k.val) (by simp)
  simp only [List.length_append, length_flatMap_entries setEntry_length, length_flatMap_entries pvEntry_length,
    length_flatMap_entries feederEntry_length, Vector.length_toList] at h
  refine ⟨rest, ?_⟩
  simpa [Settings.content] using h

theorem content_params (c : Settings) (p : Fin 28) :
    ∃ rest, c.content.drop (172 + 2 * p.val) = be16 c.params[p] ++ rest := by
  obtain ⟨rest, h⟩ := drop_block be16_length (c.roster.toList.flatMap SetEntry.toBytes
    ++ c.pv.toList.flatMap PvEntry.toBytes ++ c.feeders.toList.flatMap FeederEntry.toBytes
    ++ c.stages.toList.flatMap StageEntry.toBytes) [boolByte c.lockFlag] (l := c.params.toList) (i := p.val) (by simp)
  simp only [List.length_append, length_flatMap_entries setEntry_length, length_flatMap_entries pvEntry_length,
    length_flatMap_entries feederEntry_length, length_flatMap_entries stageEntry_length, Vector.length_toList] at h
  refine ⟨rest, ?_⟩
  simpa [Settings.content] using h

theorem content_lockFlag (c : Settings) : octet c.content 228 = (boolByte c.lockFlag).toNat := by
  have h : c.content.drop 228 = [boolByte c.lockFlag] := by
    rw [Settings.content, List.drop_append_of_le_length, List.drop_of_length_le, List.nil_append]
    all_goals
      simp only [List.length_append, length_flatMap_entries setEntry_length, length_flatMap_entries pvEntry_length,
        length_flatMap_entries feederEntry_length, length_flatMap_entries stageEntry_length,
        length_flatMap_entries be16_length, Vector.length_toList]
      omega
  rw [octet_eq_octet_drop, h]
  rfl

theorem ofContent_content (hfit : SettingsFit c) (hok : c.contentOk = true) : Settings.ofContent c.content = c := by
  obtain ⟨hroster, hpv, hfeeders, hstages⟩ := hfit
  have hparams : ∀ p : Fin 28, c.params[p] < 65536 := fun p => by
    simp only [Settings.contentOk, Bool.and_eq_true, List.all_eq_true, decide_eq_true_eq, mem_indices, true_implies] at hok
    have hhi : ∀ p : Fin 28, paramRows[p].hi < 65536 := by decide
    exact Nat.lt_of_le_of_lt (hok.2 p).2 (hhi p)
  have hlock : decide (octet c.content 228 ≠ 0) = c.lockFlag := by
    rw [content_lockFlag]
    cases c.lockFlag <;> rfl
  obtain ⟨roster, pv, feeders, stages, params, lockFlag⟩ := c
  rw [Settings.ofContent, hlock]
  congr 1
  · refine Vector.ext fun i hi => ?_
    rw [getElem_tabulate]
    obtain ⟨rest, h⟩ := content_roster ⟨roster, pv, feeders, stages, params, lockFlag⟩ ⟨i, hi⟩
    obtain ⟨haddress, hrating, hpriority, hrun, hdown, hstart⟩ := hroster ⟨i, hi⟩
    rw [h, setEntry_roundTrip haddress hrating hpriority hrun hdown hstart]
    rfl
  · refine Vector.ext fun p hp => ?_
    rw [getElem_tabulate]
    obtain ⟨rest, h⟩ := content_pv ⟨roster, pv, feeders, stages, params, lockFlag⟩ ⟨p, hp⟩
    rw [h, pvEntry_roundTrip (hpv ⟨p, hp⟩).1 (hpv ⟨p, hp⟩).2]
    rfl
  · refine Vector.ext fun i hi => ?_
    rw [getElem_tabulate]
    obtain ⟨rest, h⟩ := content_feeders ⟨roster, pv, feeders, stages, params, lockFlag⟩ ⟨i, hi⟩
    rw [h, feederEntry_roundTrip (hfeeders ⟨i, hi⟩).1 (hfeeders ⟨i, hi⟩).2]
    rfl
  · refine Vector.ext fun k hk => ?_
    rw [getElem_tabulate]
    obtain ⟨rest, h⟩ := content_stages ⟨roster, pv, feeders, stages, params, lockFlag⟩ ⟨k, hk⟩
    obtain ⟨hwidth, hoffset, hdelay, hrocof⟩ := hstages ⟨k, hk⟩
    rw [h, stageEntry_roundTrip hwidth hoffset hdelay hrocof]
    rfl
  · refine Vector.ext fun p hp => ?_
    rw [getElem_tabulate, word_eq_word_drop]
    obtain ⟨rest, h⟩ := content_params ⟨roster, pv, feeders, stages, params, lockFlag⟩ ⟨p, hp⟩
    rw [h, word_be16 (hparams ⟨p, hp⟩)]
    rfl

end Content

/-! ## Images -/

theorem image_take (c : Settings) : c.image.take 229 = c.content := List.take_left' (content_length c)

theorem image_drop (c : Settings) : c.image.drop 229 = be16 (crc16 c.content).toNat := List.drop_left' (content_length c)

theorem checked_image (c : Settings) : (StoreImage.whole c.image).checked = some c.content := by
  have hlen : c.image.length = contentLength + 2 := by
    rw [Settings.image, List.length_append, content_length, be16_length]
  have hcrc : word c.image contentLength = (crc16 (c.image.take contentLength)).toNat := by
    rw [word_eq_word_drop, contentLength, image_drop, image_take, ← List.append_nil (be16 _), word_be16 (BitVec.isLt _)]
  rw [StoreImage.checked, if_pos ⟨hlen, hcrc⟩, contentLength, image_take]

theorem load_of_unchecked {image : StoreImage} (h : image.checked = none) : image.load = (.defaults, true) := by
  rw [StoreImage.load, h]

/-- Settles O15. -/
theorem storeLoadsSavedSettingsOrDefaults : Obligations.StoreLoadsSavedSettingsOrDefaults := by
  intro c bytes
  refine ⟨fun hfit hok => ?_, ⟨rfl, rfl⟩, fun hbad => ?_, ?_⟩
  · rw [StoreImage.load, checked_image]
    simp only [ofContent_content hfit hok, hok, if_true]
  · by_cases hchecked : (StoreImage.whole bytes).checked = none
    · exact load_of_unchecked hchecked
    · have hgood : bytes.length = contentLength + 2
          ∧ word bytes contentLength = (crc16 (bytes.take contentLength)).toNat := by
        by_contra hne
        exact hchecked (if_neg hne)
      have hcontent : (Settings.ofContent (bytes.take 229)).contentOk = false := by
        obtain hlen | hcrc | hcontent := hbad
        · exact absurd hgood.1 hlen
        · exact absurd hgood.2 hcrc
        · exact hcontent
      have hsome : (StoreImage.whole bytes).checked = some (bytes.take 229) := if_pos hgood
      simp only [StoreImage.load, hsome, hcontent]
      rfl
  · decide

end Sys2Proof.Machine
end

section
/-! The frames and requests that act without an end of event: who is heard, what is refused (R161), and the statements
on the bus, reads, windows and the lock. -/

namespace Sys2Proof.Machine

variable {s : State} {rx : Rx} {c : Instr} {code : BitVec 5}

/-! ## What a frame command runs -/

/-- Every frame command is a frame taken by the running device on the selected lane (R182, R183). -/
theorem exec_frame (s : State) (h : c.rx? = some rx) : ∃ f, exec c s = .next (s.frameEvent rx f) := by
  cases c <;> simp only [Instr.rx?, Option.some.injEq, reduceCtorEq] at h <;> subst h <;> exact ⟨_, rfl⟩

/-- The columns of the table of 8.4 as a gate. -/
def requestGate (code : BitVec 5) (inBlackStart : Bool) : Gate where
  gensets := decide (code ∈ codesForGensets)
  seqActive := inBlackStart
  lock := decide (code ∈ codesUnderLock)
  busySave := decide (code ∈ codesBusyInSave)
  busyWindow := decide (code = 0x0E ∨ code = 0x10)
  lockData := decide (code = 0x12)

theorem exec_request (s : State) (h : c.rx? = some rx) (hcode : c.code? = some code) :
    ∃ own, exec c s = .next (s.requestEvent rx code (requestGate code c.refusedInBlackStart) own) := by
  cases c <;> simp only [Instr.rx?, Instr.code?, Option.some.injEq, reduceCtorEq] at h hcode <;> subst h hcode <;>
    exact ⟨_, rfl⟩

/-! ## Roles (R161) -/

theorem setAt_eq_none {a : Nat} (h : ∀ i : Fin 8, 0 < s.cfg.roster[i].rating → s.cfg.roster[i].address ≠ a) :
    s.setAt a = none := by
  cases hfind : s.setAt a with
  | none => rfl
  | some i => exact absurd (setAt_some hfind).2 (h i (setAt_some hfind).1)

theorem plantAt_eq_none {a : Nat} (h : ∀ p : Fin 4, 0 < s.cfg.pv[p].rating → s.cfg.pv[p].address ≠ a) :
    s.plantAt a = none := by
  cases hfind : s.plantAt a with
  | none => rfl
  | some p => exact absurd (plantAt_some hfind).2 (h p (plantAt_some hfind).1)

theorem plantAt_eq_some {a : Nat} {p : Fin 4} (hrating : 0 < s.cfg.pv[p].rating) (haddress : s.cfg.pv[p].address = a)
    (hunique : ∀ j : Fin 4, 0 < s.cfg.pv[j].rating → s.cfg.pv[j].address = a → j = p) : s.plantAt a = some p := by
  cases hfind : s.plantAt a with
  | none => exact absurd haddress (plantAt_none hfind p hrating)
  | some j => rw [hunique j (plantAt_some hfind).1 (plantAt_some hfind).2]

theorem setAt_eq_some {a : Nat} {i : Fin 8} (hrating : 0 < s.cfg.roster[i].rating) (haddress : s.cfg.roster[i].address = a)
    (hunique : ∀ j : Fin 8, 0 < s.cfg.roster[j].rating → s.cfg.roster[j].address = a → j = i) : s.setAt a = some i := by
  cases hfind : s.setAt a with
  | none => exact absurd haddress (setAt_none hfind i hrating)
  | some j => rw [hunique j (setAt_some hfind).1 (setAt_some hfind).2]

/-- An address that is neither a supervisor's nor a configured set's has no role that may send a request. -/
theorem roleOf_outsider (hs : ¬ FromSupervisor rx)
    (h : ∀ i : Fin 8, 0 < s.cfg.roster[i].rating → s.cfg.roster[i].address ≠ rx.src.toNat) :
    s.roleOf rx.src.toNat = .pvController ∨ s.roleOf rx.src.toNat = .stranger := by
  rw [State.roleOf, if_neg hs, setAt_eq_none h]
  dsimp only
  split
  · exact .inl rfl
  · exact .inr rfl

/-- The sender is configured: a supervisor, a set's controller or a plant's (R161). -/
abbrev SenderConfigured (s : State) (rx : Rx) : Prop :=
  FromSupervisor rx
    ∨ (∃ i : Fin 8, 0 < s.cfg.roster[i].rating ∧ s.cfg.roster[i].address = rx.src.toNat)
    ∨ (∃ p : Fin 4, 0 < s.cfg.pv[p].rating ∧ s.cfg.pv[p].address = rx.src.toNat)

theorem roleOf_ne_stranger_iff : s.roleOf rx.src.toNat ≠ .stranger ↔ SenderConfigured s rx := by
  by_cases hs : FromSupervisor rx
  · rw [roleOf_supervisor hs]
    exact ⟨fun _ => .inl hs, fun _ => nofun⟩
  rw [State.roleOf, if_neg hs]
  cases hset : s.setAt rx.src.toNat with
  | some i => exact ⟨fun _ => .inr (.inl ⟨i, setAt_some hset⟩), fun _ => nofun⟩
  | none =>
    cases hplant : s.plantAt rx.src.toNat with
    | some p => exact ⟨fun _ => .inr (.inr ⟨p, plantAt_some hplant⟩), fun _ => nofun⟩
    | none =>
      refine ⟨fun h => absurd rfl h, fun h => ?_⟩
      obtain h | ⟨i, hi, ha⟩ | ⟨p, hp, ha⟩ := h
      · exact absurd h hs
      · exact absurd ha (setAt_none hset i hi)
      · exact absurd ha (plantAt_none hplant p hp)

/-! ## Refusals (R161) -/

theorem request_of_outsider {g : Gate} {own : State → State}
    (h : s.roleOf rx.src.toNat = .pvController ∨ s.roleOf rx.src.toNat = .stranger) : s.request rx code g own = s := by
  obtain h | h := h <;> rw [State.request, h]

theorem request_of_locked {g : Gate} {own : State → State} (hs : FromSupervisor rx)
    (hr : s.refusal .supervisor g = some .locked) :
    s.request rx code g own = s.answer rx code .locked (if g.lockData then s.lockBytes else []) := by
  rw [State.request, roleOf_supervisor hs]
  simp only [hr]

theorem request_of_other {g : Gate} {own : State → State} {r : Result} (hs : FromSupervisor rx)
    (hr : s.refusal .supervisor g = some r) (hne : r ≠ .locked) : s.request rx code g own = s.answer rx code r [] := by
  rw [State.request, roleOf_supervisor hs]
  simp only [hr]

theorem lockInForce_iff : s.lockInForce = true ↔ s.cfg.lockFlag = true ∧ s.cfglockLevel = true := by
  simp [State.lockInForce]

theorem lockBytes_eq (s : State) :
    s.lockBytes = [if s.cfg.lockFlag = true then 1 else 0, if s.cfglockLevel = true then 1 else 0] := rfl

/-- A genset controller's request that is not its own to send is refused NOT_PERMITTED (R161). -/
theorem request_of_genset {g : Gate} {own : State → State} (hg : FromGenset s rx) (hgate : g.gensets = false) :
    s.request rx code g own = s.answer rx code .notPermitted [] := by
  obtain ⟨i, hrole, -⟩ := roleOf_genset hg
  have hr : s.refusal (.genset i) g = some .notPermitted := if_pos hgate
  rw [State.request, hrole]
  simp only [hr]

section Supervisor

variable {g : Gate}

theorem refusal_seqActive (h : g.seqActive = true ∧ s.mode = .blackstart) :
    s.refusal .supervisor g = some .seqActive := by
  simp [State.refusal, Role.allowed, h]

theorem refusal_locked (hseq : ¬ (g.seqActive = true ∧ s.mode = .blackstart)) (hlock : g.lock = true)
    (hforce : s.cfg.lockFlag = true ∧ s.cfglockLevel = true) : s.refusal .supervisor g = some .locked := by
  simp [State.refusal, Role.allowed, hseq, hlock, lockInForce_iff.mpr hforce]

theorem refusal_busy (hseq : ¬ (g.seqActive = true ∧ s.mode = .blackstart))
    (hlock : ¬ (g.lock = true ∧ s.cfg.lockFlag = true ∧ s.cfglockLevel = true))
    (hbusy : (g.busySave = true ∧ s.save ≠ none) ∨ (g.busyWindow = true ∧ s.window ≠ none)) :
    s.refusal .supervisor g = some .busy := by
  rw [← lockInForce_iff] at hlock
  rw [← Option.isSome_iff_ne_none, ← Option.isSome_iff_ne_none] at hbusy
  rw [State.refusal, if_neg (by simp [Role.allowed]), if_neg hseq, if_neg hlock, if_pos hbusy]

end Supervisor

/-- Settles O52. -/
theorem refusedRequestsChangeOnlyTheReply : Obligations.RefusedRequestsChangeOnlyTheReply := by
  intro s c rx code unknown hhears
  refine ⟨fun hm => ?_, fun hrx hcode => ?_⟩
  · refine ⟨codeField unknown, congrArg Host.Outcome.next ?_, fun hlt => ?_⟩
    · rw [frameEvent_of_heard hhears]
      obtain hs | hg := hm
      · rw [roleOf_supervisor hs]
        rfl
      · obtain ⟨i, hrole, -⟩ := roleOf_genset (s := s.elapse rx.dt) hg
        rw [hrole]
        rfl
    · rw [codeField, if_pos hlt, BitVec.toNat_setWidth]
      exact Nat.mod_eq_of_lt hlt
  · obtain ⟨own, hexec⟩ := exec_request s hrx hcode
    rw [hexec, State.requestEvent, frameEvent_of_heard hhears]
    simp only [Host.Outcome.next.injEq]
    refine ⟨fun hg hout => ?_, fun hs hmode => ?_, fun hs hmode hlock hforce => ?_, fun hs hmode hlock hbusy => ?_⟩
    · rw [request_of_genset (s := s.elapse rx.dt) hg (decide_eq_false hout)]
      rfl
    · rw [request_of_other hs (refusal_seqActive (s := s.elapse rx.dt) (by exact hmode)) nofun]
      rfl
    · rw [request_of_locked hs (refusal_locked (s := s.elapse rx.dt) (by exact hmode) (decide_eq_true hlock) hforce)]
      have hbytes : (s.elapse rx.dt).lockBytes = [1, 1] := by
        rw [lockBytes_eq, if_pos (by exact hforce.1), if_pos (by exact hforce.2)]
      rw [hbytes]
      simp only [requestGate, decide_eq_true_eq]
      rfl
    · have hgate : ((requestGate code c.refusedInBlackStart).busySave = true ∧ s.save ≠ none)
          ∨ ((requestGate code c.refusedInBlackStart).busyWindow = true ∧ s.window ≠ none) := by
        simpa [requestGate] using hbusy
      rw [request_of_other hs (refusal_busy (s := s.elapse rx.dt) (by exact hmode)
        (fun h => hlock ⟨of_decide_eq_true h.1, h.2⟩) hgate) nofun]
      rfl

theorem ofCode_eq_none {n : Nat} (h : 5 < n) : ControllerState.ofCode n = none := by
  obtain ⟨m, rfl⟩ : ∃ m, n = m + 6 := ⟨n - 6, by omega⟩
  rfl

/-- Settles O50. -/
theorem pvReportsFillSlotsAndBadFramesAreDiscarded : Obligations.PvReportsFillSlotsAndBadFramesAreDiscarded := by
  intro s c rx output available p
  refine ⟨fun hhears hrating haddress hunique => congrArg Host.Outcome.next ?_, fun hrx hbad => ?_⟩
  · have hplant : (s.elapse rx.dt).plantAt rx.src.toNat = some p := plantAt_eq_some hrating haddress hunique
    rw [frameEvent_of_heard hhears, State.pvReport, hplant]
    rfl
  obtain ⟨f, hf⟩ := exec_frame s hrx
  by_cases hhears : Hears s rx
  case neg => rw [hf, frameEvent_of_not_heard hhears]
  obtain hbad | ⟨kind, data, rfl⟩ | ⟨code, output, rfl, hbad⟩ | ⟨output, available, rfl, hbad⟩ | ⟨hreq, hs, hbad⟩ := hbad
  · exact absurd hhears hbad
  · exact congrArg Host.Outcome.next (frameEvent_of_heard hhears _)
  · refine congrArg Host.Outcome.next ?_
    rw [frameEvent_of_heard hhears, State.setReport]
    obtain hno | hcode := hbad
    · rw [setAt_eq_none (s := s.elapse _) hno]
    · rw [ofCode_eq_none hcode]
      cases (s.elapse _).setAt _ <;> rfl
  · refine congrArg Host.Outcome.next ?_
    rw [frameEvent_of_heard hhears, State.pvReport, plantAt_eq_none (s := s.elapse _) hbad]
  · have hrole := roleOf_outsider (s := s.elapse rx.dt) hs hbad
    obtain hknown | ⟨code, rfl⟩ := hreq
    · obtain ⟨code, hcode⟩ := Option.isSome_iff_exists.mp hknown
      obtain ⟨own, hexec⟩ := exec_request s hrx hcode
      rw [hexec, State.requestEvent, frameEvent_of_heard hhears, request_of_outsider hrole]
    · refine congrArg Host.Outcome.next ?_
      rw [frameEvent_of_heard hhears]
      obtain hrole | hrole := hrole <;> rw [hrole]

/-! ## Entry frames (R171) -/

theorem ofCode_of_lt {n : Nat} (h : n < 4) : ∃ id : TableId, TableId.ofCode n = some id ∧ id.code = n := by
  match n, h with
  | 0, _ => exact ⟨.roster, rfl, rfl⟩
  | 1, _ => exact ⟨.pv, rfl, rfl⟩
  | 2, _ => exact ⟨.feeder, rfl, rfl⟩
  | 3, _ => exact ⟨.stage, rfl, rfl⟩

theorem ofCode_code (id : TableId) : TableId.ofCode id.code = some id := by
  cases id <;> rfl

theorem ofCode_of_ge {n : Nat} (h : 4 ≤ n) : TableId.ofCode n = none := by
  obtain ⟨m, rfl⟩ : ∃ m, n = m + 4 := ⟨n - 4, by omega⟩
  rfl

theorem entryFits_iff (first : Byte) (fields : List Byte) : entryFits (first :: fields) = true ↔
    fields.length = if first.toNat / 64 = 0 ∨ first.toNat / 64 = 3 then 7 else 3 := by
  obtain ⟨id, hid, hcode⟩ := ofCode_of_lt (n := first.toNat / 64) (by have := first.isLt; omega)
  rw [entryFits, hid, ← hcode]
  cases id <;> exact decide_eq_true_iff

theorem entryData_of_fits {first : Byte} {fields : List Byte} (hfits : entryFits (first :: fields) = true)
    (hconf : SenderConfigured s rx) : s.entryData rx (first :: fields) = s.entryFrame rx (first.toNat / 64) fields :=
  if_pos ⟨hfits, roleOf_ne_stranger_iff.mpr hconf⟩

theorem entryFrame_of_owner {w : Window} {table : Nat} {fields : List Byte} (hw : s.window = some w)
    (h : rx.src.toNat = w.owner ∧ table = w.staging.table.code) :
    s.entryFrame rx table fields = { s with window := some (w.take fields s.clk) } := by
  simp only [State.entryFrame, hw, if_pos h]

theorem entryFrame_of_other {w : Window} {table : Nat} {fields : List Byte} (hw : s.window = some w)
    (h : ¬ (rx.src.toNat = w.owner ∧ table = w.staging.table.code)) :
    s.entryFrame rx table fields = { s with window := some w.reject } := by
  simp only [State.entryFrame, hw, if_neg h]

theorem entryFrame_of_none {table : Nat} {fields : List Byte} (hw : s.window = none) : s.entryFrame rx table fields =
    if rx.src.toNat = 1 ∨ rx.src.toNat = 2 then s.answer rx 0x15 .noWindow [] else s := by
  simp only [State.entryFrame, hw]

/-- Settles O51. -/
theorem entryFramesAreStagedCountedOrAnswered : Obligations.EntryFramesAreStagedCountedOrAnswered := by
  intro s rx first fields hhears configured fits
  have hexec (data : List Byte) : exec (.entryData rx data) s = .next ((s.elapse rx.dt).entryData rx data) :=
    congrArg Host.Outcome.next (frameEvent_of_heard hhears _)
  simp only [hexec, Host.Outcome.next.injEq]
  refine ⟨fun hfits hconf w hw howner htable => ?_, fun hfits hconf w hw hother => ?_, fun hfits hw hs => ?_, fun h => ?_,
    rfl⟩
  · rw [entryData_of_fits (s := s.elapse rx.dt) ((entryFits_iff _ _).mpr hfits) hconf,
      entryFrame_of_owner (s := s.elapse rx.dt) hw ⟨howner, htable⟩]
    rfl
  · rw [entryData_of_fits (s := s.elapse rx.dt) ((entryFits_iff _ _).mpr hfits) hconf,
      entryFrame_of_other (s := s.elapse rx.dt) hw fun h => hother.elim (· h.1) (· h.2)]
    rfl
  · rw [entryData_of_fits (s := s.elapse rx.dt) ((entryFits_iff _ _).mpr hfits) (.inl hs),
      entryFrame_of_none (s := s.elapse rx.dt) hw, if_pos hs]
    rfl
  · by_cases hgood : fits ∧ configured
    · rw [entryData_of_fits (s := s.elapse rx.dt) ((entryFits_iff _ _).mpr hgood.1) hgood.2]
      obtain h | h | ⟨hw, hs⟩ := h
      · exact absurd hgood.1 h
      · exact absurd hgood.2 h
      · rw [entryFrame_of_none (s := s.elapse rx.dt) hw, if_neg hs]
    · refine if_neg fun h => hgood ⟨(entryFits_iff _ _).mp h.1, ?_⟩
      exact roleOf_ne_stranger_iff (s := s.elapse rx.dt).mp h.2

end Sys2Proof.Machine
end

section
/-! Reads, windows, the lock and the transmit side: the statements on requests and commands that move one record. -/

namespace Sys2Proof.Machine

variable {s : State} {rx : Rx}

/-! ## Reads (R164) -/

/-- The bytes of a parameter value whose field holds it. -/
theorem paramBytes_of_fits {p : Param} {v : Nat} (h : paramRows[p].wide = true ∨ v < 256) :
    s.paramBytes p v = if paramRows[p].wide = true then be16 v else [byte v] := by
  unfold State.paramBytes
  split
  · rfl
  next hnarrow => rw [if_pos (h.resolve_left hnarrow)]

theorem spendParam_of_fits {p : Param} {v : Nat} (h : paramRows[p].wide = true ∨ v < 256) : s.spendParam p v = s :=
  if_neg fun ⟨hnarrow, hge⟩ => h.elim (fun hw => Bool.noConfusion (hw.symm.trans hnarrow)) fun hlt => Nat.not_lt.mpr hge hlt

theorem paramOf_eq_some {number : Byte} {p : Param} (h : p.val = number.toNat) : paramOf number = some p := by
  have hlt : number.toNat < 28 := h ▸ p.isLt
  rw [paramOf, dif_pos hlt]
  exact congrArg some (Fin.ext h.symm)

theorem paramOf_eq_none {number : Byte} (h : 28 ≤ number.toNat) : paramOf number = none :=
  dif_neg (Nat.not_lt.mpr h)

theorem readEntry_of_some {selector : Byte} {id : TableId} {data : List Byte}
    (hid : TableId.ofCode (selector.toNat / 64) = some id) (hdata : s.entryBytes id (selector.toNat % 16) = some data) :
    s.readEntry rx selector = s.answer rx 0x0D .accepted data := by
  simp only [State.readEntry, hid, Option.bind_some, hdata]

theorem readEntry_of_none {selector : Byte} {id : TableId} (hid : TableId.ofCode (selector.toNat / 64) = some id)
    (hdata : s.entryBytes id (selector.toNat % 16) = none) :
    s.readEntry rx selector = s.answer rx 0x0D .invalid [] := by
  simp only [State.readEntry, hid, Option.bind_some, hdata]

theorem entryBytes_roster (s : State) (i : Fin 8) : s.entryBytes .roster i.val = some
    ([byte s.sets[i].state.code, byte s.sets[i].cause.code, byte s.sets[i].attempts,
      byte (16 * s.sets[i].dirSeq.toNat + s.sets[i].directive.code)]
      ++ be16 (ageUnits s.clk (s.setSlots[i].map SetSlot.arrived))) := by
  rw [Nat.mul_comm]
  exact dif_pos i.isLt

theorem entryBytes_pv (s : State) (p : Fin 4) : s.entryBytes .pv p.val = some
    (be16 s.plants[p].sent ++ [byte s.plants[p].sentCause.code]
      ++ be16 (ageUnits s.clk (s.pvSlots[p].map PvSlot.arrived))) := dif_pos p.isLt

theorem entryBytes_feeder (s : State) (i : Fin 16) : s.entryBytes .feeder i.val = some
    [byte s.feeders[i].state.code, byte s.feeders[i].cause.code, byte (s.place i)] := dif_pos i.isLt

theorem entryBytes_stage (s : State) (k : Fin 8) : s.entryBytes .stage k.val = some [byte s.stages[k].state.code] :=
  dif_pos k.isLt

theorem entryBytes_none {id : TableId} {index : Nat} (h : id.lastIndex < index) : s.entryBytes id index = none := by
  cases id <;> exact dif_neg (Nat.not_lt.mpr h)

/-- Settles O54. -/
theorem readsAnswerAndChangeNothing : Obligations.ReadsAnswerAndChangeNothing := by
  intro s rx number selector hhears hm
  have hparam : exec (.readParameter rx number) s = .next ((s.elapse rx.dt).readParameter rx number) :=
    congrArg Host.Outcome.next (requestEvent_of_member hhears hm)
  have hentry : exec (.readEntry rx selector) s = .next ((s.elapse rx.dt).readEntry rx selector) :=
    congrArg Host.Outcome.next (requestEvent_of_member hhears hm)
  simp only [hparam, hentry, Host.Outcome.next.injEq]
  refine ⟨fun p hp hlive hpending => ?_, fun p hp => ?_, fun hnumber => ?_, fun hid i hi => ?_, fun hid p hp => ?_,
    fun hid i hi => ?_, fun hid k hk => ?_, fun hout => ?_⟩
  · have hdata : (s.elapse rx.dt).paramData p =
        (if paramRows[p].wide = true then be16 s.cfg.params[p] else [byte s.cfg.params[p]]) ++
          if paramRows[p].reflection = .nextInterval then
            (match s.paramPending[p] with
              | some v => 1 :: if paramRows[p].wide = true then be16 v else [byte v]
              | none => [0])
          else [] := by
      rw [State.paramData, paramBytes_of_fits (by exact hlive)]
      simp only [State.elapse_paramPending]
      cases hv : s.paramPending[p] with
      | none => rfl
      | some v =>
        dsimp only
        rw [paramBytes_of_fits (hpending v hv)]
        rfl
    rw [State.readParameter, paramOf_eq_some hp]
    dsimp only
    rw [spendParam_of_fits (by exact hlive), hdata]
    rfl
  · rw [State.readParameter, paramOf_eq_some hp]
    dsimp only
    unfold State.spendParam
    split
    · exact ⟨_, _, rfl⟩
    · exact ⟨_, s.freeCount, rfl⟩
  · rw [State.readParameter, paramOf_eq_none hnumber]
    rfl
  · rw [readEntry_of_some (id := .roster) (by rw [hid]; rfl) (by rw [← hi]; exact entryBytes_roster _ i)]
    rfl
  · rw [readEntry_of_some (id := .pv) (by rw [hid]; rfl) (by rw [← hp]; exact entryBytes_pv _ p)]
    rfl
  · rw [readEntry_of_some (id := .feeder) (by rw [hid]; rfl) (by rw [← hi]; exact entryBytes_feeder _ i)]
    rfl
  · rw [readEntry_of_some (id := .stage) (by rw [hid]; rfl) (by rw [← hk]; exact entryBytes_stage _ k)]
    rfl
  · obtain ⟨id, hid, hlast⟩ : ∃ id : TableId, TableId.ofCode (selector.toNat / 64) = some id
        ∧ id.lastIndex < selector.toNat % 16 := by
      obtain ⟨hid | hid, hge⟩ | ⟨hid, hge⟩ := hout
      · exact ⟨.roster, by rw [hid]; rfl, hge⟩
      · exact ⟨.stage, by rw [hid]; rfl, hge⟩
      · exact ⟨.pv, by rw [hid]; rfl, hge⟩
    rw [readEntry_of_none hid (entryBytes_none hlast)]
    rfl

/-! ## Windows (R170, R172) -/

theorem windowOpen_of_table {table first last : Byte} {id : TableId} (hid : TableId.code id = table.toNat)
    (hfirst : first.toNat ≤ last.toNat) (hlast : last.toNat ≤ id.lastIndex) : s.windowOpen rx table first last =
      State.answer { s with window := some (s.freshWindow rx.src.toNat id first.toNat last.toNat) } rx 0x0E .accepted
        [table, first, last] := by
  rw [State.windowOpen, ← hid, ofCode_code]
  exact if_pos ⟨hfirst, hlast⟩

theorem windowOpen_invalid {table first last : Byte} (h : 4 ≤ table.toNat ∨ last.toNat < first.toNat
      ∨ ∃ id : TableId, TableId.code id = table.toNat ∧ id.lastIndex < last.toNat) :
    s.windowOpen rx table first last = s.answer rx 0x0E .invalid [] := by
  unfold State.windowOpen
  by_cases htable : table.toNat < 4
  · obtain ⟨id, hid, hcode⟩ := ofCode_of_lt htable
    rw [hid]
    refine if_neg fun hc => ?_
    obtain h | h | ⟨id', hid', h⟩ := h
    · omega
    · omega
    · obtain rfl : id' = id := Option.some.inj (by rw [← ofCode_code id', hid', hid])
      omega
  · rw [ofCode_of_ge (Nat.not_lt.mp htable)]

section Close

variable {close : State → Window → State}

theorem windowClose_of_none (hw : s.window = none) : s.windowClose rx close = s.answer rx 0x0F .noWindow [] := by
  rw [State.windowClose, hw]

theorem windowClose_of_owner {w : Window} (hw : s.window = some w) (howner : rx.src.toNat = w.owner) :
    s.windowClose rx close = close s w := by
  rw [State.windowClose, hw]
  exact if_pos howner

theorem windowClose_of_other {w : Window} (hw : s.window = some w) (howner : rx.src.toNat ≠ w.owner) :
    s.windowClose rx close = s.answer rx 0x0F .busy [] := by
  rw [State.windowClose, hw]
  exact if_neg howner

end Close

theorem windowCloseCommit_exec (hhears : Hears s rx) (hs : FromSupervisor rx) (hmode : s.mode ≠ .blackstart) :
    exec (.windowCloseCommit rx) s = .next ((s.elapse rx.dt).windowClose rx fun s w => s.closeCommit rx w) :=
  congrArg Host.Outcome.next
    (requestEvent_of_supervisor hhears hs (refusal_none_of rfl (fun _ => hmode) nofun nofun nofun))

/-- Settles O57. -/
theorem windowsOpenAndDiscard : Obligations.WindowsOpenAndDiscard := by
  intro s rx table first last argument hhears hs
  have hdiscard (argument : Byte) : exec (.windowCloseDiscard rx argument) s = .next
      (if argument = 0 then (s.elapse rx.dt).windowClose rx fun s w => s.discardWindow rx w
        else (s.elapse rx.dt).answer rx 0x0F .invalid []) :=
    congrArg Host.Outcome.next (requestEvent_ungated hhears hs)
  simp only [hdiscard, if_true, Host.Outcome.next.injEq]
  refine ⟨fun hmode hlock hwindow hsave => ?_, fun w hw howner => ?_, fun w hw howner => ⟨?_, fun hmode => ?_⟩,
    fun hw => ⟨?_, fun hmode => ?_⟩, fun harg => ?_⟩
  · have hopen : exec (.windowOpen rx table first last) s = .next ((s.elapse rx.dt).windowOpen rx table first last) :=
      congrArg Host.Outcome.next (requestEvent_of_supervisor hhears hs
        (refusal_none_of rfl (fun _ => hmode) (fun _ => hlock) (fun _ => hsave) fun _ => hwindow))
    rw [hopen]
    simp only [Host.Outcome.next.injEq]
    refine ⟨fun id hid hfirst hlast => ?_, fun hbad => ?_⟩
    · rw [windowOpen_of_table hid hfirst hlast]
      cases id <;> rfl
    · rw [windowOpen_invalid hbad]
      rfl
  · rw [windowClose_of_owner (s := s.elapse rx.dt) hw howner]
    rfl
  · rw [windowClose_of_other (s := s.elapse rx.dt) hw howner]
    rfl
  · rw [windowCloseCommit_exec hhears hs hmode, windowClose_of_other (s := s.elapse rx.dt) hw howner]
    rfl
  · rw [windowClose_of_none (s := s.elapse rx.dt) hw]
    rfl
  · rw [windowCloseCommit_exec hhears hs hmode, windowClose_of_none (s := s.elapse rx.dt) hw]
    rfl
  · rw [if_neg (by rintro rfl; simp at harg)]
    rfl

/-! ## Save and lock (R177, R179, R180) -/

theorem setLock_eq (s : State) (rx : Rx) : s.setLock rx =
    State.answer { s with cfg := { s.cfg with lockFlag := true } } rx 0x11
      (if s.cfg.lockFlag = true then .acceptedNoEffect else .accepted)
      [1, if s.cfglockLevel = true then 1 else 0] := rfl

theorem clearLock_of_low (h : s.cfglockLevel = false) (rx : Rx) : s.clearLock rx =
    State.answer { s with cfg := { s.cfg with lockFlag := false } } rx 0x12
      (if s.cfg.lockFlag = true then .accepted else .acceptedNoEffect) [0, 0] := by
  rw [State.clearLock, if_neg (by simp [h])]
  simp only [State.lockBytes, h]
  rfl

theorem endWrite_of_some {w : Save} (h : s.save = some w) : s.endWrite =
    State.reply { s with store := .whole w.image, save := none } w.requester 0x10 .accepted (w.image.drop contentLength) := by
  rw [State.endWrite, h]

/-- While CFGLOCK is high Clear Lock is refused LOCKED, by the gate or by its own case (R177). -/
theorem clearLock_of_high (hs : FromSupervisor rx) (hsave : s.save = none) (hlevel : s.cfglockLevel = true) :
    s.request rx 0x12 { lock := true, busySave := true, lockData := true } (fun s => s.clearLock rx) =
      s.answer rx 0x12 .locked [if s.cfg.lockFlag = true then 1 else 0, 1] := by
  have hbytes : s.lockBytes = [if s.cfg.lockFlag = true then 1 else 0, 1] := by rw [lockBytes_eq, if_pos hlevel]
  by_cases hflag : s.cfg.lockFlag = true
  · rw [request_of_locked hs (refusal_locked (by simp) rfl ⟨hflag, hlevel⟩), if_pos rfl, hbytes]
  · rw [request_of_passed hs
      (refusal_none_of rfl (by nofun) (fun _ h => hflag h.1) (fun _ => hsave) (by nofun)), State.clearLock, if_pos hlevel,
      hbytes]

/-- Settles O60. -/
theorem saveAndLockRequestsAct : Obligations.SaveAndLockRequestsAct := by
  intro s rx dt
  refine ⟨⟨fun hhears hs hlock hwindow hsave => congrArg Host.Outcome.next ?_, fun hrun w hw => ?_, fun hrun hnone => ?_,
    ?_⟩, fun hhears hs hsave => ⟨congrArg Host.Outcome.next ?_, fun hlevel => congrArg Host.Outcome.next ?_,
      fun hlevel => congrArg Host.Outcome.next ?_⟩⟩
  · exact requestEvent_of_supervisor hhears hs
      (refusal_none_of rfl (by nofun) (fun _ => hlock) (fun _ => hsave) fun _ => hwindow)
  · refine congrArg Host.Outcome.next ?_
    rw [quiet_of_running hrun, endWrite_of_some (s := s.elapse dt) hw]
    rfl
  · refine congrArg Host.Outcome.next ?_
    rw [quiet_of_running hrun, State.endWrite, State.elapse_save, hnone]
  · rw [image_drop, image_take]
  · rw [requestEvent_of_supervisor hhears hs (refusal_none_of rfl (by nofun) (by nofun) (fun _ => hsave) (by nofun)), setLock_eq]
    rfl
  · rw [requestEvent_of_supervisor hhears hs
      (refusal_none_of rfl (by nofun) (fun _ h => Bool.noConfusion (hlevel.symm.trans h.2)) (fun _ => hsave) (by nofun)),
      clearLock_of_low (s := s.elapse rx.dt) hlevel]
    rfl
  · rw [State.requestEvent, frameEvent_of_heard hhears,
      clearLock_of_high (s := s.elapse rx.dt) hs hsave hlevel]
    rfl

/-! ## The transmit side (R182, R186, R187) -/

theorem takeHead_of_frame {f : Frame} {rest : List Frame} (hb : s.txBuffer = none) (hq : s.txQueue = f :: rest) :
    s.takeHead = { s with txBuffer := some (s.buffered f), txQueue := f.leaves ++ rest } := by
  rw [State.takeHead, hb, hq]

theorem takeHead_of_nothing (h : s.txBuffer ≠ none ∨ s.txQueue = []) : s.takeHead = s := by
  unfold State.takeHead
  split
  next hb hq => exact absurd hq (h.elim (absurd hb ·) fun h => by rw [h]; nofun)
  next => rfl

theorem frameSent_of_some (h : s.txBuffer ≠ none) :
    s.frameSent = State.boundary { s with txBuffer := none, txQueue := dropSentReport s.txQueue } := by
  obtain ⟨b, hb⟩ := Option.ne_none_iff_exists'.mp h
  rw [State.frameSent, hb]

/-- A frame that is no feeder report leaves the queue at the take and has one part (R187). -/
theorem leaves_of_single {f : Frame} (h : f.key ≠ .feederReport) : f.leaves = [] ∧ f.nextPart = 0 := by
  cases f <;> first | exact ⟨rfl, rfl⟩ | exact absurd rfl h

theorem pinChange_of_running {dt : Nat} {changes : Bool} {set : Pins → Pins} {act : State → State}
    (hrun : s.power = .running) (h : changes = true) :
    s.pinChange dt changes set act = act { s.elapse dt with pins := set s.pins } := by
  rw [State.pinChange, if_pos h]
  exact if_pos hrun

theorem pinChange_of_not_running {dt : Nat} {set : Pins → Pins} {act : State → State}
    (hrun : s.power ≠ .running) (h : changes = true) :
    s.pinChange dt changes set act = { s.elapse dt with pins := set s.pins } := by
  rw [State.pinChange, if_pos h]
  exact if_neg hrun

theorem pinChange_of_same {dt : Nat} {set : Pins → Pins} {act : State → State} (h : changes = false) :
    s.pinChange dt changes set act = s.elapse dt := by
  rw [State.pinChange, if_neg (by simp [h])]

/-- Outside running only the pin moves, whether the command changes its level or not. -/
theorem pinChange_idle {dt : Nat} {changes : Bool} {set : Pins → Pins} {act : State → State} (hrun : s.power ≠ .running)
    (h : changes = false → set s.pins = s.pins) :
    s.pinChange dt changes set act = { s.elapse dt with pins := set s.pins } := by
  cases hc : changes with
  | true => exact pinChange_of_not_running hrun rfl
  | false =>
    rw [pinChange_of_same rfl, h hc]
    rfl

/-- Settles O48. -/
theorem lanesAndBufferCarryTheFrames : Obligations.LanesAndBufferCarryTheFrames := by
  intro s dt level wire
  refine ⟨fun hrun => ?_, ?_⟩
  · have htake : exec (.take dt) s = .next (s.elapse dt).takeHead := congrArg Host.Outcome.next (quiet_of_running hrun ..)
    have hsent : exec (.frameSent dt) s = .next (s.elapse dt).frameSent :=
      congrArg Host.Outcome.next (quiet_of_running hrun ..)
    have hagain : exec (.offeredAgain dt) s = .next (s.elapse dt).boundary :=
      congrArg Host.Outcome.next (quiet_of_running hrun ..)
    simp only [htake, hsent, hagain, Host.Outcome.next.injEq]
    refine ⟨fun parts n rest hb hq => ?_, fun f rest hb hq hkey => ?_, fun h => takeHead_of_nothing (by exact h),
      fun hb => ?_, fun hb => ?_, fun hw => ?_, fun hw => ?_⟩
    · rw [takeHead_of_frame (s := s.elapse dt) hb hq]
      rfl
    · rw [takeHead_of_frame (s := s.elapse dt) hb hq, State.buffered, (leaves_of_single hkey).1,
        (leaves_of_single hkey).2]
      rfl
    · refine ⟨fun hw => ?_, fun hw => ?_⟩
      · rw [frameSent_of_some (s := s.elapse dt) hb, State.boundary, if_neg (by simp [hw])]
        rfl
      · rw [frameSent_of_some (s := s.elapse dt) hb, State.boundary, if_pos (by exact hw)]
        rfl
    · rw [State.frameSent, State.elapse_txBuffer, hb]
    · rw [State.boundary, if_neg (by simp [hw])]
    · rw [State.boundary, if_pos (by exact hw)]
      rfl
  · refine ⟨fun hrun hne hfree => congrArg Host.Outcome.next ?_, fun hrun hne hwire hb => congrArg Host.Outcome.next ?_,
      fun hrun => congrArg Host.Outcome.next ?_, fun hrun hne => congrArg Host.Outcome.next ?_,
      fun hrun => congrArg Host.Outcome.next ?_⟩
    · rw [pinChange_of_running hrun (bne_iff_ne.mpr hne), State.laneChange, if_neg]
      · rfl
      · rintro ⟨hwire, hb⟩
        exact hfree.elim (absurd hwire ·) fun hnone => Option.isSome_iff_ne_none.mp hb hnone
    · rw [pinChange_of_running hrun (bne_iff_ne.mpr hne), State.laneChange,
        if_pos ⟨hwire, Option.isSome_iff_ne_none.mpr hb⟩]
    · exact pinChange_idle hrun fun h => by rw [← bne_eq_false_iff_eq.mp h]
    · exact pinChange_of_running hrun (bne_iff_ne.mpr hne)
    · exact pinChange_idle hrun fun h => by rw [← bne_eq_false_iff_eq.mp h]

end Sys2Proof.Machine
end

section
/-! The validation of the four tables (R173, R174). -/

namespace Sys2Proof.Machine

variable {s : State}

theorem lowerAny_eq_true {n : Nat} (i : Fin n) (p : Fin n → Bool) :
    lowerAny i p = true ↔ ∃ j : Fin n, j < i ∧ p j = true := by
  simp only [lowerAny, List.any_eq_true, mem_indices, true_and, Bool.and_eq_true, decide_eq_true_eq]

/-- A table passes when no entry fails its check and none is in use (R173, R174). -/
theorem findSome_checks_eq_none {n : Nat} (check : Fin n → Option Reason) (use : Fin n → Bool) :
    ((indices n).findSome? fun i =>
      ((check i).or (if use i then some .inUse else none)).map fun r => (i.val, r)) = none
      ↔ ∀ i, check i = none ∧ use i = false := by
  simp only [List.findSome?_eq_none_iff, mem_indices, true_implies, Option.map_eq_none_iff, Option.or_eq_none_iff]
  refine forall_congr' fun i => and_congr_right fun _ => ?_
  cases use i <;> simp

theorem checkSetEntry_eq_none (t : Vector SetEntry 8) (i : Fin 8) : checkSetEntry t i = none ↔
    (0 < t[i].rating → t[i].inRange = true ∧ ∀ j : Fin 8, j < i → 0 < t[j].rating →
      t[j].priority ≠ t[i].priority ∧ t[j].address ≠ t[i].address) := by
  unfold checkSetEntry
  dsimp only
  split
  next hzero => exact iff_of_true rfl fun hpos => absurd hzero (Nat.ne_of_gt hpos)
  next hrating =>
    simp only [Nat.pos_of_ne_zero hrating, true_implies]
    cases t[i].inRange with
    | false => simp
    | true =>
      simp only [Bool.not_true, Bool.false_eq_true, if_false, true_and]
      split
      next h =>
        obtain ⟨j, hlt, hj⟩ := (lowerAny_eq_true _ _).mp h
        obtain ⟨hpos, hsame⟩ := of_decide_eq_true hj
        exact iff_of_false nofun fun hall => hsame.elim (hall j hlt hpos).1 (hall j hlt hpos).2
      next h =>
        refine iff_of_true rfl fun j hlt hpos => ⟨fun hsame => h ?_, fun hsame => h ?_⟩
        · exact (lowerAny_eq_true _ _).mpr ⟨j, hlt, decide_eq_true ⟨hpos, .inl hsame⟩⟩
        · exact (lowerAny_eq_true _ _).mpr ⟨j, hlt, decide_eq_true ⟨hpos, .inr hsame⟩⟩

theorem checkPvEntry_eq_none (t : Vector PvEntry 4) (p : Fin 4) : checkPvEntry t p = none ↔
    (0 < t[p].rating → t[p].inRange = true ∧ ∀ j : Fin 4, j < p → 0 < t[j].rating → t[j].address ≠ t[p].address) := by
  unfold checkPvEntry
  dsimp only
  split
  next hzero => exact iff_of_true rfl fun hpos => absurd hzero (Nat.ne_of_gt hpos)
  next hrating =>
    simp only [Nat.pos_of_ne_zero hrating, true_implies]
    cases t[p].inRange with
    | false => simp
    | true =>
      simp only [Bool.not_true, Bool.false_eq_true, if_false, true_and]
      split
      next h =>
        obtain ⟨j, hlt, hj⟩ := (lowerAny_eq_true _ _).mp h
        obtain ⟨hpos, hsame⟩ := of_decide_eq_true hj
        exact iff_of_false nofun fun hall => hall j hlt hpos hsame
      next h =>
        exact iff_of_true rfl fun j hlt hpos hsame =>
          h ((lowerAny_eq_true _ _).mpr ⟨j, hlt, decide_eq_true ⟨hpos, hsame⟩⟩)

theorem checkFeederEntry_eq_none (t : Vector FeederEntry 16) (i : Fin 16) : checkFeederEntry t i = none ↔
    t[i].inRange = true ∧ (t[i].enabled = true →
      ∀ j : Fin 16, j < i → t[j].enabled = true → t[j].position ≠ t[i].position) := by
  unfold checkFeederEntry
  dsimp only
  cases t[i].inRange with
  | false => simp
  | true =>
    simp only [Bool.not_true, Bool.false_eq_true, if_false, true_and]
    split
    next h =>
      obtain ⟨hen, hlower⟩ := Bool.and_eq_true_iff.mp h
      obtain ⟨j, hlt, hj⟩ := (lowerAny_eq_true _ _).mp hlower
      obtain ⟨hj, hsame⟩ := Bool.and_eq_true_iff.mp hj
      exact iff_of_false nofun fun hall => hall hen j hlt hj (of_decide_eq_true hsame)
    next h =>
      refine iff_of_true rfl fun hen j hlt hj hsame => h (Bool.and_eq_true_iff.mpr ⟨hen, ?_⟩)
      exact (lowerAny_eq_true _ _).mpr ⟨j, hlt, Bool.and_eq_true_iff.mpr ⟨hj, decide_eq_true hsame⟩⟩

/-! ## Rising offsets (R101) -/

theorem mem_le_getLast {n : Nat} {l : List (Fin n)} (h : l.Pairwise (· < ·)) {x y : Fin n} (hx : l.getLast? = some x)
    (hy : y ∈ l) : y ≤ x := by
  obtain ⟨l', rfl⟩ := List.getLast?_eq_some_iff.mp hx
  obtain hy | rfl := List.mem_append.mp hy |>.imp_right List.mem_singleton.mp
  · exact le_of_lt ((List.pairwise_append.mp h).2.2 y hy x (List.mem_singleton_self x))
  · exact le_refl _

/-- The nearest enabled stage below stage `i` stands above every other one below it. -/
theorem lowerStage_eq_some {t : Vector StageEntry 8} {i j : Fin 8} (h : lowerStage t i = some j) :
    j < i ∧ t[j].enabled = true ∧ ∀ k : Fin 8, k < i → t[k].enabled = true → k ≤ j := by
  have hmem := List.mem_filter.mp (List.mem_of_getLast? h)
  obtain ⟨hlt, hen⟩ := Bool.and_eq_true_iff.mp hmem.2
  refine ⟨of_decide_eq_true hlt, hen, fun k hk hkn => ?_⟩
  refine mem_le_getLast (pairwise_lt_filter_indices _) h (List.mem_filter.mpr ⟨mem_indices k, ?_⟩)
  exact Bool.and_eq_true_iff.mpr ⟨decide_eq_true hk, hkn⟩

theorem lowerStage_eq_none {t : Vector StageEntry 8} {i : Fin 8} (h : lowerStage t i = none) (k : Fin 8) (hk : k < i) :
    t[k].enabled ≠ true := fun hkn => by
  have hmem : k ∈ (indices 8).filter fun j => decide (j < i) && t[j].enabled :=
    List.mem_filter.mpr ⟨mem_indices k, Bool.and_eq_true_iff.mpr ⟨decide_eq_true hk, hkn⟩⟩
  rw [List.getLast?_eq_none_iff.mp h] at hmem
  cases hmem

/-- The offset of stage `i` stands above the nearest enabled one below it. -/
def RisesAt (t : Vector StageEntry 8) (i : Fin 8) : Prop := ∀ j, lowerStage t i = some j → t[j].offset < t[i].offset

theorem checkStageEntry_eq_none (t : Vector StageEntry 8) (i : Fin 8) : checkStageEntry t i = none ↔
    (t[i].enabled = true → t[i].inRange = true ∧ RisesAt t i) := by
  unfold checkStageEntry RisesAt
  dsimp only
  cases t[i].enabled with
  | false => simp
  | true =>
    cases t[i].inRange with
    | false => simp
    | true =>
      simp only [Bool.not_true, Bool.false_eq_true, if_false, true_and, true_implies]
      cases lowerStage t i with
      | none => simp
      | some j => simp

/-- Offsets that rise from each enabled stage to the next rise over all of them. -/
theorem rises_iff (t : Vector StageEntry 8) : (∀ i, t[i].enabled = true → RisesAt t i) ↔
    ∀ i : Fin 8, t[i].enabled = true → ∀ j : Fin 8, j < i → t[j].enabled = true → t[j].offset < t[i].offset := by
  refine ⟨fun h i => ?_, fun h i hi j hj => ?_⟩
  · induction i using WellFoundedLT.induction with
    | ind i ih =>
      intro hi j hlt hj
      cases hlower : lowerStage t i with
      | none => exact absurd hj (lowerStage_eq_none hlower j hlt)
      | some k =>
        obtain ⟨hki, hk, hnearest⟩ := lowerStage_eq_some hlower
        obtain hjk | rfl := lt_or_eq_of_le (hnearest j hlt hj)
        · exact (ih k hki hk j hjk hj).trans (h i hi k hlower)
        · exact h i hi j hlower
  · exact h i hi j (lowerStage_eq_some hj).1 (lowerStage_eq_some hj).2.1

/-! ## Validation -/

theorem validate_roster (s : State) (t : Vector SetEntry 8) : s.validate (.roster t) = none ↔
    ∀ i, checkSetEntry t i = none ∧ s.setInUse t i = false := findSome_checks_eq_none _ _

theorem validate_pv (s : State) (t : Vector PvEntry 4) : s.validate (.pv t) = none ↔ ∀ p, checkPvEntry t p = none := by
  simp only [State.validate, List.findSome?_eq_none_iff, mem_indices, true_implies, Option.map_eq_none_iff]

theorem validate_feeder (s : State) (t : Vector FeederEntry 16) : s.validate (.feeder t) = none ↔
    ∀ i, checkFeederEntry t i = none ∧ s.feederInUse t i = false := findSome_checks_eq_none _ _

theorem validate_stage (s : State) (t : Vector StageEntry 8) : s.validate (.stage t) = none ↔
    ∀ k, checkStageEntry t k = none ∧ s.stages[k].state = .idle := by
  simp only [State.validate, List.findSome?_eq_none_iff, mem_indices, true_implies, Option.map_eq_none_iff,
    Option.or_eq_none_iff]
  refine forall_congr' fun k => and_congr_right fun _ => ?_
  split <;> simp_all

theorem setInUse_eq_false (t : Vector SetEntry 8) (i : Fin 8) : s.setInUse t i = false ↔
    (s.sets[i].state = .starting ∨ s.sets[i].state = .online ∨ s.sets[i].state = .stopping →
      t[i].address = s.cfg.roster[i].address ∧ t[i].rating = s.cfg.roster[i].rating) := by
  simp only [State.setInUse, decide_eq_false_iff_not, List.mem_cons, List.not_mem_nil, or_false, not_and, not_or, not_not]

theorem feederInUse_eq_false (t : Vector FeederEntry 16) (i : Fin 16) : s.feederInUse t i = false ↔
    (s.feeders[i].state ≠ .disabled → s.feeders[i].state ≠ .closed → s.feeders[i].state ≠ .openExt →
      t[i].enabled = true ∧ t[i].position = s.cfg.feeders[i].position) := by
  simp only [State.feederInUse, decide_eq_false_iff_not, List.mem_cons, List.not_mem_nil, or_false, not_and, not_or,
    not_not, and_imp, Bool.not_eq_false, ne_eq]

theorem setEntry_inRange (e : SetEntry) : e.inRange = true ↔ 16 ≤ e.address ∧ e.address ≤ 31 ∧ e.rating ≤ 8000
    ∧ 1 ≤ e.priority ∧ e.priority ≤ 8 ∧ e.minRun ≤ 240 ∧ e.minDown ≤ 120 ∧ 2 ≤ e.startTimeout ∧ e.startTimeout ≤ 120 :=
  decide_eq_true_iff

theorem pvEntry_inRange (e : PvEntry) : e.inRange = true ↔ 32 ≤ e.address ∧ e.address ≤ 39 ∧ e.rating ≤ 8000 :=
  decide_eq_true_iff

theorem feederEntry_inRange (e : FeederEntry) : e.inRange = true ↔
    e.load ≤ 8000 ∧ (e.enabled = true → 1 ≤ e.position ∧ e.position ≤ 16) := by
  rw [FeederEntry.inRange, Bool.and_eq_true, decide_eq_true_eq]
  cases e.enabled <;> simp

theorem stageEntry_inRange (e : StageEntry) : e.inRange = true ↔ 1 ≤ e.width ∧ e.width ≤ 4 ∧ 100 ≤ e.offset
    ∧ e.offset ≤ 5000 ∧ e.delay ≤ 1000 ∧ e.rocofLimit ≤ 10000 := decide_eq_true_iff

/-- Settles O58. -/
theorem validationPassesExactlyGoodTables : Obligations.ValidationPassesExactlyGoodTables := by
  intro s roster pv feeders stages
  refine ⟨?_, ?_, ?_, ?_⟩
  · simp only [validate_roster, checkSetEntry_eq_none, setInUse_eq_false, setEntry_inRange, and_assoc]
  · simp only [validate_pv, checkPvEntry_eq_none, pvEntry_inRange, and_assoc]
  · simp only [validate_feeder, checkFeederEntry_eq_none, feederInUse_eq_false, feederEntry_inRange, imp_and, and_assoc]
  · have hchecks : (∀ k, checkStageEntry stages k = none) ↔
        (∀ k : Fin 8, stages[k].enabled = true → stages[k].inRange = true)
          ∧ ∀ k : Fin 8, stages[k].enabled = true → RisesAt stages k := by
      simp only [checkStageEntry_eq_none, imp_and, forall_and]
    rw [validate_stage, forall_and, hchecks, rises_iff, and_comm]
    simp only [stageEntry_inRange, ← forall_and, and_assoc]

end Sys2Proof.Machine
end

section
/-! Time, resets and the frequency value: the idle tick (log 3), the starting states (R181) and R11's quotient. -/

namespace Sys2Proof.Machine

variable {s : State}

/-! ## The frequency value (R11) -/

/-- Settles O17. -/
theorem frequencyValueIsNearestMillihertz : Obligations.FrequencyValueIsNearestMillihertz := by
  intro total hlow hhigh
  have hpos : 0 < total := by omega
  have hbelow : frequencyOf total * total ≤ 4 * 10 ^ 10 + total / 2 := Nat.div_mul_le_self _ _
  have habove : 4 * 10 ^ 10 + total / 2 < (frequencyOf total + 1) * total := by
    rw [← Nat.div_lt_iff_lt_mul hpos]
    exact Nat.lt_succ_self _
  have hcommon : 2 * total * frequencyOf total = 2 * (frequencyOf total * total) := by ring
  have hnext : 2 * total * (frequencyOf total + 1) = 2 * ((frequencyOf total + 1) * total) := by ring
  refine ⟨?_, ?_, by omega, by omega⟩
  · rw [frequencyOf, Nat.le_div_iff_mul_le hpos]
    omega
  · refine Nat.le_of_lt_succ ((Nat.div_lt_iff_lt_mul hpos).mpr ?_)
    omega

/-! ## The idle tick -/

/-- The commands of the expiries, due or not. -/
theorem expiries_nodup (s : State) : (s.expiries.map Prod.snd).Nodup := by
  have h : s.expiries.map Prod.snd = State.reset.expiries.map Prod.snd := by
    simp only [State.expiries, State.setExpiries, List.map_append, List.map_map, List.map_flatMap, Function.comp_def,
      List.map_cons, List.map_nil]
  rw [h]
  decide

/-- In the running device an idle tick raises exactly the expiries that are due, each once. -/
theorem dueExpiries_of_running (hrun : s.power = .running) :
    s.dueExpiries.Nodup ∧ ∀ c, c ∈ s.dueExpiries ↔ (true, c) ∈ s.expiries := by
  rw [State.dueExpiries, hrun]
  have hperm := (List.perm_insertionSort (fun a b => Config.tieRank s.clk a.2 ≤ Config.tieRank s.clk b.2)
    (s.expiries.zipIdx.filter fun x => x.1.1)).map fun x => x.1.2
  have hzip : (s.expiries.zipIdx.map fun x => x.1.2) = s.expiries.map Prod.snd :=
    List.map_map.symm.trans (congrArg (List.map Prod.snd) (List.zipIdx_map_fst 0 _))
  refine ⟨hperm.nodup_iff.mpr ?_, fun c => hperm.mem_iff.trans ?_⟩
  · have hsub := (List.filter_sublist (l := s.expiries.zipIdx) (p := fun x => x.1.1)).map fun x => x.1.2
    rw [hzip] at hsub
    exact hsub.nodup (expiries_nodup s)
  · simp only [List.mem_map, List.mem_filter]
    constructor
    · rintro ⟨⟨⟨due, c'⟩, n⟩, ⟨hmem, rfl⟩, rfl⟩
      exact List.fst_mem_of_mem_zipIdx hmem
    · intro h
      rw [← List.zipIdx_map_fst 0 s.expiries] at h
      obtain ⟨⟨⟨due, c'⟩, n⟩, hmem, heq⟩ := List.mem_map.mp h
      obtain ⟨rfl, rfl⟩ := Prod.mk.inj heq
      exact ⟨_, ⟨hmem, rfl⟩, rfl⟩

theorem elapsed_after_count {m : Meter} (h : m.state = .acquiring ∨ m.state = .valid ∨ m.state = .lost) {n : Nat}
    (hn : n ≤ tDEAD) : (∃ e, (m.elapse 1).elapsed = some e ∧ n < e) ↔ ∃ e, m.elapsed = some e ∧ n < e + 1 := by
  have helapsed : (m.elapse 1).elapsed = m.elapsed.map fun e => min (e + 1) (tDEAD + 1) := by
    obtain h | h | h := h <;> simp only [Meter.elapse, h]
  rw [helapsed]
  cases m.elapsed with
  | none => simp
  | some e => simp only [Option.map_some, Option.some.injEq, exists_eq_left']; omega

theorem elapse_lossDue (m : Meter) : (m.elapse 1).lossDue = true ↔
    (m.state = .acquiring ∨ m.state = .valid) ∧ ∃ e, m.elapsed = some e ∧ 250000 < e + 1 := by
  rw [Meter.lossDue_iff, Meter.elapse_state]
  refine and_congr_right fun h => elapsed_after_count (h.imp_right .inl) (by decide)

theorem elapse_deadDue (m : Meter) : (m.elapse 1).deadDue = true ↔
    m.state = .lost ∧ ∃ e, m.elapsed = some e ∧ 1000000 < e + 1 := by
  rw [Meter.deadDue_iff, Meter.elapse_state]
  refine and_congr_right fun h => elapsed_after_count (.inr (.inr h)) (by decide)

theorem minRunDue_iff (t : MinRun) (now : Count) : t.due now = true ↔ ∃ ends, t = .running ends ∧ ends ≤ now := by
  cases t <;> simp [MinRun.due]

theorem settleDue_iff (t : Settle) (now : Count) : t.due now = true ↔ ∃ ends, t = .running ends ∧ ends ≤ now := by
  cases t <;> simp [Settle.due]

theorem mem_setExpiries (s : State) (i : Fin 8) (c : Instr) : (true, c) ∈ s.setExpiries i ↔
    (c = .lostTimerExpiry i 0 ∧ s.due s.sets[i].lostTimer = true)
      ∨ (c = .startTimerExpiry i 0 ∧ s.sets[i].state = .starting ∧ s.due s.sets[i].startTimer = true)
      ∨ (c = .stopTimerExpiry i 0 ∧ s.sets[i].state = .stopping ∧ s.due s.sets[i].stopTimer = true)
      ∨ (c = .minimumRunExpiry i 0 ∧ s.sets[i].minRun.due s.clk = true)
      ∨ (c = .minimumDownExpiry i 0 ∧ s.sets[i].state = .resting ∧ s.due s.sets[i].minDown = true)
      ∨ (c = .deadBusStartTimerExpiry i 0 ∧ s.sets[i].mark = true ∧ s.due s.sets[i].deadBusTimer = true) := by
  simp only [State.setExpiries, List.mem_cons, List.not_mem_nil, or_false, Prod.mk.injEq, Bool.true_eq, Bool.and_eq_true,
    decide_eq_true_eq]
  simp only [and_comm]

theorem mem_expiries (s : State) (c : Instr) : (true, c) ∈ s.expiries ↔
    (c = .lossExpiry 0 ∧ s.meter.lossDue = true) ∨ (c = .deadExpiry 0 ∧ s.meter.deadDue = true)
      ∨ (c = .startUpWait 0 ∧ s.meter.waitDue s.clk = true) ∨ (c = .tbalExpiry 0 ∧ s.due s.tbalEnds = true)
      ∨ (∃ i : Fin 16, c = .breakerTimerExpiry i 0 ∧ s.due s.feeders[i].timer = true)
      ∨ (∃ i, (true, c) ∈ s.setExpiries i)
      ∨ (c = .settleExpiry 0 ∧ s.settle.due s.clk = true)
      ∨ (c = .tholdmaxExpiry 0 ∧ s.hold.state ≠ .none ∧ s.due s.hold.maxEnds = true)
      ∨ (c = .tholdgapEnd 0 ∧ s.due s.hold.gapEnds = true) ∨ (c = .triggerTimerExpiry 0 ∧ s.due s.seq.trigger = true)
      ∨ (c = .idleExpiry 0 ∧ s.due (s.window.map Window.idleEnds) = true)
      ∨ (c = .endOfTheWrite 0 ∧ s.due (s.save.map fun w => w.began + tSAVE) = true) := by
  simp only [State.expiries, List.mem_append, List.mem_cons, List.not_mem_nil, or_false, List.mem_map, List.mem_flatMap,
    mem_indices, true_and, Prod.mk.injEq, Bool.true_eq, Bool.and_eq_true, decide_eq_true_eq, or_assoc]
  simp only [and_comm, eq_comm]

theorem expiries_after_count (s : State) (c : Instr) : (true, c) ∈ (s.elapse 1).expiries ↔ ExpiryDueAfterTick s c := by
  simp only [mem_expiries, mem_setExpiries, due_iff, minRunDue_iff, settleDue_iff, State.elapse_meter, elapse_lossDue,
    elapse_deadDue, Meter.waitDue_iff, Meter.elapse_state, Meter.elapse_waitFrom, Option.map_eq_some_iff, tDEAD, tSAVE,
    exists_exists_and_eq_and]
  exact Iff.rfl

theorem dueExpiries_of_startUp (h : s.power = .startUp) (c : Instr) : s.dueExpiries.Nodup ∧
    (c ∈ s.dueExpiries ↔ c = .endOfStartUp 0 ∧ s.startBegan + tLOAD ≤ s.clk) := by
  rw [State.dueExpiries, h]
  dsimp only
  split <;> simp [*]

/-- Settles O2. -/
theorem idleStepRaisesDueExpiries : Obligations.IdleStepRaisesDueExpiries := by
  intro s hempty
  have hpending : s.tick.pending = (s.elapse 1).dueExpiries := by
    rw [State.tick, State.elapse_pending, hempty]
    rfl
  refine ⟨s.tick, by rw [step, hempty], rfl, ?_⟩
  rw [hpending]
  cases hp : s.power with
  | held =>
    have hnone : (s.elapse 1).dueExpiries = [] := by rw [State.dueExpiries, State.elapse_power, hp]
    simp [hnone]
  | startUp =>
    refine ⟨(dueExpiries_of_startUp (s := s.elapse 1) hp (.endOfStartUp 0)).1, fun c => ?_⟩
    rw [(dueExpiries_of_startUp (s := s.elapse 1) hp c).2]
    simp [tLOAD]
  | running =>
    obtain ⟨hnodup, hmem⟩ := dueExpiries_of_running (s := s.elapse 1) hp
    refine ⟨hnodup, fun c => ?_⟩
    rw [hmem, expiries_after_count]
    simp

end Sys2Proof.Machine
end

section
/-! The resets and the end of start-up (R181). -/

namespace Sys2Proof.Machine

variable {s : State}

theorem exec_powerOnReset (s : State) (fsel : Bool) (dt : Nat) : exec (.powerOnReset fsel dt) s =
    .next ((s.elapse dt).restart (if s.pins.resetn then .startUp else .held) (nominalOf fsel)) := rfl

theorem exec_resetnAssert (s : State) (dt : Nat) : exec (.resetnAssert dt) s = .next (if s.pins.resetn then
    State.restart { s.elapse dt with pins := { s.pins with resetn := false } } .held s.fn else s.elapse dt) := rfl

theorem exec_resetnRelease (s : State) (fsel : Bool) (dt : Nat) : exec (.resetnRelease fsel dt) s =
    .next (if s.pins.resetn then s.elapse dt else
      State.restart { s.elapse dt with pins := { s.pins with resetn := true } } .startUp (nominalOf fsel)) := rfl

theorem exec_endOfStartUp (h : s.power = .startUp) (dt : Nat) :
    exec (.endOfStartUp dt) s = .next (s.elapse dt).finishStartUp := congrArg Host.Outcome.next (if_pos h)

theorem finishStartUp_sets (s : State) (i : Fin 8) :
    s.finishStartUp.sets[i] = .started s.store.load.1.roster[i] s.store.load.1.startMode s.clk := getElem_tabulate ..

theorem finishStartUp_feeders (s : State) (i : Fin 16) :
    s.finishStartUp.feeders[i] = foundFeeder s.store.load.1.feeders[i].enabled s.pins.fstat[i] := getElem_tabulate ..

theorem finishStartUp_plants (s : State) (p : Fin 4) : s.finishStartUp.plants[p] = .default s.store.load.1.pv[p].rating :=
  getElem_tabulate ..

theorem started_state (e : SetEntry) (mode : Mode) (now : Count) : (SetRec.started e mode now).state = .unknown
    ∧ (SetRec.started e mode now).cause = .none ∧ (SetRec.started e mode now).attempts = 0
    ∧ (SetRec.started e mode now).dirSeq = 0 := by
  unfold SetRec.started
  split <;> exact ⟨rfl, rfl, rfl, rfl⟩

theorem started_of_configured {e : SetEntry} (h : 0 < e.rating) (mode : Mode) (now : Count) :
    (SetRec.started e mode now).lostTimer = some (now + tLOST)
      ∧ (SetRec.started e mode now).directive = directiveOf mode .reset := by
  rw [SetRec.started, if_pos h]
  exact ⟨rfl, rfl⟩

theorem directive_at_start (c : Settings) :
    directiveOf c.startMode .reset = if c.startMode = .observe then .hold else .stop := by
  have := startMode_ne c
  cases h : c.startMode <;> simp_all [directiveOf, SetRec.reset]

/-- At the end of start-up only a bad store is in the alert set (R168, R178). -/
theorem finishStartUp_alertPin (s : State) : s.finishStartUp.alertPin = s.store.load.2 := by
  have hpin : s.finishStartUp.alertPin = s.finishStartUp.alertSet.any := rfl
  rw [hpin, Bool.eq_iff_iff, alertSet_any_iff]
  have hsets (i : Fin 8) : s.finishStartUp.sets[i].state ≠ .failed := by
    rw [finishStartUp_sets, (started_state _ _ _).1]
    nofun
  have hfeeders (i : Fin 16) : ¬ (s.finishStartUp.feeders[i].state = .stuckClosed
      ∨ s.finishStartUp.feeders[i].state = .stuckOpen) := by
    rw [finishStartUp_feeders, foundFeeder]
    simp only
    split <;> try split
    all_goals simp
  have hstages (k : Fin 8) : s.finishStartUp.stages[k].state ≠ .fired := by
    have h : s.finishStartUp.stages[k] = StageRec.idle := Vector.getElem_replicate ..
    rw [h]
    nofun
  refine ⟨fun h => ?_, fun h => .inr (.inr (.inr (.inr (.inr h))))⟩
  obtain ⟨i, h⟩ | ⟨i, h⟩ | ⟨k, h⟩ | h | h | h := h
  · exact absurd h (hsets i)
  · exact absurd h (hfeeders i)
  · exact absurd h (hstages k)
  · cases h
  · cases h
  · exact h

/-- Settles O14. -/
theorem resetsAndStartUpGiveEveryBlockItsState : Obligations.ResetsAndStartUpGiveEveryBlockItsState := by
  intro s fsel dt
  refine ⟨⟨rfl, fun h => ?_, fun h => ?_, fun h => ?_, fun h => ?_⟩, fun h => ?_⟩
  · rw [exec_resetnAssert, if_pos h]
    rfl
  · rw [exec_resetnRelease, if_neg (by simp [h])]
    rfl
  · rw [exec_resetnAssert, if_neg (by simp [h])]
  · rw [exec_resetnRelease, if_pos h]
  · refine ⟨_, exec_endOfStartUp h dt, rfl, rfl, rfl, finishStartUp_alertPin _, rfl, rfl, rfl, rfl, rfl, rfl, rfl, rfl, rfl,
      rfl, rfl, fun i => ?_, fun p => ?_, ?_, rfl, rfl, fun i => ?_, fun k => ?_, rfl, rfl, rfl, rfl, rfl, rfl, rfl, rfl, rfl,
      rfl, rfl, rfl, rfl, rfl, rfl, rfl, rfl, rfl, rfl, rfl, rfl, rfl⟩
    · rw [finishStartUp_sets]
      obtain ⟨hstate, hcause, hattempts, hseq⟩ := started_state s.store.load.1.roster[i] s.store.load.1.startMode (s.clk + dt)
      refine ⟨hstate, hcause, hattempts, hseq, fun hconf => ?_⟩
      obtain ⟨hlost, hdir⟩ := started_of_configured (e := s.store.load.1.roster[i]) hconf s.store.load.1.startMode (s.clk + dt)
      exact ⟨hlost, hdir.trans (directive_at_start _)⟩
    · exact finishStartUp_plants _ p
    · have hsum : (s.elapse dt).finishStartUp.aggU = sumOver (fun (_ : Fin 4) => true) fun p => s.store.load.1.pv[p].rating :=
        rfl
      rw [hsum, sumOver_eq_sum, Fin.sum_univ_four]
      rfl
    · exact finishStartUp_feeders _ i
    · exact Vector.getElem_replicate ..

end Sys2Proof.Machine
end

section
/-! The ladder walk (R88, R95, R96) and the shed actions of width 1 (R98, R99, R108 to R110). -/

namespace Sys2Proof.Machine

variable {s : State} {reach : Reach}

/-! ## The feeders a walk chooses -/

theorem indices_nodup {n : Nat} : (indices n).Nodup := List.nodup_finRange n

theorem ladder_sorted (s : State) : s.ladder.Pairwise fun a b => s.position a ≤ s.position b :=
  haveI : Std.Total fun a b : Fin 16 => s.position a ≤ s.position b := ⟨fun _ _ => Nat.le_total _ _⟩
  haveI : IsTrans (Fin 16) fun a b => s.position a ≤ s.position b := ⟨fun _ _ _ => Nat.le_trans⟩
  List.pairwise_insertionSort _ _

/-- Every feeder a walk of this reach may choose, in ascending position. -/
def State.choices (s : State) (reach : Reach) : List (Fin 16) := s.ladder.filter (s.eligible reach)

theorem chosen_eq (s : State) (reach : Reach) (width : Nat) : s.chosen reach width = (s.choices reach).take width := rfl

theorem mem_choices {j : Fin 16} : j ∈ s.choices reach ↔ MayBeChosen s reach j :=
  List.mem_filter.trans (eligible_iff s reach j)

theorem choices_nodup (s : State) (reach : Reach) : (s.choices reach).Nodup := (ladder_nodup s).filter _

theorem choices_sorted (s : State) (reach : Reach) :
    (s.choices reach).Pairwise fun a b => s.position a ≤ s.position b := (ladder_sorted s).filter _

theorem choices_length (s : State) (reach : Reach) :
    (s.choices reach).length = (indices 16).countP fun i => decide (MayBeChosen s reach i) := by
  have hperm : (s.choices reach).Perm ((indices 16).filter fun i => decide (MayBeChosen s reach i)) := by
    rw [List.perm_ext_iff_of_nodup (choices_nodup s reach) (indices_nodup.filter _)]
    intro j
    rw [mem_choices, List.mem_filter, decide_eq_true_eq]
    exact ⟨fun h => ⟨mem_indices j, h⟩, fun h => h.2⟩
  rw [hperm.length_eq, List.countP_eq_length_filter]

/-- A feeder that was passed over stands no lower than the chosen ones. -/
theorem position_le_of_chosen {width : Nat} {j k : Fin 16} (hj : j ∈ s.chosen reach width) (hk : MayBeChosen s reach k)
    (hnot : k ∉ s.chosen reach width) : s.position j ≤ s.position k := by
  have hsorted := choices_sorted s reach
  rw [← List.take_append_drop width (s.choices reach)] at hsorted
  have hmem : k ∈ (s.choices reach).take width ++ (s.choices reach).drop width := by
    rw [List.take_append_drop]
    exact mem_choices.mpr hk
  exact (List.pairwise_append.mp hsorted).2.2 j hj k ((List.mem_append.mp hmem).resolve_left hnot)

/-! ## What a walk does -/

theorem tripFeeder_feeders (s : State) (i j : Fin 16) (cause : FeederCause) (reach : Reach) :
    (s.tripFeeder i cause (some reach)).feeders[j]
      = if i = j then trippedRecord cause reach s.clk else s.feeders[j] := feeders_set_get s i j _

/-- Trips of distinct feeders, in order. -/
theorem trips {l : List (Fin 16 × FeederCause)} (hl : (l.map Prod.fst).Nodup) (s : State) (reach : Reach) :
    (l.foldl (fun s x => s.tripFeeder x.1 x.2 (some reach)) s)
        = { s with feeders := (l.foldl (fun s x => s.tripFeeder x.1 x.2 (some reach)) s).feeders }
      ∧ (∀ x ∈ l, (l.foldl (fun s x => s.tripFeeder x.1 x.2 (some reach)) s).feeders[x.1]
          = trippedRecord x.2 reach s.clk)
      ∧ ∀ j ∉ l.map Prod.fst, (l.foldl (fun s x => s.tripFeeder x.1 x.2 (some reach)) s).feeders[j] = s.feeders[j] := by
  induction l generalizing s with
  | nil => exact ⟨rfl, nofun, fun _ _ => rfl⟩
  | cons x l ih =>
    rw [List.map_cons, List.nodup_cons] at hl
    obtain ⟨hframe, hin, hout⟩ := ih hl.2 (s.tripFeeder x.1 x.2 (some reach))
    rw [List.foldl_cons]
    refine ⟨hframe.trans rfl, fun y hy => ?_, fun j hj => ?_⟩
    · obtain rfl | hy := List.mem_cons.mp hy
      · rw [hout y.1 hl.1, tripFeeder_feeders, if_pos rfl]
      · exact hin y hy
    · rw [List.map_cons, List.mem_cons, not_or] at hj
      rw [hout j hj.2, tripFeeder_feeders, if_neg (Ne.symm hj.1)]

theorem walk_pairs (s : State) (reach : Reach) (causes : List FeederCause) :
    ((s.chosen reach causes.length).zip causes).map Prod.fst = s.chosen reach causes.length := by
  refine List.map_fst_zip ?_
  rw [chosen_eq, List.length_take]
  exact Nat.min_le_left _ _

theorem chosen_nodup (s : State) (reach : Reach) (width : Nat) : (s.chosen reach width).Nodup :=
  (choices_nodup s reach).sublist (List.take_sublist _ _)

theorem walk_trips (s : State) (reach : Reach) (causes : List FeederCause) :
    s.walk reach causes = { s with feeders := (s.walk reach causes).feeders }
      ∧ (∀ x ∈ (s.chosen reach causes.length).zip causes, (s.walk reach causes).feeders[x.1]
          = trippedRecord x.2 reach s.clk)
      ∧ ∀ j ∉ s.chosen reach causes.length, (s.walk reach causes).feeders[j] = s.feeders[j] := by
  have h := trips (l := (s.chosen reach causes.length).zip causes) (by rw [walk_pairs]; exact chosen_nodup ..) s reach
  rwa [walk_pairs] at h

theorem walk_frame (s : State) (reach : Reach) (causes : List FeederCause) :
    s.walk reach causes = { s with feeders := (s.walk reach causes).feeders } := (walk_trips s reach causes).1

theorem walk_feeders_of_not_chosen {causes : List FeederCause} {j : Fin 16} (h : j ∉ s.chosen reach causes.length) :
    (s.walk reach causes).feeders[j] = s.feeders[j] := (walk_trips s reach causes).2.2 j h

theorem walk_feeders_of_chosen {causes : List FeederCause} {n : Nat} {j : Fin 16}
    (h : (s.chosen reach causes.length)[n]? = some j) :
    (s.walk reach causes).feeders[j] = trippedRecord (causes.getD n .none) reach s.clk := by
  obtain ⟨hn, hj⟩ := List.getElem?_eq_some_iff.mp h
  have hcause : n < causes.length := by
    rw [chosen_eq, List.length_take] at hn
    omega
  have hmem : (j, causes.getD n .none) ∈ (s.chosen reach causes.length).zip causes := by
    refine List.mem_iff_getElem?.mpr ⟨n, ?_⟩
    rw [List.getElem?_zip_eq_some]
    exact ⟨h, by simp [hcause]⟩
  exact (walk_trips s reach causes).2.1 _ hmem

/-- Settles O26. -/
theorem walkTripsLowestFeeders : Obligations.WalkTripsLowestFeeders := by
  intro s reach causes
  refine ⟨s.chosen reach causes.length, chosen_nodup .., ?_, (choices_sorted s reach).sublist (List.take_sublist _ _),
    fun j => mem_chosen, fun j hj k => position_le_of_chosen hj, walk_frame s reach causes,
    fun n j hj => walk_feeders_of_chosen hj, fun j => walk_feeders_of_not_chosen, decide_eq_true_iff⟩
  rw [chosen_eq, List.length_take, choices_length]

/-! ## Actions of width 1 -/

/-- A walk of width 1 chooses the lowest feeder it may choose, or none. -/
theorem chosen_one (s : State) (reach : Reach) :
    (s.chosen reach 1 = [] ∧ ∀ j, ¬ MayBeChosen s reach j)
      ∨ ∃ j, s.chosen reach 1 = [j] ∧ MayBeChosen s reach j
        ∧ ∀ k, MayBeChosen s reach k → s.cfg.feeders[j].position ≤ s.cfg.feeders[k].position := by
  rw [chosen_eq]
  have hmem (k : Fin 16) : MayBeChosen s reach k ↔ k ∈ s.choices reach := mem_choices.symm
  have hsorted := choices_sorted s reach
  simp only [hmem]
  cases hl : s.choices reach with
  | nil => exact .inl ⟨rfl, by simp⟩
  | cons j l =>
    rw [hl] at hsorted
    refine .inr ⟨j, rfl, List.mem_cons_self, fun k hk => ?_⟩
    obtain rfl | hk := List.mem_cons.mp hk
    · exact Nat.le_refl _
    · exact (List.pairwise_cons.mp hsorted).1 k hk

theorem walk_of_none {cause : FeederCause} (h : s.chosen reach 1 = []) : s.walk reach [cause] = s := by
  simp only [State.walk, List.length_singleton, h]
  rfl

theorem walk_of_one {cause : FeederCause} {j : Fin 16} (h : s.chosen reach 1 = [j]) :
    s.walk reach [cause] = { s with feeders := s.feeders.set j (trippedRecord cause reach s.clk) } := by
  simp only [State.walk, List.length_singleton, h]
  rfl

theorem walkFull_one (s : State) (reach : Reach) : s.walkFull reach 1 = !(s.chosen reach 1).isEmpty := by
  obtain ⟨h, -⟩ | ⟨j, h, -⟩ := chosen_one s reach <;> simp [State.walkFull, h]

/-- A walk of width 1 trips the lowest feeder it may choose (R96). -/
theorem walkedOnce (s : State) (reach : Reach) (cause : FeederCause) :
    WalkedOnce s reach cause s.clk (s.walk reach [cause]).feeders (s.walkFull reach 1) := by
  rw [walkFull_one]
  obtain ⟨h, hnone⟩ | ⟨j, h, hj, hleast⟩ := chosen_one s reach
  · exact .inr ⟨by rw [h]; rfl, hnone, by rw [walk_of_none h]⟩
  · exact .inl ⟨by rw [h]; rfl, j, hj, hleast, by rw [walk_of_one h]⟩

theorem shedOne_eq (s : State) (cause : FeederCause) : s.shedOne cause =
    { s with feeders := (s.walk .shallow [cause]).feeders, exhausted := !s.walkFull .shallow 1 } := by
  rw [State.shedOne, walk_frame]

theorem substitute_eq (s : State) (reach : Reach) (cause : FeederCause) : s.substitute reach cause =
    { s with feeders := (s.walk reach [cause]).feeders, exhausted := s.exhausted || !s.walkFull reach 1 } := by
  rw [State.substitute, walk_frame]

end Sys2Proof.Machine
end

section
/-! The Ladder and the Restoration Unit at a publication (R108, R114, R123 to R125). -/

namespace Sys2Proof.Machine

variable {s : State} {rec : BalanceRecord}

/-! ## The reserve shed (R108) -/

theorem setsIn_isEmpty (s : State) (state : SetState) : (s.setsIn [state]).isEmpty = true ↔ ∀ i, ¬ SetIs s state i := by
  simp only [List.isEmpty_iff, List.eq_nil_iff_forall_not_mem, mem_setsIn, List.mem_singleton]

theorem reserveShort_iff (s : State) (rec : BalanceRecord) :
    (s.mode = .dispatch ∧ s.reserveShort rec = true) ↔ ReserveShort s rec := by
  have honline : (s.setsIn [.online]).isEmpty = false ↔ ∃ i, SetIs s .online i := by
    rw [← Bool.not_eq_true, setsIn_isEmpty]
    exact not_forall_not
  simp only [State.reserveShort, Bool.and_eq_true, decide_eq_true_eq, Bool.not_eq_true', honline, setsIn_isEmpty, and_assoc]
  rfl

/-- The reserve-shed timer as it starts now (R108). -/
def State.freshReserveTimer (s : State) : SpanTimer := ⟨s.clk, 10000000 * s.cfg.params[RES_SHED_DELAY]⟩

theorem sec_eq (n : Nat) : sec n = 10000000 * n := Nat.mul_comm ..

theorem reserveShedStep_of_not (h : ¬ ReserveShort s rec) : s.reserveShedStep rec = { s with reserveShed := none } :=
  if_neg fun hc => h ((reserveShort_iff s rec).mp hc)

theorem reserveShedStep_of_start (h : ReserveShort s rec) (ht : s.reserveShed = none) :
    s.reserveShedStep rec = { s with reserveShed := some s.freshReserveTimer } := by
  rw [State.reserveShedStep, if_pos ((reserveShort_iff s rec).mpr h), ht]
  simp only [sec_eq]
  rfl

theorem reserveShedStep_of_waiting (h : ReserveShort s rec) {timer : SpanTimer} (ht : s.reserveShed = some timer)
    (hlt : s.clk - timer.start < timer.length) : s.reserveShedStep rec = s := by
  rw [State.reserveShedStep, if_pos ((reserveShort_iff s rec).mpr h), ht]
  exact if_neg (Nat.not_le.mpr hlt)

theorem reserveShedStep_of_due (h : ReserveShort s rec) {timer : SpanTimer} (ht : s.reserveShed = some timer)
    (hle : timer.length ≤ s.clk - timer.start) : s.reserveShedStep rec = { s with
      feeders := (s.walk .shallow [.reserve]).feeders, exhausted := !s.walkFull .shallow 1
      reserveShed := some s.freshReserveTimer } := by
  rw [State.reserveShedStep, if_pos ((reserveShort_iff s rec).mpr h), ht]
  refine (if_pos hle).trans ?_
  rw [shedOne_eq, sec_eq]
  rfl

theorem reserveShedStep_frame (s : State) (rec : BalanceRecord) : s.reserveShedStep rec = { s with
    feeders := (s.reserveShedStep rec).feeders, exhausted := (s.reserveShedStep rec).exhausted
    reserveShed := (s.reserveShedStep rec).reserveShed } := by
  by_cases h : ReserveShort s rec
  · cases ht : s.reserveShed with
    | none => rw [reserveShedStep_of_start h ht]
    | some timer =>
      by_cases hle : timer.length ≤ s.clk - timer.start
      · rw [reserveShedStep_of_due h ht hle]
      · rw [reserveShedStep_of_waiting h ht (Nat.not_le.mp hle)]
  · rw [reserveShedStep_of_not h]

/-! ## The periodic report (R114) -/

theorem countReport_of_due (h : s.firstReport = true ∨ 25 ≤ s.reportCount + 1) : s.countReport = { s with
    firstReport := false, reportCount := 0, txQueue := enqueue s.txQueue (.feederReport (partsOf s.runs) 0) } := by
  rw [State.countReport, if_pos (by exact h)]
  rfl

theorem countReport_of_not_due (h : ¬ (s.firstReport = true ∨ 25 ≤ s.reportCount + 1)) :
    s.countReport = { s with firstReport := false, reportCount := s.reportCount + 1 } := by
  rw [State.countReport, if_neg (by exact h)]

/-- Settles O31. -/
theorem ladderShedsOnReserveAndReports : Obligations.LadderShedsOnReserveAndReports := by
  intro s r
  have hframe : s.ladderTask r = { s.reserveShedStep r with
      firstReport := false, reportCount := (s.ladderTask r).reportCount, txQueue := (s.ladderTask r).txQueue } := by
    rw [State.ladderTask]
    by_cases h : (s.reserveShedStep r).firstReport = true ∨ 25 ≤ (s.reserveShedStep r).reportCount + 1
    · rw [countReport_of_due h]
    · rw [countReport_of_not_due h]
  have hstep := reserveShedStep_frame s r
  have hfeeders : (s.ladderTask r).feeders = (s.reserveShedStep r).feeders := by rw [hframe]
  have hexhausted : (s.ladderTask r).exhausted = (s.reserveShedStep r).exhausted := by rw [hframe]
  have htimer : (s.ladderTask r).reserveShed = (s.reserveShedStep r).reserveShed := by rw [hframe]
  refine ⟨?_, ?_⟩
  · rw [hfeeders, hexhausted, htimer]
    conv_lhs => rw [hframe, hstep]
  simp only [hfeeders, hexhausted, htimer]
  refine ⟨fun h => ?_, fun h ht => ?_, fun timer h ht hlt => ?_, fun timer h ht hle => ?_, fun h => ?_, fun h => ?_,
    fun hfirst hcount => ?_⟩
  · rw [reserveShedStep_of_not h]
  · rw [reserveShedStep_of_start h ht]
    rfl
  · rw [reserveShedStep_of_waiting h ht hlt, ht]
  · rw [reserveShedStep_of_due h ht hle]
    exact ⟨rfl, _, walkedOnce s .shallow .reserve, rfl⟩
  · by_cases hshort : ReserveShort s r
    · obtain h | h | ⟨timer, ht, hlt⟩ := h
      · exact absurd hshort h
      · rw [reserveShedStep_of_start hshort h]
        exact ⟨rfl, rfl⟩
      · rw [reserveShedStep_of_waiting hshort ht hlt]
        exact ⟨rfl, rfl⟩
    · rw [reserveShedStep_of_not hshort]
      exact ⟨rfl, rfl⟩
  · have hdue : (s.reserveShedStep r).firstReport = true ∨ 25 ≤ (s.reserveShedStep r).reportCount + 1 := by
      rw [hstep]
      exact h
    have hq : (s.reserveShedStep r).txQueue = s.txQueue := by rw [hstep]
    have hruns : (s.ladderTask r).runs = (s.reserveShedStep r).runs := by
      rw [State.runs, hfeeders]
      rfl
    rw [hruns, State.ladderTask, countReport_of_due hdue, hq]
    exact ⟨rfl, rfl⟩
  · have hnot : ¬ ((s.reserveShedStep r).firstReport = true ∨ 25 ≤ (s.reserveShedStep r).reportCount + 1) := by
      rw [hstep, show s.firstReport = false from hfirst]
      exact not_or.mpr ⟨nofun, Nat.not_le.mpr hcount⟩
    rw [State.ladderTask, countReport_of_not_due hnot, hstep]
    exact ⟨rfl, rfl⟩

/-! ## The examination (R123 to R125) -/

theorem lapseRestoreDelay_eq (s : State) : s.lapseRestoreDelay = { s with restoreDelay := match s.restoreDelay with
    | some ends => if ends ≤ s.clk then none else some ends
    | none => none } := by
  unfold State.lapseRestoreDelay
  cases h : s.restoreDelay with
  | none =>
    simp only [State.due, Bool.false_eq_true, if_false]
    rw [← h]
  | some ends =>
    by_cases hle : ends ≤ s.clk
    · simp only [State.due, decide_eq_true_eq, if_pos hle]
    · simp only [State.due, decide_eq_true_eq, if_neg hle]
      rw [← h]

/-- The restore delay is lapsed and the queue head may be closed, but for the reserve (R123, conditions 1 to 7). -/
abbrev ExaminationReady (s : State) : Prop :=
  (s.mode = .dispatch ∨ (s.mode = .blackstart ∧ s.seq.phase = .restore))
    ∧ s.hold.state = .none ∧ s.settle = .stopped ∧ (∀ i : Fin 16, s.feeders[i].state ≠ .closing)
    ∧ (∀ k : Fin 8, s.stages[k].state = .idle)
    ∧ (∀ ends, s.restoreDelay = some ends → ends ≤ s.clk)
    ∧ s.meter.state = .valid ∧ ∃ f, s.meter.freq = some f ∧ s.fn ≤ f + s.cfg.params[RESTORE_FREQ]

theorem stagesIdle_iff (s : State) : s.stagesIdle = true ↔ ∀ k : Fin 8, s.stages[k].state = .idle := by
  simp only [State.stagesIdle, List.all_eq_true, mem_indices, true_implies, decide_eq_true_eq]

theorem frequencyAllows_iff (s : State) : s.frequencyAllows = true ↔
    s.meter.state = .valid ∧ ∃ f, s.meter.freq = some f ∧ s.fn ≤ f + s.cfg.params[RESTORE_FREQ] := by
  unfold State.frequencyAllows
  rw [Bool.and_eq_true, decide_eq_true_eq]
  cases h : s.meter.freq with
  | none => simp
  | some f =>
    simp only [decide_eq_true_eq, Option.some.injEq, exists_eq_left']
    rfl

theorem lapsed_isNone_iff (s : State) : s.lapseRestoreDelay.restoreDelay.isNone = true ↔
    ∀ ends, s.restoreDelay = some ends → ends ≤ s.clk := by
  rw [lapseRestoreDelay_eq]
  cases h : s.restoreDelay with
  | none => simp
  | some ends => by_cases hle : ends ≤ s.clk <;> simp [hle]

theorem examinationAllows_iff (s : State) : s.lapseRestoreDelay.examinationAllows = true ↔ ExaminationReady s := by
  have hclosing : s.lapseRestoreDelay.anyFeeder .closing = false ↔ ∀ i : Fin 16, s.feeders[i].state ≠ .closing := by
    rw [anyFeeder_eq_false, not_exists, lapseRestoreDelay_eq]
  have hidle := stagesIdle_iff s.lapseRestoreDelay
  have hfreq := frequencyAllows_iff s.lapseRestoreDelay
  have hdelay := lapsed_isNone_iff s
  simp only [State.examinationAllows, Bool.and_eq_true, Bool.not_eq_true', decide_eq_true_eq, hclosing, hidle, hfreq, hdelay,
    and_assoc]
  rw [lapseRestoreDelay_eq]

theorem examine_of_empty (h : s.queue = []) : s.examine rec = { s.lapseRestoreDelay with blocked := none } := by
  have hq : s.lapseRestoreDelay.queue = [] := by rw [lapseRestoreDelay_eq, h]
  simp only [State.examine, hq]

section Head

variable {head : Fin 16} (hhead : s.queue.head? = some head)

include hhead

theorem lapsed_queue : ∃ tail, s.lapseRestoreDelay.queue = head :: tail := by
  rw [lapseRestoreDelay_eq]
  exact ⟨_, List.eq_cons_of_mem_head? hhead⟩

theorem examine_of_not_ready (h : ¬ ExaminationReady s) : s.examine rec = { s.lapseRestoreDelay with blocked := none } := by
  obtain ⟨tail, hq⟩ := lapsed_queue hhead
  simp only [State.examine, hq]
  exact if_neg fun hc => h ((examinationAllows_iff s).mp hc)

theorem examine_of_fits (h : ExaminationReady s) (hfits : s.stepLoad head + rec.rr ≤ rec.sr) :
    s.examine rec = State.restorationClose { s.lapseRestoreDelay with blocked := none } head := by
  obtain ⟨tail, hq⟩ := lapsed_queue hhead
  simp only [State.examine, hq]
  refine (if_pos ((examinationAllows_iff s).mpr h)).trans (if_pos ?_)
  rwa [lapseRestoreDelay_eq]

theorem examine_of_short (h : ExaminationReady s) (hshort : rec.sr < s.stepLoad head + rec.rr) : s.examine rec =
    { s.lapseRestoreDelay with blocked := some ⟨s.stepLoad head, (s.blocked.map Blocked.since).getD s.clk⟩ } := by
  obtain ⟨tail, hq⟩ := lapsed_queue hhead
  simp only [State.examine, hq]
  refine (if_pos ((examinationAllows_iff s).mpr h)).trans ((if_neg ?_).trans ?_)
  · rw [lapseRestoreDelay_eq]
    exact Nat.not_le.mpr hshort
  · rw [lapseRestoreDelay_eq]
    rfl

end Head

theorem restorationClose_of_shed {i : Fin 16} (h : s.feeders[i].state = .openShed) (hidle : s.stagesIdle = true)
    (hnoted : s.notedMeter = .valid) : s.restorationClose i = { s with
      feeders := s.feeders.set i (s.feeders[i].enter .closing s.clk), queue := s.queue.erase i } := by
  rw [State.restorationClose, if_pos ⟨h, hidle, hnoted⟩, State.closeFeeder, if_pos h]
  rfl

/-- The Restoration Unit's close order closes the feeder or changes nothing (R94). -/
theorem restorationClose_cases (s : State) (i : Fin 16) : s.restorationClose i = s ∨ s.restorationClose i = { s with
    feeders := s.feeders.set i (s.feeders[i].enter .closing s.clk), queue := s.queue.erase i } := by
  by_cases h : s.feeders[i].state = .openShed ∧ s.stagesIdle = true ∧ s.notedMeter = .valid
  · exact .inr (restorationClose_of_shed h.1 h.2.1 h.2.2)
  · exact .inl (if_neg h)

/-- Settles O34. -/
theorem examinationClosesOnlyAReadyHead : Obligations.ExaminationClosesOnlyAReadyHead := by
  intro s r
  have hlapse := lapseRestoreDelay_eq s
  have hlapseFeeders : s.lapseRestoreDelay.feeders = s.feeders := by rw [hlapse]
  have hlapseQueue : s.lapseRestoreDelay.queue = s.queue := by rw [hlapse]
  have hlapseClk : s.lapseRestoreDelay.clk = s.clk := by rw [hlapse]
  have hcases : (s.examine r = { s.lapseRestoreDelay with blocked := (s.examine r).blocked })
      ∨ ∃ head, s.queue.head? = some head ∧ ExaminationReady s ∧ s.stepLoad head + r.rr ≤ r.sr ∧
        s.examine r = { s.lapseRestoreDelay with
          blocked := (s.examine r).blocked, feeders := s.feeders.set head (s.feeders[head].enter .closing s.clk)
          queue := s.queue.erase head } := by
    cases hhead : s.queue.head? with
    | none =>
      rw [examine_of_empty (List.head?_eq_none_iff.mp hhead)]
      exact .inl rfl
    | some head =>
      by_cases hready : ExaminationReady s
      · by_cases hfits : s.stepLoad head + r.rr ≤ r.sr
        · rw [examine_of_fits hhead hready hfits]
          obtain h | h := restorationClose_cases { s.lapseRestoreDelay with blocked := none } head
          · rw [h]
            exact .inl rfl
          · rw [h]
            refine .inr ⟨head, rfl, hready, hfits, ?_⟩
            simp only [hlapseFeeders, hlapseQueue, hlapseClk]
        · rw [examine_of_short hhead hready (Nat.not_le.mp hfits)]
          exact .inl rfl
      · rw [examine_of_not_ready hhead hready]
        exact .inl rfl
  refine ⟨?_, ?_, fun i hne => ?_, fun i hhead hready hfits hshed hnoted => ?_, fun i hhead hready hshort => ?_, fun h => ?_⟩
  · obtain h | ⟨head, -, -, -, h⟩ := hcases <;> rw [h, hlapse]
  · obtain h | ⟨head, -, -, -, h⟩ := hcases <;> rw [h] <;> exact congrArg State.restoreDelay hlapse
  · obtain h | ⟨head, hhead, hready, hfits, h⟩ := hcases
    · rw [h] at hne
      exact absurd (congrArg (fun v => v[i]) hlapseFeeders) hne
    · have hget := feeders_set_get s head i (s.feeders[head].enter .closing s.clk)
      by_cases hi : head = i
      · subst hi
        refine ⟨hhead, hready, hfits, ?_⟩
        rw [h]
        exact congrArg FeederRec.state (hget.trans (if_pos rfl))
      · rw [h] at hne
        exact absurd (hget.trans (if_neg hi)) hne
  · have hidle : State.stagesIdle { s.lapseRestoreDelay with blocked := none } = true := by
      rw [stagesIdle_iff, hlapse]
      exact hready.2.2.2.2.1
    rw [examine_of_fits hhead hready hfits, restorationClose_of_shed (by simpa only [hlapseFeeders] using hshed) hidle
      (by rw [hlapse]; exact hnoted)]
    simp only [hlapseFeeders, hlapseQueue, hlapseClk]
    obtain ⟨tail, hq⟩ : ∃ tail, s.queue = i :: tail := ⟨_, List.eq_cons_of_mem_head? hhead⟩
    refine ⟨trivial, ?_, rfl⟩
    rw [hq, List.erase_cons_head]
    rfl
  · rw [examine_of_short hhead hready hshort]
    exact ⟨rfl, hlapseFeeders, hlapseQueue⟩
  · have hclear : s.examine r = { s.lapseRestoreDelay with blocked := none } := by
      cases hhead : s.queue.head? with
      | none => exact examine_of_empty (List.head?_eq_none_iff.mp hhead)
      | some head => exact examine_of_not_ready hhead (h.resolve_left fun hnil => by rw [hnil] at hhead; cases hhead)
    rw [hclear]
    exact ⟨rfl, hlapseFeeders, hlapseQueue⟩

end Sys2Proof.Machine
end

section
/-! The Balance Record's sums and terms (R20 to R27), and the ceilings of a publication (R71 to R73, R77, R82). -/

namespace Sys2Proof.Machine

variable {s : State}

/-! ## Sums over the entries -/

theorem freshReport_iff (now arrived : Count) : freshReport now arrived = true ↔ now - arrived ≤ 10000000 :=
  decide_eq_true_iff

theorem map_sum_eq {α β : Type} (l : List α) (f : α → β) (g : β → Nat) :
    ((l.map f).map g).sum = (l.map fun x => g (f x)).sum := by
  rw [List.map_map]
  rfl

theorem setsIn_sum (s : State) (state : SetState) (f : Fin 8 → Nat) : ((s.setsIn [state]).map f).sum =
    ∑ i, if 0 < s.cfg.roster[i].rating ∧ s.sets[i].state = state then f i else 0 := by
  refine (sumOver_eq_sum _ f).trans (Finset.sum_congr rfl fun i _ => ?_)
  simp only [Bool.and_eq_true, setConfigured_iff, decide_eq_true_eq, List.mem_singleton]

theorem plants_sum (s : State) (f : Fin 4 → Nat) (hzero : ∀ p : Fin 4, s.cfg.pv[p].rating = 0 → f p = 0) :
    (s.configuredPlants.map f).sum = ∑ p, f p := by
  refine (sumOver_eq_sum s.plantConfigured f).trans (Finset.sum_congr rfl fun p _ => ?_)
  split
  · rfl
  next h => exact (hzero p (Nat.eq_zero_of_not_pos fun hpos => h ((s.plantConfigured_iff p).mpr hpos))).symm

theorem setInput_output (s : State) (i : Fin 8) : (s.setInput i).output = match s.setSlots[i] with
    | some slot => if s.clk - slot.arrived ≤ 10000000 then min slot.output s.cfg.roster[i].rating
        else s.cfg.roster[i].rating
    | none => s.cfg.roster[i].rating := by
  unfold State.setInput
  cases s.setSlots[i] with
  | none => rfl
  | some slot =>
    simp only [← freshReport_iff]
    split <;> rfl

theorem plantInput_output (s : State) (p : Fin 4) : (s.plantInput p).output = match s.pvSlots[p] with
    | some slot => if s.clk - slot.arrived ≤ 10000000 then min slot.output s.cfg.pv[p].rating
        else min s.held[p] s.cfg.pv[p].rating
    | none => min s.held[p] s.cfg.pv[p].rating := by
  unfold State.plantInput
  cases s.pvSlots[p] with
  | none => rfl
  | some slot =>
    simp only [← freshReport_iff]
    split <;> rfl

theorem plantInput_available (s : State) (p : Fin 4) : (s.plantInput p).available = match s.pvSlots[p] with
    | some slot => if s.clk - slot.arrived ≤ 10000000 then
        max (min slot.output s.cfg.pv[p].rating) (min slot.available s.cfg.pv[p].rating)
        else min s.held[p] s.cfg.pv[p].rating
    | none => min s.held[p] s.cfg.pv[p].rating := by
  unfold State.plantInput
  cases s.pvSlots[p] with
  | none => rfl
  | some slot =>
    simp only [← freshReport_iff]
    split <;> rfl

/-- A plant without a rating gives nothing. -/
theorem plantInput_of_empty {p : Fin 4} (h : s.cfg.pv[p].rating = 0) :
    (s.plantInput p).output = 0 ∧ (s.plantInput p).available = 0 := by
  rw [plantInput_output, plantInput_available, h]
  cases s.pvSlots[p] <;> simp

/-- A report is stale exactly when it does not stand or is not fresh. -/
theorem setInput_stale (s : State) (i : Fin 8) : (s.setInput i).stale = false ↔
    ∃ slot, s.setSlots[i] = some slot ∧ s.clk - slot.arrived ≤ 10000000 := by
  unfold State.setInput
  cases s.setSlots[i] with
  | none => simp
  | some slot =>
    simp only [← freshReport_iff, Option.some.injEq, exists_eq_left']
    split <;> simp [*]

/-! ## Terms -/

theorem le_ceilDiv (a : Nat) : a ≤ 100 * ceilDiv a 100 ∧ 100 * ceilDiv a 100 < a + 100 := by
  unfold ceilDiv
  omega

theorem foldl_max_spec {l : List Nat} : ∀ a, a ≤ l.foldl max a ∧ (∀ x ∈ l, x ≤ l.foldl max a) ∧ l.foldl max a ∈ a :: l := by
  induction l with
  | nil => exact fun a => ⟨Nat.le_refl a, nofun, List.mem_singleton_self a⟩
  | cons x l ih =>
    intro a
    obtain ⟨hstart, hall, hmem⟩ := ih (max a x)
    refine ⟨(Nat.le_max_left a x).trans hstart, fun y hy => ?_, ?_⟩
    · obtain rfl | hy := List.mem_cons.mp hy
      · exact (Nat.le_max_right a y).trans hstart
      · exact hall y hy
    · rw [List.foldl_cons]
      obtain h | h := List.mem_cons.mp hmem
      · obtain hmax | hmax := Nat.le_total a x |>.imp max_eq_right max_eq_left <;> rw [h, hmax] <;> simp
      · simp [h]

/-- The greatest of some figures is one of them. -/
theorem foldl_max_zero_mem {l : List Nat} (h : l ≠ []) : l.foldl max 0 ∈ l := by
  obtain ⟨-, hall, hmem⟩ := foldl_max_spec (l := l) 0
  obtain hzero | hmem := List.mem_cons.mp hmem
  · obtain ⟨x, hx⟩ := List.exists_mem_of_ne_nil l h
    have : x = l.foldl max 0 := by
      have := hall x hx
      omega
    exact this ▸ hx
  · exact hmem

/-- Settles O23. -/
theorem recordSumsReportsAndFormsTerms : Obligations.RecordSumsReportsAndFormsTerms := by
  intro s
  refine ⟨⟨?_, ?_, ?_, ?_, ?_, ?_, rfl, ?_⟩, ?_⟩
  · rw [← setsIn_sum s .online fun _ => 1]
    simp [State.onlineSets]
  · rw [← setsIn_sum s .online fun i => s.cfg.roster[i].rating, s.computeRecord_cOn, s.computeRecord_sets, map_sum_eq]
    refine congrArg List.sum (List.map_congr_left fun i _ => ?_)
    obtain h | ⟨slot, -, -, h⟩ := s.setInput_cases i <;> rw [h]
  · refine (setsIn_sum s .starting fun i => s.cfg.roster[i].rating).trans (Finset.sum_congr rfl fun i _ => ?_)
    by_cases hpos : 0 < s.cfg.roster[i].rating
    · simp only [hpos, true_and]
    · rw [if_neg fun h => hpos h.1, Nat.eq_zero_of_not_pos hpos, ite_self]
  · refine Eq.trans ?_ (setsIn_sum s .online _)
    rw [s.computeRecord_d, s.computeRecord_sets, map_sum_eq]
    exact congrArg List.sum (List.map_congr_left fun i _ => setInput_output s i)
  · refine (map_sum_eq _ _ _).trans ((plants_sum s _ fun p hp => (plantInput_of_empty hp).1).trans ?_)
    exact Finset.sum_congr rfl fun p _ => plantInput_output s p
  · refine (map_sum_eq _ _ _).trans ((plants_sum s _ fun p hp => (plantInput_of_empty hp).2).trans ?_)
    exact Finset.sum_congr rfl fun p _ => plantInput_available s p
  · have hvalid : s.computeRecord.valid = (decide (1 ≤ (s.onlineSets.map s.setInput).length)
        && (s.onlineSets.map s.setInput).all fun e => !e.stale) := rfl
    rw [hvalid, Bool.and_eq_true, decide_eq_true_eq, List.all_eq_true, List.length_map]
    refine and_congr ?_ ?_
    · rw [Nat.one_le_iff_ne_zero, ← Nat.pos_iff_ne_zero, List.length_pos_iff_exists_mem]
      simp only [State.onlineSets, mem_setsIn, List.mem_singleton]
    · simp only [List.forall_mem_map, State.onlineSets, mem_setsIn, List.mem_singleton, Bool.not_eq_true', setInput_stale]
  · have hn1 : s.computeRecord.n1 = if s.parOn N1_COVER = true ∧ 2 ≤ s.computeRecord.sets.length then
        (s.computeRecord.sets.map SetInput.output).foldl max 0 else 0 := rfl
    refine ⟨fun hpar htwo => ?_, fun h => ?_, (le_ceilDiv _).1, (le_ceilDiv _).2, rfl, (le_ceilDiv _).1, (le_ceilDiv _).2,
      fun hzero => ?_, fun hone => ?_⟩
    · rw [hn1, if_pos ⟨(parOn_iff s _).mpr hpar, htwo⟩]
      have hne : s.computeRecord.sets.map SetInput.output ≠ [] := by
        intro hnil
        rw [s.computeRecord_onlineCount, ← List.length_map (f := SetInput.output), hnil] at htwo
        exact absurd htwo (by decide)
      refine ⟨fun e he => (foldl_max_spec 0).2.1 _ (List.mem_map_of_mem he), ?_⟩
      exact List.mem_map.mp (foldl_max_zero_mem hne)
    · rw [hn1, if_neg]
      rw [parOn_iff]
      rintro ⟨hpar, htwo⟩
      exact h.elim (· hpar) fun hlt => Nat.not_le.mpr hlt htwo
    · exact if_pos (List.isEmpty_iff.mpr (List.length_eq_zero_iff.mp hzero))
    · refine if_neg fun hempty => ?_
      have hlen : s.computeRecord.onlineCount = 0 := List.length_eq_zero_iff.mpr (List.isEmpty_iff.mp hempty)
      omega

/-! ## PV_CEILING frames (R79) -/

/-- Only plant records and the Transmit Queue differ. -/
def PlantsFrame (s t : State) : Prop := t = { s with plants := t.plants, txQueue := t.txQueue }

theorem PlantsFrame.trans {s t u : State} (h : PlantsFrame s t) (h' : PlantsFrame t u) : PlantsFrame s u := by
  unfold PlantsFrame at *
  rw [h'.trans (congrArg (fun x : State => { x with plants := u.plants, txQueue := u.txQueue }) h)]

theorem PlantsFrame.foldl {f : State → Fin 4 → State} (hf : ∀ t p, PlantsFrame t (f t p)) (l : List (Fin 4)) :
    ∀ s, PlantsFrame s (l.foldl f s) := by
  induction l with
  | nil => exact fun _ => rfl
  | cons p l ih => exact fun s => (hf s p).trans (ih _)

theorem sendAll_frame (l : List (Fin 4)) (s : State) : PlantsFrame s (l.foldl State.sendCeiling s) :=
  .foldl (f := State.sendCeiling) (fun _ _ => rfl) l s

theorem sendCeiling_plants (s : State) (k p : Fin 4) : (s.sendCeiling k).plants[p] =
    if k = p then { s.plants[p] with lastQueued := s.plants[p].sent } else s.plants[p] := by
  refine (modifyAt_get _ _ _ _).trans ?_
  split
  next h => rw [h]
  · rfl

/-- Queueing ceilings takes the sent ceilings queued as the last queued ones. -/
theorem sendAll_plants (l : List (Fin 4)) : ∀ (s : State) (p : Fin 4), (l.foldl State.sendCeiling s).plants[p] =
    if p ∈ l then { s.plants[p] with lastQueued := s.plants[p].sent } else s.plants[p] := by
  induction l with
  | nil => exact fun _ _ => rfl
  | cons k l ih =>
    intro s p
    rw [List.foldl_cons, ih, sendCeiling_plants]
    by_cases hkp : k = p
    · simp [hkp]
    · simp [hkp, Ne.symm hkp]

/-- A plant's frame, as its record stands. -/
def State.ceilingFrame (s : State) (p : Fin 4) : Frame :=
  .pvCeiling p s.cfg.pv[p].address s.plants[p].sent s.plants[p].sentCause

theorem sendCeiling_ceilingFrame (s : State) (k p : Fin 4) : (s.sendCeiling k).ceilingFrame p = s.ceilingFrame p := by
  unfold State.ceilingFrame
  rw [sendCeiling_plants]
  split <;> rfl

theorem sendCeiling_txQueue (s : State) (p : Fin 4) : (s.sendCeiling p).txQueue = enqueue s.txQueue (s.ceilingFrame p) := rfl

/-- A plant's frame that waits, or is queued, waits after the frames of several plants are queued. -/
theorem ceilingFrame_mem_sendAll {p : Fin 4} (l : List (Fin 4)) : ∀ s : State, p ∈ l ∨ s.ceilingFrame p ∈ s.txQueue →
    s.ceilingFrame p ∈ (l.foldl State.sendCeiling s).txQueue := by
  induction l with
  | nil => exact fun _ h => h.resolve_left nofun
  | cons k l ih =>
    intro s h
    rw [List.foldl_cons, ← sendCeiling_ceilingFrame s k]
    refine ih _ ?_
    rw [sendCeiling_ceilingFrame, sendCeiling_txQueue, mem_enqueue]
    by_cases hkp : p = k
    · exact .inr (.inl (hkp ▸ rfl))
    · refine (List.mem_cons.mp · |>.resolve_left hkp) |> h.imp <| fun hq => .inr ⟨hq, fun hkey => hkp ?_⟩
      exact Key.pvCeiling.inj hkey

theorem sendCeilings_plants {p : Fin 4} (hp : 0 < s.cfg.pv[p].rating) :
    s.sendCeilings.plants[p] = { s.plants[p] with lastQueued := s.plants[p].sent } :=
  (sendAll_plants _ s p).trans (if_pos ((State.mem_configuredPlants s).mpr ((s.plantConfigured_iff p).mpr hp)))

/-- The frames of a publication: each configured plant's ceiling waits and is the last one queued. -/
theorem sendCeilings_frame_mem {p : Fin 4} (hp : 0 < s.cfg.pv[p].rating) : s.ceilingFrame p ∈ s.sendCeilings.txQueue :=
  ceilingFrame_mem_sendAll _ s (.inl ((State.mem_configuredPlants s).mpr ((s.plantConfigured_iff p).mpr hp)))

theorem sendCeilings_plants_keeps (s : State) (p : Fin 4) :
    ∃ last, s.sendCeilings.plants[p] = { s.plants[p] with lastQueued := last } := by
  rw [State.sendCeilings, sendAll_plants]
  split
  · exact ⟨_, rfl⟩
  · exact ⟨s.plants[p].lastQueued, rfl⟩

/-! ## Ceilings by mode and phase -/

theorem sumSent_eq (s : State) : s.sumSent = ∑ p : Fin 4, if 0 < s.cfg.pv[p].rating then s.plants[p].sent else 0 :=
  (sumOver_eq_sum _ _).trans (Finset.sum_congr rfl fun p _ => by simp only [s.plantConfigured_iff p])

theorem formCeilings_plants {p : Fin 4} (hp : 0 < s.cfg.pv[p].rating) : s.formCeilings.plants[p] = s.plants[p].form := by
  rw [State.formCeilings, Fin.getElem_fin, getElem_tabulate, if_pos ((s.plantConfigured_iff p).mpr hp)]

/-- The sent ceiling of a record formed: the lower of the allotment and the limit (R77). -/
def SentIsFormed (r : PlantRec) : Prop :=
  (∀ lim, r.lim = some lim → r.sent = min r.allotment lim
    ∧ r.sentCause = if lim < r.allotment then .fastOf else r.allotCause)
  ∧ (r.lim = none → r.sent = r.allotment ∧ r.sentCause = r.allotCause)

theorem form_sentIsFormed (r : PlantRec) : SentIsFormed r.form := by
  constructor
  · intro lim hlim
    have hlim : r.lim = some lim := hlim
    simp only [PlantRec.form, PlantRec.causeNow, hlim, true_and]
  · intro hlim
    have hlim : r.lim = none := hlim
    simp only [PlantRec.form, PlantRec.causeNow, hlim, true_and]

theorem setAllotments_lim (f : Fin 4 → Nat) (p : Fin 4) : (s.setAllotments f).plants[p].lim = s.plants[p].lim := by
  rw [State.setAllotments, Fin.getElem_fin, getElem_tabulate]
  split <;> rfl

theorem computeCeilings_plants {rec : BalanceRecord} {p : Fin 4} (hp : 0 < s.cfg.pv[p].rating) :
    ∃ r : PlantRec, (s.computeCeilings rec).plants[p] = r.form ∧ r.lim = s.plants[p].lim := by
  refine ⟨_, formCeilings_plants hp, ?_⟩
  exact setAllotments_lim (s := { s with aggU := _, freshStart := false }) _ p

theorem sendCeilings_aggU (s : State) : s.sendCeilings.aggU = s.aggU :=
  foldl_value (g := State.aggU) (f := State.sendCeiling) (fun _ _ => rfl) _ s

theorem sendCeilings_freshStart (s : State) : s.sendCeilings.freshStart = s.freshStart :=
  foldl_value (g := State.freshStart) (f := State.sendCeiling) (fun _ _ => rfl) _ s

/-- What every publication's frames show of a configured plant. -/
def CeilingQueued (s t : State) (p : Fin 4) : Prop :=
  t.plants[p].lastQueued = t.plants[p].sent ∧ t.plants[p].lim = s.plants[p].lim
    ∧ .pvCeiling p s.cfg.pv[p].address t.plants[p].sent t.plants[p].sentCause ∈ t.txQueue

theorem sendCeilings_queued {s u : State} {p : Fin 4} (hp : 0 < s.cfg.pv[p].rating) (hcfg : u.cfg = s.cfg)
    (hlim : u.plants[p].lim = s.plants[p].lim) : CeilingQueued s u.sendCeilings p := by
  have hmem := sendCeilings_frame_mem (s := u) (hcfg ▸ hp)
  have hrec := sendCeilings_plants (s := u) (hcfg ▸ hp)
  rw [State.ceilingFrame, hcfg] at hmem
  rw [CeilingQueued, hrec]
  exact ⟨rfl, hlim, hmem⟩

/-- What a computing publication makes of U and of the sent ceilings. -/
structure CeilingsComputed (s t : State) (rec : BalanceRecord) : Prop where
  fresh : t.freshStart = false
  aggregate : t.aggU = nextU rec.uTarget (s.basis rec) (s.par RAMP_UP)
  formed : ∀ p : Fin 4, 0 < s.cfg.pv[p].rating → SentIsFormed t.plants[p]
  queued : ∀ p : Fin 4, 0 < s.cfg.pv[p].rating → CeilingQueued s t p

theorem computeCeilings_computed (s : State) (rec : BalanceRecord) :
    CeilingsComputed s (s.computeCeilings rec).sendCeilings rec where
  fresh := sendCeilings_freshStart _
  aggregate := sendCeilings_aggU _
  formed p hp := by
    obtain ⟨r, hform, -⟩ := computeCeilings_plants (s := s) (rec := rec) hp
    rw [sendCeilings_plants (s := s.computeCeilings rec) hp, hform]
    exact form_sentIsFormed r
  queued p hp := by
    obtain ⟨r, hform, hlim⟩ := computeCeilings_plants (s := s) (rec := rec) hp
    exact sendCeilings_queued (u := s.computeCeilings rec) hp rfl ((congrArg PlantRec.lim hform).trans hlim)

theorem curtailmentWork_computed {rec : BalanceRecord}
    (h : s.mode = .dispatch ∨ (s.mode = .blackstart ∧ s.seq.phase = .pvReturn)) :
    CeilingsComputed s (s.curtailmentWork rec) rec := by
  have hdone := computeCeilings_computed s rec
  unfold State.curtailmentWork
  obtain hmode | ⟨hmode, hphase⟩ := h
  · rw [hmode]
    exact hdone
  · rw [hmode]
    dsimp only
    rw [if_pos hphase]
    exact ⟨hdone.fresh, hdone.aggregate, hdone.formed, hdone.queued⟩

theorem curtailmentWork_of_observe {rec : BalanceRecord} (h : s.mode = .observe) :
    s.curtailmentWork rec = s.formCeilings.sendCeilings := by
  unfold State.curtailmentWork
  rw [h]

theorem curtailmentWork_of_earlier {rec : BalanceRecord} (h : s.mode = .blackstart) (hphase : s.seq.phase ≠ .pvReturn) :
    s.curtailmentWork rec = s.sendCeilings := by
  unfold State.curtailmentWork
  rw [h]
  exact if_neg hphase

/-- Settles O25. -/
theorem publicationFormsTheCeilings : Obligations.PublicationFormsTheCeilings := by
  intro s r
  dsimp only
  rw [← sumSent_eq]
  refine ⟨fun h => ⟨(curtailmentWork_computed h).fresh, (curtailmentWork_computed h).aggregate⟩, fun h => ?_,
    fun h p hp => ?_, fun h hphase => ?_, fun p hp => ?_⟩
  · rw [curtailmentWork_of_observe h]
    refine ⟨sendCeilings_aggU _, sendCeilings_freshStart _, fun p => ?_⟩
    obtain ⟨last, hrec⟩ := sendCeilings_plants_keeps s.formCeilings p
    rw [hrec]
    exact s.formCeilings_allotment p
  · obtain h | h := h
    · exact (curtailmentWork_computed h).formed p hp
    · rw [curtailmentWork_of_observe h, sendCeilings_plants (s := s.formCeilings) hp, formCeilings_plants hp]
      exact form_sentIsFormed s.plants[p]
  · rw [curtailmentWork_of_earlier h hphase]
    refine ⟨sendCeilings_aggU s, fun p => ?_⟩
    obtain ⟨last, hrec⟩ := sendCeilings_plants_keeps s p
    rw [hrec]
  · have hformed := congrArg PlantRec.lim (formCeilings_plants hp)
    by_cases h : s.mode = .dispatch ∨ (s.mode = .blackstart ∧ s.seq.phase = .pvReturn)
    · exact (curtailmentWork_computed h).queued p hp
    · obtain ⟨hdispatch, hreturn⟩ := not_or.mp h
      cases hmode : s.mode with
      | dispatch => exact absurd hmode hdispatch
      | observe => exact curtailmentWork_of_observe hmode ▸ sendCeilings_queued hp rfl hformed
      | blackstart =>
        exact curtailmentWork_of_earlier hmode (fun hp => hreturn ⟨hmode, hp⟩) ▸ sendCeilings_queued hp rfl rfl

end Sys2Proof.Machine
end

section
/-! The combined action of firing stages (R97, R99, R107): the reversions, then the walks of the two parts. -/

namespace Sys2Proof.Machine

variable {s : State}

/-! ## Reversions (R97, R120, R133) -/

/-- The record a reversion makes. -/
def FeederRec.reverted (r : FeederRec) (cause : FeederCause) : FeederRec := ⟨.openShed, cause, none, r.origin, true⟩

theorem revert_feeder (s : State) (i j : Fin 16) (cause : FeederCause) :
    (s.revert i cause).feeders[j] = if i = j then s.feeders[j].reverted cause else s.feeders[j] := by
  rw [revert_feeders]
  refine (feeders_set_get s i j _).trans ?_
  split
  next h => rw [h]; rfl
  · rfl

theorem closingEnded_eq (s : State) : s.closingEnded = { s with hold := s.closingEnded.hold, settle := s.closingEnded.settle } := by
  unfold State.closingEnded
  split <;> rfl

theorem closingEnded_hold (s : State) : s.closingEnded.hold =
    if s.hold.state = .pending ∧ ∀ j : Fin 16, s.feeders[j].state ≠ .closing then { s.hold with state := .inEffect }
    else s.hold := by
  rw [State.closingEnded, apply_ite State.hold]
  exact if_congr (and_congr_right fun _ => (anyFeeder_eq_false s _).trans not_exists) rfl rfl

theorem revert_eq (s : State) (i : Fin 16) (cause : FeederCause) : ∃ hold settle, s.revert i cause =
    { s with feeders := (s.shedFeeder i cause).feeders, queue := ((s.shedFeeder i cause).placeShed i true).queue
             hold := hold, settle := settle } :=
  ⟨_, _, closingEnded_eq ((s.shedFeeder i cause).placeShed i true)⟩

theorem revert_queue (s : State) (i : Fin 16) (cause : FeederCause) :
    (s.revert i cause).queue = ((s.shedFeeder i cause).placeShed i true).queue := by
  obtain ⟨hold, settle, h⟩ := revert_eq s i cause
  rw [h]

theorem revert_hold (s : State) (i : Fin 16) (cause : FeederCause) : (s.revert i cause).hold =
    if s.hold.state = .pending ∧ ∀ j : Fin 16, (s.revert i cause).feeders[j].state ≠ .closing then
      { s.hold with state := .inEffect } else s.hold := by
  rw [revert_feeders]
  exact closingEnded_hold _

/-- The reversions of one combined action. -/
def State.revertAll (s : State) (l : List (Fin 16)) (cause : FeederCause) : State :=
  l.foldl (fun s i => s.revert i cause) s

theorem revertAll_cons (s : State) (i : Fin 16) (l : List (Fin 16)) (cause : FeederCause) :
    s.revertAll (i :: l) cause = (s.revert i cause).revertAll l cause := rfl

theorem revertAll_frame (l : List (Fin 16)) (cause : FeederCause) : ∀ s : State, s.revertAll l cause =
    { s with feeders := (s.revertAll l cause).feeders, queue := (s.revertAll l cause).queue
             hold := (s.revertAll l cause).hold, settle := (s.revertAll l cause).settle } := by
  induction l with
  | nil => exact fun _ => rfl
  | cons i l ih =>
    intro s
    obtain ⟨hold, settle, h⟩ := revert_eq s i cause
    rw [revertAll_cons]
    refine (ih _).trans ?_
    rw [h]

theorem revertAll_feeder (l : List (Fin 16)) (cause : FeederCause) (j : Fin 16) : ∀ s : State,
    (s.revertAll l cause).feeders[j] = if j ∈ l then s.feeders[j].reverted cause else s.feeders[j] := by
  induction l with
  | nil => exact fun _ => rfl
  | cons i l ih =>
    intro s
    rw [revertAll_cons, ih, revert_feeder]
    by_cases hij : i = j
    · subst hij
      simp [FeederRec.reverted]
    · simp [hij, Ne.symm hij]

theorem mem_revertAll_queue (l : List (Fin 16)) (cause : FeederCause) (j : Fin 16) : ∀ s : State,
    j ∈ (s.revertAll l cause).queue ↔ j ∈ l ∨ j ∈ s.queue := by
  induction l with
  | nil => exact fun s => by simp [State.revertAll]
  | cons i l ih =>
    intro s
    rw [revertAll_cons, ih, revert_queue, placeShed_mem, List.mem_cons]
    exact or_left_comm.trans or_assoc.symm

/-- While the ordering mark is clear every reverted feeder goes to the head (R120). -/
theorem revertAll_queue (l : List (Fin 16)) (cause : FeederCause) : ∀ s : State, s.ordering = false →
    (s.revertAll l cause).queue = l.reverse ++ s.queue := by
  induction l with
  | nil => exact fun _ _ => rfl
  | cons i l ih =>
    intro s hclear
    have hplace : ((s.shedFeeder i cause).placeShed i true).queue = i :: s.queue := by
      show (if s.ordering = true then _ else _) = _
      rw [hclear]
      rfl
    have hclear' : (s.revert i cause).ordering = false := by
      obtain ⟨hold, settle, h⟩ := revert_eq s i cause
      rw [h]
      exact hclear
    rw [revertAll_cons, ih _ hclear', revert_queue, hplace]
    simp

/-- A pending hold takes effect when a reversion leaves no feeder CLOSING (R133). -/
theorem revertAll_hold (l : List (Fin 16)) (cause : FeederCause) : ∀ s : State, (s.revertAll l cause).hold =
    if s.hold.state = .pending ∧ l ≠ [] ∧ ∀ j : Fin 16, (s.revertAll l cause).feeders[j].state ≠ .closing then
      { s.hold with state := .inEffect } else s.hold := by
  induction l with
  | nil => exact fun _ => (if_neg fun h => h.2.1 rfl).symm
  | cons i l ih =>
    intro s
    rw [revertAll_cons, ih, revert_hold]
    by_cases hpending : s.hold.state = .pending
    · by_cases hnow : ∀ j : Fin 16, (s.revert i cause).feeders[j].state ≠ .closing
      · have hlater (j : Fin 16) : ((s.revert i cause).revertAll l cause).feeders[j].state ≠ .closing := by
          rw [revertAll_feeder]
          split
          · nofun
          · exact hnow j
        rw [if_pos (⟨hpending, hnow⟩ : _ ∧ _), if_neg (fun h => nomatch h.1),
          if_pos ⟨hpending, List.cons_ne_nil _ _, hlater⟩]
      · rw [if_neg (fun h : _ ∧ _ => hnow h.2)]
        refine if_congr (and_congr_right fun _ => and_congr_left fun hlater => iff_of_true ?_ (List.cons_ne_nil _ _)) rfl rfl
        rintro rfl
        exact hnow hlater
    · rw [if_neg (fun h : _ ∧ _ => hpending h.1), if_neg (fun h => hpending h.1), if_neg (fun h => hpending h.1)]

/-! ## Walks after each other (R96, R107) -/

theorem countP_eq_length {p : Fin 16 → Prop} [DecidablePred p] {l : List (Fin 16)} (hl : l.Nodup) (hmem : ∀ i, i ∈ l ↔ p i) :
    ((indices 16).countP fun i => decide (p i)) = l.length := by
  have hperm : l.Perm ((indices 16).filter fun i => decide (p i)) := by
    rw [List.perm_ext_iff_of_nodup hl (indices_nodup.filter _)]
    intro j
    rw [hmem, List.mem_filter, decide_eq_true_eq]
    exact ⟨fun h => ⟨mem_indices j, h⟩, fun h => h.2⟩
  rw [hperm.length_eq, List.countP_eq_length_filter]

/-- A walk asks the ladder and the feeder records only. -/
theorem walk_feeders_aside {s t : State} (ht : t = { s with queue := t.queue, hold := t.hold, settle := t.settle })
    (reach : Reach) (causes : List FeederCause) : (t.walk reach causes).feeders = (s.walk reach causes).feeders := by
  have hfold (l : List (Fin 16 × FeederCause)) : ∀ u : State,
      (l.foldl (fun u x => u.tripFeeder x.1 x.2 (some reach)) u).feeders =
        l.foldl (fun v x => v.set x.1 (v[x.1].trip x.2 (some reach) u.clk)) u.feeders := by
    induction l with
    | nil => exact fun _ => rfl
    | cons x l ih => exact fun u => ih _
  rw [ht]
  exact (hfold _ _).trans (hfold _ s).symm

/-- A walk leaves a feeder alone or trips it with one of its causes. -/
theorem walk_feeder_cases (s : State) (reach : Reach) (causes : List FeederCause) (i : Fin 16) :
    (s.walk reach causes).feeders[i] = s.feeders[i]
      ∨ MayBeChosen s reach i ∧ ∃ c ∈ causes, (s.walk reach causes).feeders[i] = trippedRecord c reach s.clk := by
  by_cases hi : i ∈ s.chosen reach causes.length
  · refine .inr ⟨mem_chosen hi, ?_⟩
    rw [← walk_pairs] at hi
    obtain ⟨⟨j, c⟩, hmem, rfl⟩ := List.mem_map.mp hi
    exact ⟨c, (List.of_mem_zip hmem).2, (walk_trips s reach causes).2.1 _ hmem⟩
  · exact .inl (walk_feeders_of_not_chosen hi)

/-- The feeders a walk trips are CLOSED before and OPENING after; the others keep their records. -/
theorem mem_chosen_iff {reach : Reach} {causes : List FeederCause} {i : Fin 16} :
    i ∈ s.chosen reach causes.length ↔ s.feeders[i].state = .closed ∧ (s.walk reach causes).feeders[i].state = .opening := by
  constructor
  · intro hi
    have hclosed := closed_of_mem_chosen hi
    rw [← walk_pairs] at hi
    obtain ⟨⟨j, c⟩, hmem, rfl⟩ := List.mem_map.mp hi
    exact ⟨hclosed, congrArg FeederRec.state ((walk_trips s reach causes).2.1 _ hmem)⟩
  · rintro ⟨hclosed, hopening⟩
    by_contra hi
    rw [walk_feeders_of_not_chosen hi, hclosed] at hopening
    exact nomatch hopening

theorem walkFull_eq_false {reach : Reach} {width : Nat} : s.walkFull reach width = false
    ↔ ((indices 16).countP fun i => decide (MayBeChosen s reach i)) < width := by
  rw [State.walkFull, decide_eq_false_iff_not, chosen_eq, List.length_take, choices_length]
  omega

theorem mem_partCauses {firing : List (Fin 8)} {reach : Reach} {c : FeederCause} :
    c ∈ s.partCauses firing reach ↔ ∃ k ∈ firing, s.cfg.stages[k].reach = reach ∧ 0 < s.cfg.stages[k].width ∧ c = .stage k := by
  simp only [State.partCauses, List.mem_flatMap, List.mem_filter, decide_eq_true_eq, List.mem_replicate,
    Nat.pos_iff_ne_zero, and_assoc]

theorem partCauses_cons_length (s : State) (k : Fin 8) (firing : List (Fin 8)) (reach : Reach) :
    (s.partCauses (k :: firing) reach).length =
      (if s.cfg.stages[k].reach = reach then s.cfg.stages[k].width else 0) + (s.partCauses firing reach).length := by
  simp only [State.partCauses, List.filter_cons, decide_eq_true_eq]
  split <;> simp

theorem partCauses_length (s : State) (firing : List (Fin 8)) :
    (s.partCauses firing .shallow).length + (s.partCauses firing .deep).length
      = (firing.map fun k => s.cfg.stages[k].width).sum := by
  induction firing with
  | nil => rfl
  | cons k firing ih =>
    rw [partCauses_cons_length, partCauses_cons_length, List.map_cons, List.sum_cons, ← ih]
    cases s.cfg.stages[k].reach <;> simp only [reduceCtorEq, ite_true, ite_false] <;> omega

/-! ## The combined action -/

theorem mem_toRevert {deep : Bool} {i : Fin 16} : i ∈ s.toRevert deep ↔ s.cfg.feeders[i].enabled = true
    ∧ s.feeders[i].state = .closing ∧ (deep = true ∨ ¬ InProtectedRegion s s.cfg.feeders[i].position) := by
  rw [State.toRevert, List.mem_filter, mem_ladder, Bool.and_eq_true, Bool.or_eq_true, decide_eq_true_eq, Bool.not_eq_true',
    ← isProtected_iff, Bool.not_eq_true]
  rfl

theorem walks_eq (s : State) (shallow deep : List FeederCause) (short : Bool) :
    ({ (s.walk .shallow shallow).walk .deep deep with exhausted := short } : State).handStageAction =
      { s with feeders := ((s.walk .shallow shallow).walk .deep deep).feeders, exhausted := short, settle := .stopped } := by
  rw [walk_frame (s := State.walk _ _ _), walk_frame (reach := .shallow)]
  rfl

theorem combinedAction_eq (s : State) (lowest : Fin 8) (rest : List (Fin 8)) :
    let firing := lowest :: rest
    let s1 := s.revertAll (s.toRevert !(s.partCauses firing .deep).isEmpty) (.stage lowest)
    let s2 := s1.walk .shallow (s.partCauses firing .shallow)
    s.combinedAction firing = { s1 with
      feeders := (s2.walk .deep (s.partCauses firing .deep)).feeders
      exhausted := !(s1.walkFull .shallow (s.partCauses firing .shallow).length
        && s2.walkFull .deep (s.partCauses firing .deep).length)
      settle := .stopped } := by
  exact walks_eq _ _ _ _

/-- The ladder after the walks of both parts, the SHALLOW one first. -/
def State.walkParts (s : State) (causes : Reach → List FeederCause) : State :=
  (s.walk .shallow (causes .shallow)).walk .deep (causes .deep)

theorem walkParts_feeder_cases (s : State) (causes : Reach → List FeederCause) (i : Fin 16) :
    (s.walkParts causes).feeders[i] = s.feeders[i]
      ∨ ∃ reach, MayBeChosen s reach i ∧ ∃ c ∈ causes reach, (s.walkParts causes).feeders[i] = trippedRecord c reach s.clk := by
  have hclk : (s.walk .shallow (causes .shallow)).clk = s.clk := by rw [walk_frame]
  have hcfg : (s.walk .shallow (causes .shallow)).cfg = s.cfg := by rw [walk_frame]
  obtain hdeep | ⟨⟨henabled, hclosed, -⟩, c, hc, hdeep⟩ := walk_feeder_cases (s.walk .shallow (causes .shallow)) .deep (causes .deep) i
  · obtain hshallow | ⟨hmay, c, hc, hshallow⟩ := walk_feeder_cases s .shallow (causes .shallow) i
    · exact .inl (hdeep.trans hshallow)
    · exact .inr ⟨.shallow, hmay, c, hc, hdeep.trans hshallow⟩
  · obtain hshallow | ⟨-, c', -, hshallow⟩ := walk_feeder_cases s .shallow (causes .shallow) i
    · rw [hshallow] at hclosed
      rw [hcfg] at henabled
      rw [hclk] at hdeep
      exact .inr ⟨.deep, ⟨henabled, hclosed, .inl rfl⟩, c, hc, hdeep⟩
    · rw [hshallow] at hclosed
      exact nomatch hclosed

/-- A feeder that is not CLOSED keeps its record. -/
theorem walkParts_of_not_closed {causes : Reach → List FeederCause} {i : Fin 16} (h : s.feeders[i].state ≠ .closed) :
    (s.walkParts causes).feeders[i] = s.feeders[i] :=
  (walkParts_feeder_cases s causes i).resolve_right fun ⟨_, hmay, _⟩ => h hmay.2.1

/-- Both parts found their width. -/
def State.partsFull (s : State) (causes : Reach → List FeederCause) : Bool :=
  s.walkFull .shallow (causes .shallow).length
    && (s.walk .shallow (causes .shallow)).walkFull .deep (causes .deep).length

theorem partsFull_eq_false {causes : Reach → List FeederCause} : s.partsFull causes = false
    ↔ ((indices 16).countP fun i => decide (MayBeChosen s .shallow i)) < (causes .shallow).length
      ∨ ((indices 16).countP fun i => decide (MayBeChosen (s.walk .shallow (causes .shallow)) .deep i)) < (causes .deep).length := by
  rw [State.partsFull, Bool.and_eq_false_iff, walkFull_eq_false, walkFull_eq_false]

/-- The parts are full exactly when as many feeders went from CLOSED to OPENING as there are causes. -/
theorem partsFull_iff {causes : Reach → List FeederCause} : s.partsFull causes = true
    ↔ ((indices 16).countP fun i => decide (s.feeders[i].state = .closed ∧ (s.walkParts causes).feeders[i].state = .opening))
      = (causes .shallow).length + (causes .deep).length := by
  have hshallow (i : Fin 16) := mem_chosen_iff (s := s) (reach := .shallow) (causes := causes .shallow) (i := i)
  have hdeep (i : Fin 16) :=
    mem_chosen_iff (s := s.walk .shallow (causes .shallow)) (reach := .deep) (causes := causes .deep) (i := i)
  rw [countP_eq_length (l := s.chosen .shallow (causes .shallow).length
      ++ (s.walk .shallow (causes .shallow)).chosen .deep (causes .deep).length), List.length_append]
  · have hle (u : State) (reach : Reach) (n : Nat) : (u.chosen reach n).length ≤ n := by
      rw [chosen_eq, List.length_take]
      exact Nat.min_le_left _ _
    have := hle s .shallow (causes .shallow).length
    have := hle (s.walk .shallow (causes .shallow)) .deep (causes .deep).length
    rw [State.partsFull, Bool.and_eq_true, State.walkFull, State.walkFull, decide_eq_true_eq, decide_eq_true_eq]
    omega
  · refine List.nodup_append.mpr ⟨chosen_nodup .., chosen_nodup .., fun i hi j hj hij => ?_⟩
    have hopening := ((hshallow i).mp hi).2
    rw [hij, ((hdeep j).mp hj).1] at hopening
    exact nomatch hopening
  · intro i
    rw [List.mem_append, hshallow, hdeep]
    constructor
    · rintro (⟨hclosed, hopening⟩ | ⟨hclosed, hopening⟩)
      · refine ⟨hclosed, ?_⟩
        have hstays := walk_feeders_of_not_chosen (reach := .deep) (causes := causes .deep) (j := i)
          (s := s.walk .shallow (causes .shallow)) fun hi => by
            rw [((hdeep i).mp hi).1] at hopening
            exact nomatch hopening
        exact (congrArg FeederRec.state hstays).trans hopening
      · obtain hkept | ⟨-, c, -, htripped⟩ := walk_feeder_cases s .shallow (causes .shallow) i
        · exact ⟨hkept ▸ hclosed, hopening⟩
        · rw [htripped] at hclosed
          exact nomatch hclosed
    · rintro ⟨hclosed, hopening⟩
      obtain hkept | ⟨-, c, -, htripped⟩ := walk_feeder_cases s .shallow (causes .shallow) i
      · exact .inr ⟨(congrArg FeederRec.state hkept).trans hclosed, hopening⟩
      · exact .inl ⟨hclosed, congrArg FeederRec.state htripped⟩

theorem walk_aside {s t : State} (ht : t = { s with queue := t.queue, hold := t.hold, settle := t.settle })
    (reach : Reach) (causes : List FeederCause) : t.walk reach causes = { s.walk reach causes with
      queue := (t.walk reach causes).queue, hold := (t.walk reach causes).hold, settle := (t.walk reach causes).settle } := by
  have hfeeders := walk_feeders_aside ht reach causes
  rw [walk_frame, walk_frame (s := s), hfeeders]
  conv_lhs => rw [ht]

theorem walkFull_aside {s t : State} (ht : t = { s with queue := t.queue, hold := t.hold, settle := t.settle })
    (reach : Reach) (width : Nat) : t.walkFull reach width = s.walkFull reach width := by
  rw [ht]
  rfl

/-- What stands aside of the ladder has no part in the walks. -/
theorem walkParts_aside {s t : State} (ht : t = { s with queue := t.queue, hold := t.hold, settle := t.settle })
    (causes : Reach → List FeederCause) : (t.walkParts causes).feeders = (s.walkParts causes).feeders
      ∧ t.partsFull causes = s.partsFull causes := by
  have hafter := walk_aside ht .shallow (causes .shallow)
  exact ⟨walk_feeders_aside hafter _ _, congrArg₂ and (walkFull_aside ht _ _) (walkFull_aside hafter _ _)⟩

/-- Settles O27. -/
theorem firingStagesRevertAndShed : Obligations.FiringStagesRevertAndShed := by
  intro s lowest rest t deep reverted afterReverting revertedState causes ladderAfter found
  let l := s.toRevert !(s.partCauses (lowest :: rest) .deep).isEmpty
  let s1 := s.revertAll l (.stage lowest)
  have hl (i : Fin 16) : i ∈ l ↔ reverted i := by
    rw [mem_toRevert, Bool.not_eq_true', List.isEmpty_eq_false_iff_exists_mem]
    simp only [mem_partCauses]
    refine and_congr_right fun _ => and_congr_right fun _ => or_congr_left ⟨?_, ?_⟩
    · rintro ⟨c, k, hk, hreach, hwidth, -⟩
      exact ⟨k, hk, hreach, hwidth⟩
    · rintro ⟨k, hk, hreach, hwidth⟩
      exact ⟨_, k, hk, hreach, hwidth, rfl⟩
  have hrecord (i : Fin 16) : s1.feeders[i] = if reverted i then (s.feeders[i].reverted (.stage lowest)) else s.feeders[i] := by
    rw [revertAll_feeder]
    exact if_congr (hl i) rfl rfl
  have hfeeders : s1.feeders = afterReverting := by
    refine Vector.ext fun i hi => (hrecord ⟨i, hi⟩).trans ?_
    rw [getElem_tabulate]
    rfl
  have hs1 : s1 = { revertedState with queue := s1.queue, hold := s1.hold, settle := s1.settle } := by
    exact (revertAll_frame l _ s).trans (congrArg (fun v => ({ s with
      feeders := v, queue := s1.queue, hold := s1.hold, settle := s1.settle } : State)) hfeeders)
  have hwalks : (s1.walkParts causes).feeders = (revertedState.walkParts causes).feeders := (walkParts_aside hs1 causes).1
  have hfull : s1.partsFull causes = revertedState.partsFull causes := (walkParts_aside hs1 causes).2
  have ht : t = { s1 with
      feeders := (revertedState.walkParts causes).feeders, exhausted := !revertedState.partsFull causes, settle := .stopped } := by
    rw [← hwalks, ← hfull]
    exact combinedAction_eq s lowest rest
  have hframe : s1 = { s with feeders := s1.feeders, queue := s1.queue, hold := s1.hold, settle := s1.settle } :=
    revertAll_frame l _ s
  have hstart (i : Fin 16) : revertedState.feeders[i] =
      if reverted i then (s.feeders[i].reverted (.stage lowest)) else s.feeders[i] := 
    (congrArg (fun v : Vector FeederRec 16 => v[i]) hfeeders).symm.trans (hrecord i)
  have hclosed (i : Fin 16) : revertedState.feeders[i].state = .closed ↔ s.feeders[i].state = .closed := by
    rw [hstart]
    split
    next h => exact iff_of_false nofun fun hc => nomatch hc.symm.trans h.2.1
    · exact Iff.rfl
  have hfinal : t.feeders = (revertedState.walkParts causes).feeders := (congrArg State.feeders ht :)
  have hexhausted : t.exhausted = !revertedState.partsFull causes := (congrArg State.exhausted ht :)
  have hqueue : t.queue = s1.queue := (congrArg State.queue ht :)
  have hhold : t.hold = s1.hold := (congrArg State.hold ht :)
  have hmem (i : Fin 16) : i ∈ t.queue ↔ reverted i ∨ i ∈ s.queue := by
    rw [hqueue, mem_revertAll_queue, hl]
  refine ⟨congrArg State.settle ht, (congrArg State.stages ht :).trans (congrArg State.stages hframe :), fun i hi => ⟨(hmem i).mpr (.inl hi), ?_⟩,
    fun i hi => ?_, hfinal, ?_, hmem, fun hclear => ⟨l.reverse, ?_, ?_, ?_⟩, ?_, ?_, ?_⟩
  · have hrec := (hstart i).trans (if_pos hi)
    rw [hfinal, walkParts_of_not_closed (by rw [hrec]; nofun), hrec]
    rfl
  · have hrec := (hstart i).trans (if_neg hi)
    rw [hfinal]
    obtain hkept | ⟨reach, ⟨henabled, hstate, hreach⟩, c, hc, htripped⟩ := walkParts_feeder_cases revertedState causes i
    · exact .inl (hkept.trans hrec)
    · obtain ⟨k, hk, rfl, -, rfl⟩ := mem_partCauses.mp hc
      exact .inr ⟨k, hk, ⟨henabled, (hclosed i).mp hstate, hreach⟩, htripped⟩
  · rw [hexhausted, Bool.not_eq_true', partsFull_eq_false]
  · exact hqueue.trans (revertAll_queue l _ s hclear)
  · exact List.nodup_reverse.mpr ((ladder_nodup s).filter _)
  · intro i
    rw [List.mem_reverse, hl]
  · have hend : (s.hold.state = .pending ∧ l ≠ [] ∧ ∀ j : Fin 16, s1.feeders[j].state ≠ .closing) ↔
        (s.hold.state = .pending ∧ (∃ i, reverted i) ∧ ∀ i : Fin 16, s.feeders[i].state = .closing → reverted i) := by
      refine and_congr_right fun _ => and_congr ?_ (forall_congr' fun i => ?_)
      · rw [← List.length_pos_iff, List.length_pos_iff_exists_mem]
        exact exists_congr hl
      · rw [hrecord]
        split
        next h => exact iff_of_true nofun fun _ => h
        next h => exact imp_congr_right fun _ => iff_of_false id h
    rw [hhold, revertAll_hold]
    exact ⟨fun h => if_pos (hend.mpr h), fun h => if_neg fun h' => h (hend.mp h')⟩
  · rw [hfinal, hexhausted, hqueue, hhold]
    exact ht.trans (congrArg (fun x : State => { x with
      feeders := (revertedState.walkParts causes).feeders, exhausted := !revertedState.partsFull causes, settle := .stopped }) hframe)
  · rw [hexhausted, Bool.not_eq_false', partsFull_iff, ← hfinal, ← partCauses_length]
    simp only [hclosed]
    rfl

end Sys2Proof.Machine
end

section
/-! Moves of one set, choices by priority, and the looks of the Black-Start Sequencer in FIRST_SET, ADD_SETS, RESTORE and
PV_RETURN (R145 to R149, R151). -/

namespace Sys2Proof.Machine

variable {s : State} {i : Fin 8}

/-! ## Choices by priority -/

theorem leastBy_eq_none {α : Type} {key : α → Nat} {xs : List α} : leastBy key xs = none ↔ xs = [] := by
  cases xs with
  | nil => exact iff_of_true rfl rfl
  | cons x xs =>
    rw [leastBy]
    cases leastBy key xs with
    | none => simp
    | some y => by_cases h : key x ≤ key y <;> simp [h]

theorem leastBy_le {α : Type} {key : α → Nat} {xs : List α} {x : α} (h : leastBy key xs = some x) :
    ∀ y ∈ xs, key x ≤ key y := by
  induction xs generalizing x with
  | nil => exact nofun
  | cons a as ih =>
    rw [leastBy] at h
    cases hrest : leastBy key as with
    | none =>
      rw [hrest] at h
      obtain rfl := Option.some.inj h
      rw [leastBy_eq_none.mp hrest]
      exact fun y hy => Nat.le_of_eq (congrArg key (List.mem_singleton.mp hy)).symm
    | some z =>
      rw [hrest] at h
      have hz := ih hrest
      dsimp only at h
      refine List.forall_mem_cons.mpr ?_
      split at h
      next hle =>
        obtain rfl := Option.some.inj h
        exact ⟨Nat.le_refl _, fun y hy => hle.trans (hz y hy)⟩
      next hlt =>
        obtain rfl := Option.some.inj h
        exact ⟨(Nat.lt_of_not_le hlt).le, hz⟩

theorem greatestBy_eq_none {α : Type} {key : α → Nat} {xs : List α} : greatestBy key xs = none ↔ xs = [] := by
  cases xs with
  | nil => exact iff_of_true rfl rfl
  | cons x xs =>
    rw [greatestBy]
    cases greatestBy key xs with
    | none => simp
    | some y => by_cases h : key y ≤ key x <;> simp [h]

theorem greatestBy_ge {α : Type} {key : α → Nat} {xs : List α} {x : α} (h : greatestBy key xs = some x) :
    ∀ y ∈ xs, key y ≤ key x := by
  induction xs generalizing x with
  | nil => exact nofun
  | cons a as ih =>
    rw [greatestBy] at h
    cases hrest : greatestBy key as with
    | none =>
      rw [hrest] at h
      obtain rfl := Option.some.inj h
      rw [greatestBy_eq_none.mp hrest]
      exact fun y hy => Nat.le_of_eq (congrArg key (List.mem_singleton.mp hy))
    | some z =>
      rw [hrest] at h
      have hz := ih hrest
      dsimp only at h
      refine List.forall_mem_cons.mpr ?_
      split at h
      next hle =>
        obtain rfl := Option.some.inj h
        exact ⟨Nat.le_refl _, fun y hy => (hz y hy).trans hle⟩
      next hlt =>
        obtain rfl := Option.some.inj h
        exact ⟨(Nat.lt_of_not_le hlt).le, hz⟩

section Priority

variable {p : Fin 8 → Prop} {l : List (Fin 8)}

theorem lowestPriority_of_least (hl : ∀ j, j ∈ l ↔ p j) (h : LowestPriority s p i) : s.lowestPriority l = some i := by
  obtain ⟨hi, hleast⟩ := h
  cases hk : s.lowestPriority l with
  | none =>
    rw [leastBy_eq_none.mp hk] at hl
    exact nomatch (hl i).mpr hi
  | some k =>
    by_contra hne
    have hki : k ≠ i := fun h => hne (congrArg some h)
    have hle := leastBy_le hk i ((hl i).mpr hi)
    have hlt := hleast k ((hl k).mp (leastBy_mem _ hk)) hki
    exact Nat.not_le.mpr hlt hle

theorem lowestPriority_of_none (hl : ∀ j, j ∈ l ↔ p j) (h : ∀ j, ¬ p j) : s.lowestPriority l = none :=
  leastBy_eq_none.mpr (List.eq_nil_iff_forall_not_mem.mpr fun j hj => h j ((hl j).mp hj))

theorem highestPriority_of_greatest (hl : ∀ j, j ∈ l ↔ p j) (h : HighestPriority s p i) :
    greatestBy (fun i => s.cfg.roster[i].priority) l = some i := by
  obtain ⟨hi, hgreatest⟩ := h
  cases hk : greatestBy (fun i => s.cfg.roster[i].priority) l with
  | none =>
    rw [greatestBy_eq_none.mp hk] at hl
    exact nomatch (hl i).mpr hi
  | some k =>
    by_contra hne
    have hki : k ≠ i := fun h => hne (congrArg some h)
    have hle := greatestBy_ge hk i ((hl i).mpr hi)
    have hlt := hgreatest k ((hl k).mp (greatestBy_mem _ hk)) hki
    exact Nat.not_le.mpr hlt hle

end Priority

theorem mem_setsIn_one {state : SetState} : i ∈ s.setsIn [state] ↔ SetIs s state i := by
  rw [mem_setsIn, List.mem_singleton]

theorem setsIn_length (s : State) (state : SetState) : (s.setsIn [state]).length = countSets s state := by
  rw [countSets, List.countP_eq_length_filter]
  refine congrArg List.length (List.filter_congr fun i _ => ?_)
  rw [Bool.eq_iff_iff, Bool.and_eq_true, setConfigured_iff, decide_eq_true_eq, decide_eq_true_eq, List.mem_singleton]

/-! ## Moves of one set -/

theorem updateSet_eq (s : State) (i : Fin 8) (f : SetRec → SetRec) : s.updateSet i f =
    { s with sets := (s.updateSet i f).sets, txQueue := (s.updateSet i f).txQueue } := updateSet_setsFrame s i f

theorem updateSet_sets (s : State) (i : Fin 8) (f : SetRec → SetRec) :
    (s.updateSet i f).sets = s.sets.set i (s.updateSet i f).sets[i] := by
  refine Vector.ext fun j hj => ?_
  rw [Vector.getElem_set]
  split
  next h => subst h; rfl
  next h => exact updateSet_sets_ne s (j := ⟨j, hj⟩) (fun heq => h (congrArg Fin.val heq).symm) f

theorem updateSet_of_configured (hconf : 0 < s.cfg.roster[i].rating) {f : SetRec → SetRec} {r : SetRec}
    (hr : (f s.sets[i]).directed (wantedDirective s.mode (f s.sets[i]).state (f s.sets[i]).mark) = r) :
    s.updateSet i f = { s with sets := s.sets.set i r, txQueue := (s.updateSet i f).txQueue } := by
  refine (updateSet_eq s i f).trans ?_
  rw [updateSet_sets, updateSet_sets_self, if_pos hconf, hr]

theorem startLength_eq (e : SetEntry) : e.startLength = 50000000 * e.startTimeout := by
  rw [SetEntry.startLength, sec_eq]
  exact (Nat.mul_assoc ..).symm

theorem runLength_eq (e : SetEntry) : e.runLength = 300000000 * e.minRun := by
  rw [SetEntry.runLength, sec_eq]
  exact (Nat.mul_assoc ..).symm

theorem downLength_eq (e : SetEntry) : e.downLength = 300000000 * e.minDown := by
  rw [SetEntry.downLength, sec_eq]
  exact (Nat.mul_assoc ..).symm

/-- A start or a run order (R55, R63). -/
theorem startSet_eq (hconf : 0 < s.cfg.roster[i].rating) : s.startSet i =
    { s with sets := s.sets.set i (startedSet s i), txQueue := (s.startSet i).txQueue } := by
  refine updateSet_of_configured hconf ?_
  unfold SetRec.goStarting startedSet
  rw [startLength_eq]

/-- The dead-bus start order during a black start (R62). -/
theorem deadBusOrder_eq (hconf : 0 < s.cfg.roster[i].rating) (hmode : s.mode = .blackstart) : s.deadBusOrder i =
    { s with sets := s.sets.set i (deadBusSet s i s.clk), txQueue := (s.deadBusOrder i).txQueue } := by
  refine updateSet_of_configured hconf ?_
  unfold SetRec.goDeadBus deadBusSet
  rw [sec_eq, hmode]
  rfl

/-! ## ADD_SETS (R147) -/

/-- A set that the sequencer may still add: STOPPED and not passed over. -/
def MayBeAdded (s : State) (i : Fin 8) : Prop := SetIs s .stopped i ∧ i ∉ s.seq.passedOver

theorem mem_addable (s : State) (i : Fin 8) :
    i ∈ (s.setsIn [.stopped]).filter (fun i => !s.seq.passedOver.contains i) ↔ MayBeAdded s i := by
  rw [List.mem_filter, mem_setsIn_one, MayBeAdded]
  simp

theorem lookAddSets_of_enough (h : s.cfg.params[BS_SETS] ≤ countSets s .online) : s.lookAddSets = s.enterRestore := by
  rw [← setsIn_length] at h
  exact if_pos h

theorem lookAddSets_of_none (h : ∀ i, ¬ MayBeAdded s i) : s.lookAddSets = s.enterRestore := by
  unfold State.lookAddSets
  rw [lowestPriority_of_none (mem_addable s) h]
  exact ite_self _

theorem lookAddSets_of_few (h : countSets s .online < s.cfg.params[BS_SETS]) (hi : LowestPriority s (MayBeAdded s) i) :
    s.lookAddSets = { s with seq := { s.seq with runOrder := some i } }.startSet i := by
  rw [← setsIn_length] at h
  refine (if_neg (Nat.not_le.mpr h)).trans ?_
  rw [lowestPriority_of_least (mem_addable s) hi]

/-- A look in ADD_SETS goes no way back to FIRST_SET. -/
theorem lookAddSets_phase (s : State) : s.lookAddSets.seq.phase = .restore ∨ s.lookAddSets.seq.phase = s.seq.phase := by
  unfold State.lookAddSets
  split
  · exact .inl rfl
  · split
    · exact .inr (congrArg Sequencer.phase (updateSet_setsFrame _ _ _).seq :)
    · exact .inl rfl

/-! ## Completion (R149) -/

theorem redirectAll_of_stand (h : DirectivesFollowStates s) : s.redirectAll = s := by
  have hfold (l : List (Fin 8)) : l.foldl State.redirect s = s := by
    induction l with
    | nil => rfl
    | cons i l ih => rw [List.foldl_cons, redirect_of_stands s fun hconf => (h i hconf).symm, ih]
  exact hfold _

theorem setMode_of_ne {m : Mode} (h : s.mode ≠ m) : s.setMode m = State.redirectAll { s with
    mode := m, shortfall := none, surplus := none, reserveShed := none
    seq := { s.seq with trigger := if m = .dispatch then s.seq.trigger else none } } := if_neg h

theorem completeBlackStart_eq (hmode : s.mode = .blackstart) : s.completeBlackStart = State.redirectAll { s with
    mode := .dispatch, shortfall := none, surplus := none, reserveShed := none, seq := s.seq.ended false } :=
  setMode_of_ne (s := { s with seq := s.seq.ended false }) (by rw [hmode]; nofun)

/-- DISPATCH wants the directives that BLACKSTART wants. -/
theorem wantedDirective_dispatch (state : SetState) (mark : Bool) :
    wantedDirective .dispatch state mark = wantedDirective .blackstart state mark := rfl

/-- Only what the ceilings of a publication form differs. -/
def CeilingsFrame (s t : State) : Prop := t = { s with
  plants := t.plants, txQueue := t.txQueue, aggU := t.aggU, freshStart := t.freshStart, pvReached := t.pvReached }

theorem CeilingsFrame.sendCeilings {t : State} (h : CeilingsFrame s t) : CeilingsFrame s t.sendCeilings := by
  have hsend : PlantsFrame t t.sendCeilings := sendAll_frame t.configuredPlants t
  unfold CeilingsFrame PlantsFrame at *
  rw [hsend, h]

theorem CeilingsFrame.seq {t : State} (h : CeilingsFrame s t) : t.seq = s.seq := by rw [h]
theorem CeilingsFrame.sets {t : State} (h : CeilingsFrame s t) : t.sets = s.sets := by rw [h]
theorem CeilingsFrame.cfg {t : State} (h : CeilingsFrame s t) : t.cfg = s.cfg := by rw [h]
theorem CeilingsFrame.mode {t : State} (h : CeilingsFrame s t) : t.mode = s.mode := by rw [h]

theorem curtailmentWork_frame (s : State) (rec : BalanceRecord) : CeilingsFrame s (s.curtailmentWork rec) := by
  have hcomputed : CeilingsFrame s (s.computeCeilings rec).sendCeilings := .sendCeilings rfl
  unfold State.curtailmentWork
  split
  · exact hcomputed
  · exact .sendCeilings (t := s.formCeilings) rfl
  · split
    · generalize (s.computeCeilings rec).sendCeilings = t at hcomputed
      unfold CeilingsFrame at *
      rw [hcomputed]
    · exact .sendCeilings rfl

theorem curtailmentWork_pvReached {rec : BalanceRecord} (hmode : s.mode = .blackstart) (hphase : s.seq.phase = .pvReturn) :
    (s.curtailmentWork rec).pvReached = true ↔ (s.curtailmentWork rec).aggU = rec.uTarget := by
  unfold State.curtailmentWork
  rw [hmode]
  dsimp only
  rw [if_pos hphase]
  exact decide_eq_true_iff

theorem curtailmentTask_of_not {rec : BalanceRecord}
    (h : s.mode ≠ .blackstart ∨ s.seq.phase ≠ .pvReturn ∨ (s.curtailmentWork rec).aggU ≠ rec.uTarget) :
    s.curtailmentTask rec = s.curtailmentWork rec := by
  refine if_neg fun ⟨hmode, hphase, hreached⟩ => ?_
  obtain h | h | h := h
  · exact h hmode
  · exact h hphase
  · exact h ((curtailmentWork_pvReached hmode hphase).mp hreached)

theorem curtailmentTask_of_reached {rec : BalanceRecord} (hmode : s.mode = .blackstart) (hphase : s.seq.phase = .pvReturn)
    (h : (s.curtailmentWork rec).aggU = rec.uTarget) :
    s.curtailmentTask rec = (s.curtailmentWork rec).completeBlackStart :=
  if_pos ⟨hmode, hphase, (curtailmentWork_pvReached hmode hphase).mpr h⟩

/-! ## RESTORE (R148) -/

theorem restoreDone_iff (s : State) : (s.queue.isEmpty = true ∧ s.anyFeeder .closing = false)
    ↔ s.queue = [] ∧ ∀ i : Fin 16, s.feeders[i].state ≠ .closing := by
  rw [List.isEmpty_iff, anyFeeder_eq_false, not_exists]

/-- The block timer at a look with a head blocked on reserve (R148). -/
def State.blockTimer (s : State) (b : Blocked) : BlockTimer :=
  let fresh : BlockTimer := ⟨b.since, sec (s.par BS_BLOCK_MAX)⟩
  match s.seq.block with
  | some t => if t.since = b.since then t else fresh
  | none => fresh

theorem blockTimer_of_kept {b : Blocked} {timer : BlockTimer} (h : s.seq.block = some timer) (hsince : timer.since = b.since) :
    s.blockTimer b = timer := by
  unfold State.blockTimer
  rw [h]
  exact if_pos hsince

theorem blockTimer_of_fresh {b : Blocked} (h : ¬ ∃ timer, s.seq.block = some timer ∧ timer.since = b.since) :
    s.blockTimer b = ⟨b.since, 10000000 * s.cfg.params[BS_BLOCK_MAX]⟩ := by
  unfold State.blockTimer
  rw [sec_eq]
  cases ht : s.seq.block with
  | none => rfl
  | some t => exact if_neg fun hsince => h ⟨t, ht, hsince⟩

theorem restoreCheck_of_waiting {b : Blocked} (hphase : s.seq.phase = .restore)
    (h : ¬ (s.queue = [] ∧ ∀ i : Fin 16, s.feeders[i].state ≠ .closing)) (hb : s.blocked = some b) : s.restoreCheck =
      if (s.blockTimer b).length ≤ s.clk - (s.blockTimer b).since then s.enterPvReturn
      else { s with seq := { s.seq with block := some (s.blockTimer b) } } := by
  refine (if_pos hphase).trans ((if_neg (mt (restoreDone_iff s).mp h)).trans ?_)
  rw [hb]
  rfl

/-- Settles O41. -/
theorem sequenceGoesOnToItsCompletion : Obligations.SequenceGoesOnToItsCompletion := by
  intro s r
  refine ⟨⟨fun h => ?_, fun hfew i hi => ?_⟩, ⟨fun h => ?_, fun i hphase horder hstate => ?_⟩,
    ⟨fun h => if_neg h, fun hphase h => ?_, fun hphase h hb => ?_, fun b hphase h hb => ⟨fun timer ht hsince => ?_, fun h' => ?_⟩⟩,
    ⟨curtailmentTask_of_not, fun hmode hphase hreached => ?_⟩⟩
  · exact h.elim lookAddSets_of_enough lookAddSets_of_none
  · dsimp only
    rw [lookAddSets_of_few hfew hi]
    exact startSet_eq (s := { s with seq := { s.seq with runOrder := some i } }) hi.1.1.1
  · unfold State.addSetsCheck
    split
    next hphase =>
      obtain h | h | ⟨i, horder, hstate⟩ := h
      · exact absurd hphase h
      · rw [h]
      · rw [horder]
        exact if_pos hstate
    · rfl
  · refine (if_pos hphase).trans ?_
    rw [horder]
    exact if_neg hstate
  · exact (if_pos hphase).trans (if_pos ((restoreDone_iff s).mpr h))
  · refine (if_pos hphase).trans ((if_neg (mt (restoreDone_iff s).mp h)).trans ?_)
    rw [hb]
  · rw [restoreCheck_of_waiting hphase h hb, blockTimer_of_kept ht hsince, hsince]
    exact ⟨fun hle => if_pos hle, fun hlt => (if_neg (Nat.not_le.mpr hlt)).trans (by rw [← ht])⟩
  · rw [restoreCheck_of_waiting hphase h hb, blockTimer_of_fresh h']
    exact ⟨fun hle => if_pos hle, fun hlt => if_neg (Nat.not_le.mpr hlt)⟩
  · have hframe := curtailmentWork_frame s r
    have hseq : (s.curtailmentWork r).seq = s.seq := hframe.seq
    have hsets : (s.curtailmentWork r).sets = s.sets := hframe.sets
    have hcfg : (s.curtailmentWork r).cfg = s.cfg := hframe.cfg
    have hm : (s.curtailmentWork r).mode = .blackstart := hframe.mode.trans hmode
    dsimp only
    rw [curtailmentTask_of_reached hmode hphase hreached, completeBlackStart_eq hm, hseq]
    generalize s.curtailmentWork r = u at hsets hcfg hm
    refine ⟨redirectAll_setsFrame _, fun hdir => ?_⟩
    rw [redirectAll_of_stand]
    · exact ⟨hsets, rfl⟩
    · intro i hi
      have := hdir i (hcfg ▸ hi)
      rw [hmode] at this
      show u.sets[i].directive = _
      rw [hsets]
      exact this

/-! ## FIRST_SET (R145, R146, R151) -/

theorem mem_firstSetCandidates_iff (s : State) (i : Fin 8) : i ∈ s.firstSetCandidates ↔ FirstSetCandidate s i := by
  rw [mem_firstSetCandidates]
  exact and_assoc

theorem capableRemains_iff (s : State) : s.capableRemains = true ↔ SomeCapableSet s := by
  simp only [State.capableRemains, List.any_eq_true, mem_capableSets, decide_eq_true_eq, and_assoc]

theorem otherOnline_none (s : State) : s.otherOnline none = true ↔ ¬ NoSetOnline s := by
  simp only [State.otherOnline, List.any_eq_true, mem_setsIn_one, SetIs, NoSetOnline]
  simp

theorem otherOnline_some (s : State) (c : Fin 8) : s.otherOnline (some c) = true ↔ ∃ i, i ≠ c ∧ SetIs s .online i := by
  simp only [State.otherOnline, List.any_eq_true, mem_setsIn_one, decide_eq_true_eq, ne_eq, Option.some.injEq, and_comm]

theorem firstSetCheck_of_left (hphase : s.seq.phase = .firstSet) (h : s.candidateCheck.seq.phase ≠ .firstSet) :
    s.firstSetCheck = s.candidateCheck := (if_pos hphase).trans (if_neg h)

theorem firstSetCheck_of_stays (hphase : s.seq.phase = .firstSet) (h : s.candidateCheck.seq.phase = .firstSet) :
    s.firstSetCheck = s.candidateCheck.formedCheck := (if_pos hphase).trans (if_pos h)

/-- The candidate stands: neither FAILED nor UNAVAILABLE. -/
theorem candidateCheck_of_stands {c : Fin 8} (hc : s.seq.candidate = some c) (hfailed : s.sets[c].state ≠ .failed)
    (hunavailable : s.sets[c].state ≠ .unavailable) : s.candidateCheck = s := by
  unfold State.candidateCheck
  rw [hc]
  exact if_neg fun h => h.elim hfailed hunavailable

/-- With no candidate, or a lost one, the sequencer looks for a first set with none named. -/
theorem candidateCheck_of_lost (h : s.seq.candidate = none ∨ ∃ c, s.seq.candidate = some c
    ∧ (s.sets[c].state = .failed ∨ s.sets[c].state = .unavailable)) :
    s.candidateCheck = { s with seq := { s.seq with candidate := none } }.lookFirstSet := by
  unfold State.candidateCheck
  obtain hnone | ⟨c, hc, hlost⟩ := h
  · rw [hnone]
    exact congrArg State.lookFirstSet (by rw [← hnone])
  · rw [hc]
    exact if_pos hlost

theorem formedCheck_of_onBus {c : Fin 8} (hc : s.seq.candidate = some c) (hvalid : s.meter.state = .valid)
    (hbus : s.reportsOnBus c = true) (hmark : s.sets[c].mark = true) : s.formedCheck = (s.setOnline c).enterAddSets := by
  unfold State.formedCheck
  rw [hc]
  exact (if_pos hvalid).trans (if_pos ⟨hbus, hmark⟩)

theorem formedCheck_of_other {c : Fin 8} (hc : s.seq.candidate = some c) (hvalid : s.meter.state = .valid)
    (hbus : s.reportsOnBus c = false) (hother : ∃ i, i ≠ c ∧ SetIs s .online i) :
    s.formedCheck = (s.clearMark c).enterAddSets := by
  have hnot : ¬ (s.reportsOnBus c = true ∧ s.sets[c].mark = true) := fun h => nomatch hbus.symm.trans h.1
  unfold State.formedCheck
  rw [hc]
  exact (if_pos hvalid).trans ((if_neg hnot).trans (if_pos ((otherOnline_some s c).mpr hother)))

/-- The bus is not formed: the meter is not VALID, or no report and no other set says so. -/
theorem formedCheck_of_waiting (h : ∀ c, s.seq.candidate = some c → s.meter.state ≠ .valid
    ∨ (s.reportsOnBus c = false ∧ ¬ ∃ i, i ≠ c ∧ SetIs s .online i)) : s.formedCheck = s := by
  unfold State.formedCheck
  cases hc : s.seq.candidate with
  | none => rfl
  | some c =>
    obtain hinvalid | ⟨hbus, hother⟩ := h c hc
    · exact if_neg hinvalid
    · have hnot : ¬ (s.reportsOnBus c = true ∧ s.sets[c].mark = true) := fun h => nomatch hbus.symm.trans h.1
      exact ite_eq_right_iff.mpr fun _ => (if_neg hnot).trans (if_neg (mt (otherOnline_some s c).mp hother))

theorem lookFirstSet_of_formed (hvalid : s.meter.state = .valid) (h : ¬ NoSetOnline s) : s.lookFirstSet = s.enterAddSets :=
  if_pos ⟨hvalid, (otherOnline_none s).mpr h⟩

theorem lookFirstSet_of_unformed (h : s.meter.state ≠ .valid ∨ NoSetOnline s) : s.lookFirstSet =
    match s.lowestPriority s.firstSetCandidates with
    | some i => { s with seq := { s.seq with candidate := some i } }.deadBusOrder i
    | none => if s.capableRemains then s else s.failBlackStart := by
  refine if_neg fun ⟨hvalid, hother⟩ => ?_
  exact h.elim (fun hinvalid => hinvalid hvalid) ((otherOnline_none s).mp hother)

/-- The state in which ADD_SETS begins (R146, R147). -/
def State.addingSets (s : State) : State :=
  { s with seq := { s.seq with phase := .addSets, candidate := none, passedOver := [], runOrder := none } }

theorem addingSets_of_frame {u : State} (h : SetsFrame s u) : u.addingSets = { s with
    sets := u.sets, txQueue := u.txQueue
    seq := { s.seq with phase := .addSets, candidate := none, passedOver := [], runOrder := none } } := by
  unfold SetsFrame at h
  conv_lhs => rw [h]
  rfl

theorem enterAddSets_eq (s : State) : s.enterAddSets = s.addingSets.lookAddSets := rfl

theorem enterAddSets_phase (s : State) : s.enterAddSets.seq.phase ≠ .firstSet := by
  obtain h | h := lookAddSets_phase s.addingSets <;> rw [enterAddSets_eq, h] <;> nofun

/-! ## The end of a sequence in OBSERVE (R151, R152) -/

/-- The state in which a sequence has ended in OBSERVE, before directives and marks follow. -/
def State.leftSequence (s : State) (failed : Bool) : State :=
  { s with
    mode := .observe, shortfall := none, surplus := none, reserveShed := none, ordering := false, forcedZero := false
    seq := { s.seq.ended failed with trigger := none } }

theorem endInObserve_eq (hmode : s.mode = .blackstart) (failed : Bool) :
    s.endInObserve failed = (s.leftSequence failed).redirectAll.clearMarks := by
  refine congrArg State.clearMarks (setMode_of_ne ?_)
  show s.mode ≠ _
  rw [hmode]
  nofun

theorem endInObserve_setsFrame (hmode : s.mode = .blackstart) (failed : Bool) :
    SetsFrame (s.leftSequence failed) (s.endInObserve failed) := by
  rw [endInObserve_eq hmode]
  exact (redirectAll_setsFrame _).trans (clearMarks_setsFrame _)

theorem startedMinRun_eq (e : SetEntry) (now : Count) :
    startedMinRun e now = if e.minRun = 0 then .elapsed else .running (now + 300000000 * e.minRun) := by
  rw [startedMinRun, runLength_eq]

theorem reportsOnBus_of_frame {u : State} (h : SetsFrame s u) (i : Fin 8) : u.reportsOnBus i = s.reportsOnBus i := by
  rw [State.reportsOnBus, State.reportsOnBus, h.setSlots]

theorem clearMark_of_offBus (hmark : s.sets[i].mark = true) (hbus : s.reportsOnBus i = false) :
    s.clearMark i = s.updateSet i SetRec.unmark := by
  refine (if_pos hmark).trans (if_neg ?_)
  rw [reportsOnBus_of_frame (updateSet_setsFrame s i _), hbus]
  nofun

theorem lookFirstSet_of_candidate (h : s.meter.state ≠ .valid ∨ NoSetOnline s) (hi : LowestPriority s (FirstSetCandidate s) i) :
    s.lookFirstSet = { s with seq := { s.seq with candidate := some i } }.deadBusOrder i := by
  rw [lookFirstSet_of_unformed h, lowestPriority_of_least (mem_firstSetCandidates_iff s) hi]

theorem lookFirstSet_of_none (h : s.meter.state ≠ .valid ∨ NoSetOnline s) (hnone : ∀ i, ¬ FirstSetCandidate s i) :
    s.lookFirstSet = if s.capableRemains then s else s.failBlackStart := by
  rw [lookFirstSet_of_unformed h, lowestPriority_of_none (mem_firstSetCandidates_iff s) hnone]

/-- The sequencer with no candidate named. -/
def State.unnamed (s : State) : State := { s with seq := { s.seq with candidate := none } }

/-- Settles O40. -/
theorem firstSetIsFormedLostOrAwaited : Obligations.FirstSetIsFormedLostOrAwaited := by
  intro s t otherOnline adding
  refine ⟨fun h => if_neg h, fun hphase hmode => ⟨fun c hc hconf hfailed hunavailable => ?_, fun hlost => ?_⟩⟩
  · have hstands := candidateCheck_of_stands hc hfailed hunavailable
    have ht : t = s.formedCheck := (firstSetCheck_of_stays hphase (by rw [hstands, hphase])).trans (by rw [hstands])
    refine ⟨fun hvalid hbus hmark => ?_, fun hvalid hbus hother hstarting hmark => ?_, fun h => ?_⟩
    · have honline := updateSet_of_configured (s := s) hconf (f := fun r => r.goOnline (startedMinRun s.cfg.roster[c] s.clk)) rfl
      refine ⟨(s.setOnline c).addingSets, ⟨ht.trans (formedCheck_of_onBus hc hvalid hbus hmark), ?_⟩,
        fun j hj => updateSet_sets_ne s hj _, ?_⟩
      · exact addingSets_of_frame (updateSet_setsFrame s c _)
      · have hrec : (s.setOnline c).sets[c] = _ := updateSet_sets_self s c fun r => r.goOnline (startedMinRun s.cfg.roster[c] s.clk)
        rw [if_pos hconf, hmode, startedMinRun_eq] at hrec
        exact hrec
    · have hclear := clearMark_of_offBus hmark hbus
      refine ⟨(s.clearMark c).addingSets, ⟨ht.trans (formedCheck_of_other hc hvalid hbus hother),
        addingSets_of_frame (clearMark_setsFrame s c)⟩, fun j hj => clearMark_sets_ne hj, ?_⟩
      have hrec := updateSet_sets_self s c SetRec.unmark
      rw [if_pos hconf, hmode] at hrec
      show (s.clearMark c).sets[c] = _
      rw [hclear, hrec]
      show SetRec.directed _ (wantedDirective .blackstart s.sets[c].state false) = _
      rw [hstarting]
      rfl
    · refine ht.trans (formedCheck_of_waiting fun c' hc' => ?_)
      obtain rfl : c = c' := Option.some.inj (hc.symm.trans hc')
      exact h
  · have hcheck : s.candidateCheck = s.unnamed.lookFirstSet := candidateCheck_of_lost hlost
    refine ⟨fun hvalid hbus => ?_, fun i hi hnone => ?_, fun hnone hbus => ⟨fun hcapable => ?_, fun hcapable => ?_⟩⟩
    · have hformed : s.unnamed.lookFirstSet = s.unnamed.enterAddSets := lookFirstSet_of_formed hvalid hbus
      refine ⟨s.unnamed.addingSets, ⟨?_, rfl⟩, rfl, rfl⟩
      rw [hformed] at hcheck
      exact (firstSetCheck_of_left hphase (hcheck ▸ enterAddSets_phase _)).trans hcheck
    · have hnamed : s.unnamed.lookFirstSet = _ := lookFirstSet_of_candidate (s := s.unnamed) (hnone.imp_right And.left) hi
      have horder := deadBusOrder_eq (s := { s.unnamed with seq := { s.unnamed.seq with candidate := some i } }) hi.1.1 hmode
      have hframe : SetsFrame { s.unnamed with seq := { s.unnamed.seq with candidate := some i } } s.candidateCheck := by
        rw [hcheck, hnamed]
        exact updateSet_setsFrame _ _ _
      have hother (j : Fin 8) (hj : j ≠ i) : s.candidateCheck.sets[j] = s.sets[j] := by
        rw [hcheck, hnamed]
        exact updateSet_sets_ne _ hj _
      have ht : t = s.candidateCheck := by
        refine (firstSetCheck_of_stays hphase (hframe.seq ▸ hphase)).trans (formedCheck_of_waiting fun c hc => ?_)
        rw [hframe.seq] at hc
        obtain rfl : i = c := Option.some.inj hc
        rw [hframe.meter, reportsOnBus_of_frame hframe]
        refine hnone.imp_right fun ⟨hoff, hbus⟩ => ⟨hbus, ?_⟩
        rintro ⟨j, hj, hrating, hon⟩
        rw [hframe.cfg] at hrating
        rw [hother j hj] at hon
        exact hoff j hrating hon
      have hd := ht.trans (hcheck.trans (hnamed.trans horder))
      rw [hd]
      rfl
    · have hstays := lookFirstSet_of_none (s := s.unnamed) (hbus.imp_right id) hnone
      rw [if_pos ((capableRemains_iff s.unnamed).mpr hcapable)] at hstays
      rw [hstays] at hcheck
      refine (firstSetCheck_of_stays hphase (hcheck ▸ hphase)).trans ?_
      rw [hcheck]
      exact formedCheck_of_waiting nofun
    · have hfails := lookFirstSet_of_none (s := s.unnamed) (hbus.imp_right id) hnone
      rw [if_neg (mt (capableRemains_iff s.unnamed).mp hcapable)] at hfails
      rw [hfails] at hcheck
      have hframe : SetsFrame (s.unnamed.leftSequence true) s.unnamed.failBlackStart := endInObserve_setsFrame (s := s.unnamed) hmode true
      have ht : t = s.unnamed.failBlackStart := by
        refine (firstSetCheck_of_left hphase ?_).trans hcheck
        rw [hcheck, hframe.seq]
        nofun
      rw [ht, hframe]
      exact ⟨rfl, rfl, rfl, rfl, rfl, rfl, rfl, rfl, rfl⟩

end Sys2Proof.Machine
end

section
/-! The Commitment Unit at a publication: the start rule (R51 to R55), the stop rule (R56 to R59) and the directives (R50). -/

namespace Sys2Proof.Machine

variable {s : State} {rec : BalanceRecord} {i : Fin 8}

/-! ## What the unit's work can change -/

/-- Only runtime records, the unit's two timers and the Transmit Queue differ. -/
def CommitmentFrame (s t : State) : Prop :=
  t = { s with sets := t.sets, shortfall := t.shortfall, surplus := t.surplus, txQueue := t.txQueue }

theorem CommitmentFrame.trans {s t u : State} (h : CommitmentFrame s t) (h' : CommitmentFrame t u) : CommitmentFrame s u := by
  unfold CommitmentFrame at *
  rw [h', h]

theorem SetsFrame.commitment {s t : State} (h : SetsFrame s t) : CommitmentFrame s t := by
  unfold CommitmentFrame SetsFrame at *
  rw [h]

theorem SetsFrame.shortfall {s t : State} (h : SetsFrame s t) : t.shortfall = s.shortfall := by rw [h]
theorem SetsFrame.surplus {s t : State} (h : SetsFrame s t) : t.surplus = s.surplus := by rw [h]

/-- One SET_DIRECTIVE for each configured set (R50). -/
def State.sendDirectives (s : State) : State := ((indices 8).filter s.setConfigured).foldl State.sendDirective s

theorem sendDirectives_sets (s : State) : s.sendDirectives.sets = s.sets :=
  foldl_value (g := State.sets) (f := State.sendDirective) (fun _ _ => rfl) _ s

theorem sendDirectives_setsFrame (s : State) : SetsFrame s s.sendDirectives :=
  .foldl (f := State.sendDirective) (fun _ _ => rfl) _ s

/-- A set's frame, as its record stands. -/
def State.directiveFrame (s : State) (i : Fin 8) : Frame :=
  .setDirective i s.cfg.roster[i].address s.sets[i].directive s.sets[i].dirSeq

theorem directiveFrame_mem_fold (l : List (Fin 8)) : ∀ s : State, i ∈ l ∨ s.directiveFrame i ∈ s.txQueue →
    s.directiveFrame i ∈ (l.foldl State.sendDirective s).txQueue := by
  induction l with
  | nil => exact fun _ h => h.resolve_left nofun
  | cons k l ih =>
    intro s h
    have hq : (s.sendDirective k).txQueue = enqueue s.txQueue (s.directiveFrame k) := rfl
    have hkept : (s.sendDirective k).directiveFrame i = s.directiveFrame i := rfl
    rw [List.foldl_cons, ← hkept]
    refine ih _ ?_
    rw [hkept, hq, mem_enqueue]
    by_cases hik : i = k
    · exact .inr (.inl (hik ▸ rfl))
    · refine h.imp (fun h => (List.mem_cons.mp h).resolve_left hik) fun hmem => .inr ⟨hmem, fun hkey => hik ?_⟩
      exact Key.setDirective.inj hkey

theorem directiveFrame_mem (h : 0 < s.cfg.roster[i].rating) : s.directiveFrame i ∈ s.sendDirectives.txQueue :=
  directiveFrame_mem_fold _ s (.inl (List.mem_filter.mpr ⟨mem_indices i, (setConfigured_iff s i).mpr h⟩))

/-! ## The start rule (R51 to R55) -/

theorem rrEff_eq (s : State) (rec : BalanceRecord) : s.rrEff rec = effectiveReserve s rec := by
  unfold State.rrEff effectiveReserve
  cases s.blocked with
  | none => rfl
  | some b => exact if_congr (parOn_iff s _) rfl rfl

theorem isShort_iff : s.isShort rec = true ↔ IslandShort s rec := by
  rw [State.isShort, rrEff_eq, decide_eq_true_eq]

theorem isDeepShort_iff : s.isDeepShort rec = true ↔ rec.sr < effectiveReserve s rec / 2 := by
  rw [State.isDeepShort, rrEff_eq, decide_eq_true_eq]

theorem startRuns_iff : s.startRuns = true ↔ StartRuleRuns s := decide_eq_true_iff

theorem reportsOnBus_iff : s.reportsOnBus i = true ↔ ∃ slot, s.setSlots[i] = some slot ∧ slot.state = .onBus := by
  unfold State.reportsOnBus
  cases s.setSlots[i] <;> simp

theorem mem_redirectable (s : State) (i : Fin 8) :
    i ∈ (s.setsIn [.stopping]).filter s.reportsOnBus ↔ MayBeRedirected s i := by
  rw [List.mem_filter, mem_setsIn_one, reportsOnBus_iff]

/-- The shortfall timer as a short publication finds or starts it (R53). -/
def State.shortfallTimer (s : State) : SpanTimer := s.shortfall.getD ⟨s.clk, 10000000 * s.cfg.params[START_DELAY]⟩

/-- A start is due: the timer has reached its length, or the shortfall is deep (R54). -/
def StartDue (s : State) (rec : BalanceRecord) : Prop :=
  s.shortfallTimer.length ≤ s.clk - s.shortfallTimer.start ∨ rec.sr < effectiveReserve s rec / 2

/-- The shortfall timer runs. -/
def State.waitingShort (s : State) : State := { s with shortfall := some s.shortfallTimer }

theorem startRule_of_not_short (h : ¬ IslandShort s rec) : s.startRule rec = ({ s with shortfall := none }, false) :=
  if_neg (mt isShort_iff.mp h)

theorem startRule_of_short (h : IslandShort s rec) : s.startRule rec =
    if s.shortfallTimer.length ≤ s.clk - s.shortfallTimer.start ∨ s.isDeepShort rec = true then
      match s.waitingShort.makeStart with
      | some s2 => (s2, true)
      | none => (s.waitingShort, false)
    else (s.waitingShort, false) := by
  refine (if_pos (isShort_iff.mpr h)).trans ?_
  unfold State.waitingShort State.shortfallTimer
  rw [sec_eq]
  rfl

theorem startRule_of_not_due (h : IslandShort s rec) (hdue : ¬ StartDue s rec) : s.startRule rec = (s.waitingShort, false) := by
  rw [startRule_of_short h]
  exact if_neg (mt (Or.imp_right isDeepShort_iff.mp) hdue)

theorem startRule_of_due (h : IslandShort s rec) (hdue : StartDue s rec) : s.startRule rec =
    match s.waitingShort.makeStart with
    | some s2 => (s2, true)
    | none => (s.waitingShort, false) := by
  rw [startRule_of_short h]
  exact if_pos (Or.imp_right isDeepShort_iff.mpr hdue)

theorem makeStart_of_redirect (h : LowestPriority s (MayBeRedirected s) i) :
    s.makeStart = some ({ s with shortfall := none }.updateSet i fun r => r.goOnline .elapsed) := by
  unfold State.makeStart
  rw [State.redirectCandidate, lowestPriority_of_least (mem_redirectable s) h]

theorem makeStart_of_start (hno : ∀ i, ¬ MayBeRedirected s i) (hfew : countSets s .starting < 2)
    (h : LowestPriority s (SetIs s .stopped) i) : s.makeStart = some ({ s with shortfall := none }.startSet i) := by
  unfold State.makeStart
  rw [State.redirectCandidate, lowestPriority_of_none (mem_redirectable s) hno, State.startCandidate,
    if_pos (setsIn_length s .starting ▸ hfew), lowestPriority_of_least (fun _ => mem_setsIn_one) h]

theorem makeStart_of_none (hno : ∀ i, ¬ MayBeRedirected s i)
    (h : 2 ≤ countSets s .starting ∨ ∀ i, ¬ SetIs s .stopped i) : s.makeStart = none := by
  unfold State.makeStart
  rw [State.redirectCandidate, lowestPriority_of_none (mem_redirectable s) hno, State.startCandidate, setsIn_length]
  obtain h | h := h
  · rw [if_neg (Nat.not_lt.mpr h)]
  · rw [lowestPriority_of_none (fun _ => mem_setsIn_one) h, ite_self]

/-- What the start rule has made: nothing, a timer, or one start. -/
theorem startRule_cases (s : State) (rec : BalanceRecord) :
    (s.startRule rec).2 = false ∧ (∃ timer, (s.startRule rec).1 = { s with shortfall := timer })
      ∨ ∃ i f, (s.startRule rec).1 = { s with shortfall := none }.updateSet i f
          ∧ ((f s.sets[i]).state = .online ∨ (f s.sets[i]).state = .starting) := by
  by_cases h : IslandShort s rec
  · by_cases hdue : StartDue s rec
    · rw [startRule_of_due h hdue]
      cases hmake : s.waitingShort.makeStart with
      | none => exact .inl ⟨rfl, _, rfl⟩
      | some t =>
        unfold State.makeStart at hmake
        split at hmake
        next i hi => exact .inr ⟨i, _, (Option.some.inj hmake).symm, .inl rfl⟩
        next =>
          split at hmake
          next i hi => exact .inr ⟨i, _, (Option.some.inj hmake).symm, .inr rfl⟩
          next => exact nomatch hmake
    · rw [startRule_of_not_due h hdue]
      exact .inl ⟨rfl, _, rfl⟩
  · rw [startRule_of_not_short h]
    exact .inl ⟨rfl, _, rfl⟩

theorem startRule_frame (s : State) (rec : BalanceRecord) : CommitmentFrame s (s.startRule rec).1 := by
  obtain ⟨-, timer, h⟩ | ⟨i, f, h, -⟩ := startRule_cases s rec <;> rw [h]
  · rfl
  · exact .trans (t := { s with shortfall := none }) rfl (updateSet_setsFrame _ i f).commitment

/-- The start rule puts no set into STOPPING. -/
theorem startRule_stopping {j : Fin 8} (hj : (s.startRule rec).1.sets[j].state = .stopping) : s.sets[j].state = .stopping := by
  obtain ⟨-, timer, h⟩ | ⟨i, f, h, hstate⟩ := startRule_cases s rec <;> rw [h] at hj
  · exact hj
  · by_cases hij : j = i
    · subst hij
      rw [updateSet_sets_self, apply_ite SetRec.state, directed_state, ite_self] at hj
      rw [hj] at hstate
      exact hstate.elim nofun nofun
    · rwa [updateSet_sets_ne _ hij] at hj

/-! ## The stop rule (R56 to R59) -/

theorem foldl_max_le {l : List Nat} {n : Nat} : l.foldl max 0 ≤ n ↔ ∀ x ∈ l, x ≤ n := by
  obtain ⟨-, hall, hmem⟩ := foldl_max_spec (l := l) 0
  refine ⟨fun h x hx => (hall x hx).trans h, fun h => ?_⟩
  obtain hzero | hmem := List.mem_cons.mp hmem
  · omega
  · exact h _ hmem

/-- A bound that grows with the rating holds for the largest rating exactly when it holds for each. -/
theorem bound_foldl_max {l : List Nat} (hl : l ≠ []) {f : Nat → Nat} (hf : Monotone f) {n : Nat} :
    f (l.foldl max 0) ≤ n ↔ ∀ x ∈ l, f x ≤ n :=
  ⟨fun h x hx => (hf ((foldl_max_spec 0).2.1 x hx)).trans h, fun h => h _ (foldl_max_zero_mem hl)⟩

theorem mem_othersOnline {c k : Fin 8} :
    k ∈ (s.setsIn [.online]).filter (fun i => decide (i ≠ c)) ↔ SetIs s .online k ∧ k ≠ c := by
  rw [List.mem_filter, mem_setsIn_one, decide_eq_true_eq]

theorem othersOnline_length {c : Fin 8} (hc : SetIs s .online c) :
    ((s.setsIn [.online]).filter fun i => decide (i ≠ c)).length + 1 = countSets s .online := by
  have hnodup : (s.setsIn [.online]).Nodup := indices_nodup.filter _
  have herase : ((s.setsIn [.online]).filter fun i => decide (i ≠ c)) = (s.setsIn [.online]).erase c := by
    rw [hnodup.erase_eq_filter]
    exact List.filter_congr fun i _ => Bool.eq_iff_iff.mpr (by simp)
  have hpos := List.length_pos_of_mem (mem_setsIn_one.mpr hc)
  rw [herase, List.length_erase_of_mem (mem_setsIn_one.mpr hc), ← setsIn_length]
  omega

/-- The projected reserve of R57 leaves room exactly when each of its terms does. -/
theorem hasSurplus_iff {c : Fin 8} (hc : SetIs s .online c) : s.hasSurplus rec c = true ↔ HasSurplus s rec c := by
  have hcount := othersOnline_length hc
  unfold State.hasSurplus HasSurplus
  rw [decide_eq_true_eq]
  refine and_congr_right fun _ => ?_
  dsimp only [State.par]
  simp only [show ∀ a, (a + 99) / 100 = ceilDiv a 100 from fun _ => rfl]
  generalize rec.cOn - s.cfg.roster[c].rating = cOn
  generalize hrest : ((s.setsIn [.online]).filter fun i => decide (i ≠ c)) = rest at hcount ⊢
  rw [max_add, max_add, max_le_iff]
  refine and_congr_right fun hroom => ?_
  generalize rec.l - min rec.a (rec.l - ceilDiv (cOn * s.cfg.params[MINLOAD]) 100) = d at hroom ⊢
  by_cases hcover : s.parOn N1_COVER = true ∧ 2 ≤ rest.length
  · have hne : rest.map (fun i => s.cfg.roster[i].rating) ≠ [] := by
      intro hnil
      rw [List.map_eq_nil_iff.mp hnil] at hcover
      exact absurd hcover.2 (by decide)
    have hmono : Monotone fun x => ceilDiv (d * x) cOn + s.cfg.params[RES_MARGIN] + s.cfg.params[STOP_HYST] := by
      intro x y hxy
      have := Nat.mul_le_mul_left d hxy
      have : ceilDiv (d * x) cOn ≤ ceilDiv (d * y) cOn := Nat.div_le_div_right (Nat.add_le_add_right this _)
      dsimp only
      omega
    rw [if_pos hcover, bound_foldl_max hne hmono, List.forall_mem_map, ← hrest]
    simp only [mem_othersOnline, and_imp]
    exact ⟨fun h _ _ => h, fun h => h ((parOn_iff s _).mp hcover.1) (by omega)⟩
  · rw [if_neg hcover]
    rw [parOn_iff] at hcover
    exact iff_of_true (by omega) fun hone hthree => absurd ⟨hone, by omega⟩ hcover

theorem staleMark_eq_false : rec.staleMark i = false ↔ ∀ e ∈ rec.sets, e.index = i → e.stale = false := by
  simp only [BalanceRecord.staleMark, List.any_eq_false, Bool.and_eq_true, decide_eq_true_eq, not_and, Bool.not_eq_true]

theorem mem_stoppable (s : State) (rec : BalanceRecord) (i : Fin 8) : i ∈ (s.setsIn [.online]).filter (fun i =>
    !rec.staleMark i && !s.sets[i].stale && decide (s.sets[i].minRun = .elapsed)) ↔ MayBeStopped s rec i := by
  rw [List.mem_filter, mem_setsIn_one, Bool.and_eq_true, Bool.and_eq_true, Bool.not_eq_true', Bool.not_eq_true',
    decide_eq_true_eq, staleMark_eq_false]
  exact and_congr_right fun _ => and_assoc

theorem stopAllowed_iff : s.stopAllowed = true ↔ (∀ i, ¬ SetIs s .starting i ∧ ¬ SetIs s .stopping i) ∧ s.queue = []
    ∧ 2 ≤ countSets s .online := by
  rw [State.stopAllowed, Bool.and_eq_true, Bool.and_eq_true, setsIn_length, decide_eq_true_eq, List.isEmpty_iff, List.isEmpty_iff,
    List.eq_nil_iff_forall_not_mem, and_assoc]
  refine and_congr_left fun _ => forall_congr' fun i => ?_
  rw [mem_setsIn, List.mem_cons, List.mem_singleton, and_or_left, not_or]

/-- A candidate of the stop rule may be stopped, and an ONLINE set alone. -/
theorem stopCandidate_spec {c : Fin 8} (h : s.stopCandidate rec = some c) : MayBeStopped s rec c :=
  (mem_stoppable s rec c).mp (greatestBy_mem _ h)

theorem stopRule_of_none (h : ∀ c, ¬ MayBeStopped s rec c) : s.stopRule rec = { s with surplus := none } := by
  have hnone : s.stopCandidate rec = none :=
    greatestBy_eq_none.mpr (List.eq_nil_iff_forall_not_mem.mpr fun j hj => h j ((mem_stoppable s rec j).mp hj))
  unfold State.stopRule
  rw [hnone]

section Candidate

variable {c : Fin 8} (hcand : s.stopCandidate rec = some c)
include hcand

theorem stopRule_of_no_surplus (h : ¬ HasSurplus s rec c) : s.stopRule rec = { s with surplus := none } := by
  unfold State.stopRule
  rw [hcand]
  exact if_neg (mt (hasSurplus_iff (stopCandidate_spec hcand).1).mp h)

theorem stopRule_of_surplus (h : HasSurplus s rec c) : s.stopRule rec = match s.surplus with
    | some t => if t.candidate = c then if t.length ≤ s.clk - t.start then s.stopSet c else s
        else { s with surplus := some ⟨s.clk, sec (s.par STOP_DELAY), c⟩ }
    | none => { s with surplus := some ⟨s.clk, sec (s.par STOP_DELAY), c⟩ } := by
  unfold State.stopRule
  rw [hcand]
  exact if_pos ((hasSurplus_iff (stopCandidate_spec hcand).1).mpr h)

theorem stopRule_of_timer {timer : SurplusTimer} (h : HasSurplus s rec c) (ht : s.surplus = some timer)
    (htimer : timer.candidate = c) :
    s.stopRule rec = if timer.length ≤ s.clk - timer.start then s.stopSet c else s := by
  rw [stopRule_of_surplus hcand h, ht]
  exact if_pos htimer

theorem stopRule_of_other (h : HasSurplus s rec c) (ht : ∀ timer, s.surplus = some timer → timer.candidate ≠ c) :
    s.stopRule rec = { s with surplus := some ⟨s.clk, 10000000 * s.cfg.params[STOP_DELAY], c⟩ } := by
  rw [stopRule_of_surplus hcand h, sec_eq]
  cases hs : s.surplus with
  | none => rfl
  | some timer => exact if_neg (ht timer hs)

end Candidate

/-- The stop of the candidate (R59). -/
theorem stopSet_self {c : Fin 8} (hc : SetIs s .online c) (hmode : s.mode = .dispatch) :
    (s.stopSet c).sets[c] = SetRec.directed { s.sets[c] with
      state := .stopping, minRun := .absent, stale := false
      stopTimer := some (s.clk + 50000000 * s.cfg.roster[c].startTimeout) }
      (wantedDirective .dispatch .stopping s.sets[c].mark) := by
  refine (updateSet_sets_self _ c _).trans ((if_pos hc.1).trans ?_)
  unfold SetRec.goStopping
  rw [startLength_eq, ← hmode]

/-- The record a start makes (R55). -/
theorem startSet_self (h : 0 < s.cfg.roster[i].rating) : (s.startSet i).sets[i] = startedSet s i := by
  refine (updateSet_sets_self _ i _).trans ((if_pos h).trans ?_)
  unfold SetRec.goStarting startedSet
  rw [startLength_eq]

/-- What the stop rule has made: a timer, or the stop of its candidate. -/
theorem stopRule_cases (s : State) (rec : BalanceRecord) : (∃ timer, s.stopRule rec = { s with surplus := timer })
    ∨ ∃ c, MayBeStopped s rec c ∧ HasSurplus s rec c ∧ s.stopRule rec = s.stopSet c := by
  cases hcand : s.stopCandidate rec with
  | none =>
    refine .inl ⟨none, ?_⟩
    unfold State.stopRule
    rw [hcand]
  | some c =>
    by_cases h : HasSurplus s rec c
    · by_cases ht : ∀ timer, s.surplus = some timer → timer.candidate ≠ c
      · exact .inl ⟨_, stopRule_of_other hcand h ht⟩
      · push Not at ht
        obtain ⟨timer, hs, htimer⟩ := ht
        rw [stopRule_of_timer hcand h hs htimer]
        split
        · exact .inr ⟨c, stopCandidate_spec hcand, h, rfl⟩
        · exact .inl ⟨s.surplus, rfl⟩
    · exact .inl ⟨none, stopRule_of_no_surplus hcand h⟩

theorem stopRule_frame (s : State) (rec : BalanceRecord) :
    CommitmentFrame s (s.stopRule rec) ∧ (s.stopRule rec).shortfall = s.shortfall := by
  obtain ⟨timer, h⟩ | ⟨c, -, -, h⟩ := stopRule_cases s rec <;> rw [h]
  · exact ⟨rfl, rfl⟩
  · have hframe : SetsFrame { s with surplus := none } (s.stopSet c) := updateSet_setsFrame _ c _
    exact ⟨.trans (t := { s with surplus := none }) rfl hframe.commitment, hframe.shortfall⟩

/-! ## The unit's work (R50, R51, R56) -/

/-- The start rule's part of the work, with the flag of a start made. -/
def State.startPart (s : State) (rec : BalanceRecord) : State × Bool :=
  if s.startRuns then s.startRule rec else ({ s with shortfall := none }, false)

/-- The work before the frames. -/
def State.bothParts (s : State) (rec : BalanceRecord) : State :=
  if s.mode = .dispatch ∧ s.isShort rec = false ∧ (s.startPart rec).2 = false ∧ (s.startPart rec).1.stopAllowed = true then
    (s.startPart rec).1.stopRule rec
  else { (s.startPart rec).1 with surplus := none }

theorem commitmentTask_eq (s : State) (rec : BalanceRecord) : s.commitmentTask rec = (s.bothParts rec).sendDirectives := rfl

theorem startPart_of_runs (h : StartRuleRuns s) : s.startPart rec = s.startRule rec := if_pos (startRuns_iff.mpr h)

theorem startPart_of_not (h : ¬ StartRuleRuns s) : s.startPart rec = ({ s with shortfall := none }, false) :=
  if_neg (mt startRuns_iff.mp h)

theorem startPart_of_not_short (h : ¬ IslandShort s rec) : s.startPart rec = ({ s with shortfall := none }, false) := by
  by_cases hruns : StartRuleRuns s
  · rw [startPart_of_runs hruns, startRule_of_not_short h]
  · exact startPart_of_not hruns

theorem bothParts_of_runs (h : StopRuleRuns s rec) : s.bothParts rec = { s with shortfall := none }.stopRule rec := by
  obtain ⟨hmode, hsets, hqueue, honline, hshort⟩ := h
  unfold State.bothParts
  rw [startPart_of_not_short hshort]
  exact if_pos ⟨hmode, Bool.not_eq_true _ ▸ mt isShort_iff.mp hshort, rfl,
    stopAllowed_iff (s := { s with shortfall := none }) |>.mpr ⟨hsets, hqueue, honline⟩⟩

theorem bothParts_of_not (h : ¬ StopRuleRuns s rec) : s.bothParts rec = { (s.startPart rec).1 with surplus := none } := by
  refine if_neg fun ⟨hmode, hshort, hmade, hallowed⟩ => h ?_
  have hshort : ¬ IslandShort s rec := fun hs => nomatch hshort.symm.trans (isShort_iff.mpr hs)
  rw [startPart_of_not_short hshort] at hallowed
  obtain ⟨hsets, hqueue, honline⟩ := stopAllowed_iff.mp hallowed
  exact ⟨hmode, hsets, hqueue, honline, hshort⟩

theorem startPart_frame (s : State) (rec : BalanceRecord) : CommitmentFrame s (s.startPart rec).1 := by
  unfold State.startPart
  split
  · exact startRule_frame s rec
  · rfl

theorem bothParts_frame (s : State) (rec : BalanceRecord) : CommitmentFrame s (s.bothParts rec) := by
  by_cases h : StopRuleRuns s rec
  · rw [bothParts_of_runs h]
    exact .trans (t := { s with shortfall := none }) rfl (stopRule_frame _ rec).1
  · rw [bothParts_of_not h]
    exact (startPart_frame s rec).trans rfl

theorem commitmentTask_sets (s : State) (rec : BalanceRecord) : (s.commitmentTask rec).sets = (s.bothParts rec).sets :=
  sendDirectives_sets _

theorem commitmentTask_shortfall (s : State) (rec : BalanceRecord) :
    (s.commitmentTask rec).shortfall = (s.bothParts rec).shortfall := (sendDirectives_setsFrame _).shortfall

theorem commitmentTask_surplus (s : State) (rec : BalanceRecord) :
    (s.commitmentTask rec).surplus = (s.bothParts rec).surplus := (sendDirectives_setsFrame _).surplus

theorem commitmentTask_frame (s : State) (rec : BalanceRecord) : CommitmentFrame s (s.commitmentTask rec) :=
  (bothParts_frame s rec).trans (sendDirectives_setsFrame _).commitment

theorem CommitmentFrame.cfg {s t : State} (h : CommitmentFrame s t) : t.cfg = s.cfg := by rw [h]

/-- A short island leaves no surplus timer, and what the start rule has made (R54 to R56). -/
theorem bothParts_of_short (hruns : StartRuleRuns s) (h : IslandShort s rec) :
    s.bothParts rec = { (s.startRule rec).1 with surplus := none } := by
  rw [bothParts_of_not fun hstop => hstop.2.2.2.2 h, startPart_of_runs hruns]

/-- The part that moves a set: only that set's record differs, as the move makes it. -/
theorem updateSet_moves (s : State) (i : Fin 8) (f : SetRec → SetRec) : (∀ j, j ≠ i → (s.updateSet i f).sets[j] = s.sets[j])
    ∧ (0 < s.cfg.roster[i].rating → (s.updateSet i f).sets[i] =
      (f s.sets[i]).directed (wantedDirective s.mode (f s.sets[i]).state (f s.sets[i]).mark)) :=
  ⟨fun _ hj => updateSet_sets_ne s hj f, fun hconf => (updateSet_sets_self s i f).trans (if_pos hconf)⟩

theorem wantedDirective_run {mode : Mode} {state : SetState} (hmode : mode ≠ .observe) (h : state = .starting ∨ state = .online) :
    wantedDirective mode state false = .run := (if_neg hmode).trans ((if_neg nofun).trans (if_pos h))

/-- Settles O45. -/
theorem startRuleStartsOneSetWhenShort : Obligations.StartRuleStartsOneSetWhenShort := by
  intro s r
  have hcfg := (bothParts_frame s r).cfg
  refine ⟨commitmentTask_frame s r, fun i hi => ?_, fun hruns hshort => ?_, fun h => ?_, fun h => ?_⟩
  · have hmem := directiveFrame_mem (s := s.bothParts r) (hcfg ▸ hi)
    rw [State.directiveFrame, hcfg] at hmem
    rwa [commitmentTask_sets]
  · rw [commitmentTask_surplus, commitmentTask_shortfall, commitmentTask_sets, bothParts_of_short hruns hshort]
    have hmode : s.mode ≠ .observe := by
      obtain h | ⟨h, -⟩ := hruns <;> rw [h] <;> nofun
    refine ⟨rfl, fun hdue i hi => ?_, fun hdue hno hfew i hi => ?_, fun h => ?_⟩
    · rw [startRule_of_due hshort hdue, makeStart_of_redirect (s := s.waitingShort) hi]
      have hmoves := updateSet_moves { s.waitingShort with shortfall := none } i fun r => r.goOnline .elapsed
      refine ⟨(updateSet_setsFrame _ i _).shortfall, hmoves.1, (hmoves.2 hi.1.1.1).trans ?_⟩
      exact congrArg _ (wantedDirective_run hmode (.inr rfl))
    · rw [startRule_of_due hshort hdue, makeStart_of_start (s := s.waitingShort) hno hfew hi]
      refine ⟨(updateSet_setsFrame _ i _).shortfall, fun j hj => updateSet_sets_ne _ hj _, ?_⟩
      exact startSet_self (s := { s.waitingShort with shortfall := none }) hi.1.1
    · obtain h | ⟨hno, h⟩ := h
      · rw [startRule_of_not_due hshort h]
        exact ⟨rfl, rfl⟩
      · by_cases hdue : StartDue s r
        · rw [startRule_of_due hshort hdue, makeStart_of_none (s := s.waitingShort) hno h]
          exact ⟨rfl, rfl⟩
        · rw [startRule_of_not_due hshort hdue]
          exact ⟨rfl, rfl⟩
  · rw [commitmentTask_shortfall]
    by_cases hstop : StopRuleRuns s r
    · rw [bothParts_of_runs hstop]
      exact (stopRule_frame _ r).2
    · rw [bothParts_of_not hstop]
      obtain h | h := h
      · rw [startPart_of_not h]
      · rw [startPart_of_not_short h]
  · have hstop : ¬ StopRuleRuns s r := fun hstop => h (.inl hstop.1)
    rw [commitmentTask_surplus, commitmentTask_sets, bothParts_of_not hstop, startPart_of_not h]
    exact ⟨rfl, rfl⟩

/-- Settles O46. -/
theorem stopRuleStopsTheCandidateWithASurplus : Obligations.StopRuleStopsTheCandidateWithASurplus := by
  intro s r
  dsimp only
  rw [commitmentTask_surplus, commitmentTask_sets]
  let u : State := { s with shortfall := none }
  refine ⟨fun hruns c hc => ?_, fun hruns hnone => ?_, fun hruns => ?_, fun i hi hstopping => ?_⟩
  · have hcand : u.stopCandidate r = some c := highestPriority_of_greatest (mem_stoppable u r) hc
    rw [bothParts_of_runs hruns]
    refine ⟨fun hsurplus => ⟨fun timer ht htimer hdue => ?_, fun timer ht htimer hdue => ?_, fun hother => ?_⟩, fun hsurplus => ?_⟩
    · rw [stopRule_of_timer hcand hsurplus ht htimer, if_pos hdue]
      refine ⟨(updateSet_setsFrame _ c _).surplus, fun j hj => updateSet_sets_ne _ hj _, ?_⟩
      exact stopSet_self (s := u) hc.1.1 hruns.1
    · rw [stopRule_of_timer hcand hsurplus ht htimer, if_neg (Nat.not_le.mpr hdue)]
      exact ⟨ht, rfl⟩
    · rw [stopRule_of_other hcand hsurplus hother]
      exact ⟨rfl, rfl⟩
    · rw [stopRule_of_no_surplus hcand hsurplus]
      exact ⟨rfl, rfl⟩
  · rw [bothParts_of_runs hruns, stopRule_of_none (s := u) hnone]
    exact ⟨rfl, rfl⟩
  · rw [bothParts_of_not hruns]
  · by_cases hruns : StopRuleRuns s r
    · rw [bothParts_of_runs hruns] at hstopping
      obtain ⟨timer, h⟩ | ⟨c, hmay, hsurplus, h⟩ := stopRule_cases u r <;> rw [h] at hstopping
      · exact nomatch hi.2.symm.trans hstopping
      · by_cases hic : i = c
        · exact hic ▸ ⟨hruns, hmay, hsurplus⟩
        · have hsame : (u.stopSet c).sets[i] = s.sets[i] := updateSet_sets_ne _ hic _
          rw [hsame] at hstopping
          exact nomatch hi.2.symm.trans hstopping
    · rw [bothParts_of_not hruns] at hstopping
      have hbefore : s.sets[i].state = .stopping := by
        by_cases hstart : StartRuleRuns s
        · rw [startPart_of_runs hstart] at hstopping
          exact startRule_stopping hstopping
        · rw [startPart_of_not hstart] at hstopping
          exact hstopping
      exact nomatch hi.2.symm.trans hbefore

end Sys2Proof.Machine
end

section
/-! Received frames and the commands they spell (R183, R188). -/

namespace Sys2Proof.Machine

variable {rx : Rx} {kind : BitVec 5} {code : Byte} {data arguments : List Byte} {c : Instr}

/-! ## Identifiers and words -/

theorem append_toNat {m n : Nat} (a : BitVec m) (b : BitVec n) : (a ++ b).toNat = 2 ^ n * a.toNat + b.toNat := by
  rw [BitVec.toNat_append, Nat.shiftLeft_eq, Nat.mul_comm, Nat.two_pow_add_eq_or_of_lt b.isLt]

theorem kindOf_append (kind : BitVec 5) (src : BitVec 6) : kindOf (kind ++ src) = kind := by
  refine BitVec.eq_of_toNat_eq ?_
  rw [kindOf, BitVec.extractLsb'_toNat, Nat.shiftRight_eq_div_pow, append_toNat (m := 5) (n := 6)]
  omega

theorem sourceOf_append (kind : BitVec 5) (src : BitVec 6) : sourceOf (kind ++ src) = src := by
  refine BitVec.eq_of_toNat_eq ?_
  rw [sourceOf, BitVec.extractLsb'_toNat, Nat.shiftRight_zero, append_toNat (m := 5) (n := 6)]
  omega

theorem wordOf_toNat (hi lo : Byte) : (wordOf hi lo).toNat = 256 * hi.toNat + lo.toNat := append_toNat (m := 8) (n := 8) hi lo

theorem be16_wordOf (hi lo : Byte) : be16 (wordOf hi lo).toNat = [hi, lo] := by
  rw [wordOf_toNat, be16]
  congr 1
  · refine BitVec.eq_of_toNat_eq ?_
    rw [BitVec.toNat_ofNat]
    omega
  · congr 1
    refine BitVec.eq_of_toNat_eq ?_
    rw [BitVec.toNat_ofNat]
    omega

/-- The two bytes of a word spell it. -/
theorem wordOf_be16 (w : BitVec 16) : wordOf (BitVec.ofNat 8 (w.toNat / 256)) (BitVec.ofNat 8 w.toNat) = w := by
  refine BitVec.eq_of_toNat_eq ?_
  rw [wordOf_toNat, BitVec.toNat_ofNat, BitVec.toNat_ofNat]
  omega

/-! ## What a command spelled by a frame is -/

/-- `c` is a well-formed command that arrives as this frame. -/
structure Spells (rx : Rx) (kind : BitVec 5) (data : List Byte) (c : Instr) : Prop where
  wf : c.wf = true
  rx : c.rx? = some rx
  frame : c.frame? = some (kind, data)

theorem requestCodeKnown_iff : requestCodeKnown code = true ↔ 1 ≤ code.toNat ∧ code.toNat ≤ 20 := decide_eq_true_iff

theorem byte_of_toNat {n : Nat} (h : code.toNat = n) : code = BitVec.ofNat 8 n := by
  subst h
  rw [BitVec.ofNat_toNat, BitVec.setWidth_eq]

theorem kind_of_toNat {n : Nat} (h : kind.toNat = n) : kind = BitVec.ofNat 5 n := by
  subst h
  rw [BitVec.ofNat_toNat, BitVec.setWidth_eq]

theorem requestArguments_of_unknown (h : requestCodeKnown code = false) : requestArguments code = 0 := by
  unfold requestArguments
  split
  case h_10 => rfl
  all_goals
    rename_i hcode
    rw [byte_of_toNat hcode] at h
    exact nomatch h

/-- A request's command spells its frame, and its frame has the arguments of its code. -/
theorem decodeRequest_spells (h : decodeRequest rx code arguments = some c) :
    Spells rx 0x0A (code :: arguments) c ∧ arguments.length = requestArguments code := by
  unfold decodeRequest at h
  split at h
  case h_11 hcode =>
    obtain rfl := Option.some.inj h
    obtain rfl := byte_of_toNat hcode
    exact ⟨⟨rfl, rfl, congrArg (fun bytes => some (0x0A#5, 0x0B#8 :: _ :: bytes)) (be16_wordOf _ _)⟩, rfl⟩
  case h_15 argument hcode =>
    obtain rfl := Option.some.inj h
    obtain rfl := byte_of_toNat hcode
    split
    next hone =>
      obtain rfl := byte_of_toNat hone
      exact ⟨⟨rfl, rfl, rfl⟩, rfl⟩
    next hother => exact ⟨⟨decide_eq_true hother, rfl, rfl⟩, rfl⟩
  case h_21 =>
    split at h
    next => exact nomatch h
    next hunknown =>
      obtain rfl := Option.some.inj h
      have hunknown := Bool.eq_false_iff.mpr hunknown
      exact ⟨⟨congrArg not hunknown, rfl, rfl⟩, (requestArguments_of_unknown hunknown).symm⟩
  case h_22 => exact nomatch h
  all_goals
    rename_i hcode
    obtain rfl := Option.some.inj h
    obtain rfl := byte_of_toNat hcode
    exact ⟨⟨rfl, rfl, rfl⟩, rfl⟩

theorem decodeRequest_of_unknown (h : requestCodeKnown code = false) :
    decodeRequest rx code [] = some (.unknownRequestCode rx code) := by
  unfold decodeRequest
  split
  case h_21 => exact if_neg (Bool.eq_false_iff.mp h)
  case h_22 => exact (‹([] : List Byte) = [] → False› rfl).elim
  all_goals
    rename_i hcode _
    rw [byte_of_toNat hcode] at h
    exact nomatch h

/-- A request with the arguments of its code has a command. -/
theorem decodeRequest_of_length (h : arguments.length = requestArguments code) :
    (decodeRequest rx code arguments).isSome = true := by
  unfold requestArguments at h
  split at h
  case h_8 hcode | h_9 hcode =>
    obtain rfl := byte_of_toNat hcode
    obtain ⟨x, y, z, rfl⟩ := List.length_eq_three.mp h
    rfl
  case h_10 =>
    obtain rfl := List.eq_nil_of_length_eq_zero h
    unfold decodeRequest
    split
    case h_21 =>
      rw [if_neg]
      · rfl
      · rw [requestCodeKnown_iff]
        simp only [imp_false] at *
        omega
    case h_22 => exact (‹([] : List Byte) = [] → False› rfl).elim
    all_goals rfl
  all_goals
    rename_i hcode
    obtain rfl := byte_of_toNat hcode
    obtain ⟨x, rfl⟩ := List.length_eq_one_iff.mp h
    rfl

/-- A frame's command spells it, and it fits its row. -/
theorem decodeData_spells (h : decodeData rx kind data = some c) : Spells rx kind data c ∧ frameFits kind data = true := by
  unfold decodeData at h
  split at h
  case h_1 code hi lo hkind =>
    obtain rfl := kind_of_toNat hkind
    split at h
    next hcode =>
      obtain rfl := Option.some.inj h
      exact ⟨⟨hcode, rfl, congrArg (fun bytes => some (0x08#5, _ :: bytes)) (be16_wordOf _ _)⟩, hcode⟩
    next => exact nomatch h
  case h_2 h1 l1 h2 l2 hkind =>
    obtain rfl := kind_of_toNat hkind
    obtain rfl := Option.some.inj h
    exact ⟨⟨rfl, rfl, congrArg₂ (fun first second => some (0x09#5, first ++ second)) (be16_wordOf _ _) (be16_wordOf _ _)⟩, rfl⟩
  case h_3 code arguments hkind =>
    obtain rfl := kind_of_toNat hkind
    obtain ⟨hspells, hlength⟩ := decodeRequest_spells h
    exact ⟨hspells, decide_eq_true hlength⟩
  case h_4 hkind =>
    obtain rfl := kind_of_toNat hkind
    split at h
    next hlength =>
      obtain rfl := Option.some.inj h
      exact ⟨⟨hlength, rfl, rfl⟩, hlength⟩
    next => exact nomatch h
  case h_5 => exact nomatch h

theorem decodeData_of_fits (h : frameFits kind data = true) : (decodeData rx kind data).isSome = true := by
  unfold frameFits at h
  split at h
  case h_1 code hi lo hkind =>
    obtain rfl := kind_of_toNat hkind
    exact congrArg Option.isSome (if_pos h)
  case h_2 hkind =>
    obtain rfl := kind_of_toNat hkind
    rfl
  case h_3 hkind =>
    obtain rfl := kind_of_toNat hkind
    exact decodeRequest_of_length (of_decide_eq_true h)
  case h_4 hkind =>
    obtain rfl := kind_of_toNat hkind
    exact congrArg Option.isSome (if_pos h)
  case h_5 => exact nomatch h

/-- Every frame of at most eight data bytes is one well-formed command. -/
theorem decodeFrame_spells (hlength : data.length ≤ 8) :
    Spells rx kind data (decodeFrame rx.dt rx.lane (kind ++ rx.src) data) := by
  unfold decodeFrame
  rw [kindOf_append, sourceOf_append]
  cases hdata : decodeData rx kind data with
  | some c => exact (congrArg (fun o => Spells rx kind data (Option.getD o _)) hdata).mpr (decodeData_spells hdata).1
  | none =>
    have hfits : frameFits kind data = false := by
      rw [← Bool.not_eq_true]
      intro h
      have := decodeData_of_fits (rx := rx) h
      rw [hdata] at this
      exact nomatch this
    refine (congrArg (fun o => Spells rx kind data (Option.getD o _)) hdata).mpr ⟨?_, rfl, rfl⟩
    show (decide (data.length ≤ 8) && !frameFits kind data) = true
    rw [hfits, decide_eq_true hlength]
    rfl

/-- A command is what its own frame spells. -/
theorem decodeData_of_spells (h : Spells rx kind data c) :
    (decodeData rx kind data).getD (.frameOfOtherKind rx kind data) = c := by
  obtain ⟨hwf, hrx, hframe⟩ := h
  cases c with
  | setReport rx' code output =>
    obtain rfl := Option.some.inj hrx
    obtain ⟨rfl, rfl⟩ := Prod.mk.inj (Option.some.inj hframe)
    refine (congrArg (Option.getD · _) (if_pos hwf)).trans ?_
    rw [wordOf_be16]
    rfl
  | pvReport rx' output available =>
    obtain rfl := Option.some.inj hrx
    obtain ⟨rfl, rfl⟩ := Prod.mk.inj (Option.some.inj hframe)
    exact congrArg₂ (Instr.pvReport rx') (wordOf_be16 output) (wordOf_be16 available)
  | entryData rx' bytes =>
    obtain rfl := Option.some.inj hrx
    obtain ⟨rfl, rfl⟩ := Prod.mk.inj (Option.some.inj hframe)
    exact congrArg (Option.getD · _) (if_pos hwf)
  | frameOfOtherKind rx' kind' bytes =>
    obtain rfl := Option.some.inj hrx
    obtain ⟨rfl, rfl⟩ := Prod.mk.inj (Option.some.inj hframe)
    cases hdata : decodeData rx' kind' bytes with
    | none => rfl
    | some c =>
      have hfits := (Bool.and_eq_true_iff.mp hwf).2
      rw [(decodeData_spells hdata).2] at hfits
      exact nomatch hfits
  | unknownRequestCode rx' code =>
    obtain rfl := Option.some.inj hrx
    obtain ⟨rfl, rfl⟩ := Prod.mk.inj (Option.some.inj hframe)
    have hunknown : requestCodeKnown code = false := by
      rw [← Bool.not_eq_true']
      exact hwf
    exact congrArg (Option.getD · _) (decodeRequest_of_unknown hunknown)
  | setParameter rx' number value =>
    obtain rfl := Option.some.inj hrx
    obtain ⟨rfl, rfl⟩ := Prod.mk.inj (Option.some.inj hframe)
    exact congrArg (Instr.setParameter rx' number) (wordOf_be16 value)
  | windowCloseDiscard rx' argument =>
    obtain rfl := Option.some.inj hrx
    obtain ⟨rfl, rfl⟩ := Prod.mk.inj (Option.some.inj hframe)
    exact if_neg (of_decide_eq_true hwf)
  | resumeDispatch rx' | enterObserve rx' | blackStart rx' | holdRestoration rx' | resumeRestoration rx' | shedStep rx'
  | openFeeder rx' _ | restoreFeeder rx' _ | clearSetFault rx' _ | clearFeederFault rx' _ | readParameter rx' _
  | readEntry rx' _ | windowOpen rx' _ _ _ | windowCloseCommit rx' | saveSettings rx' | setLock rx' | clearLock rx'
  | softReset rx' | cycleReset rx' =>
    obtain rfl := Option.some.inj hrx
    obtain ⟨rfl, rfl⟩ := Prod.mk.inj (Option.some.inj hframe)
    rfl
  | _ => exact nomatch hrx

/-- Settles O49. -/
theorem receivedFramesSpellTheirCommands : Obligations.ReceivedFramesSpellTheirCommands := by
  intro c rx kind data s
  refine ⟨fun hwf hrx hframe => ?_, fun hlength => ?_, fun hempty => ?_⟩
  · unfold decodeFrame
    rw [kindOf_append, sourceOf_append]
    exact decodeData_of_spells ⟨hwf, hrx, hframe⟩
  · obtain ⟨hwf, hrx, hframe⟩ := decodeFrame_spells (kind := kind) (rx := rx) hlength
    exact ⟨hwf, hrx, hframe⟩
  · have hsame : { s with pending := [] } = s := by rw [← hempty]
    unfold step
    rw [State.receive_pending, hempty]
    exact congrArg (exec _) hsame

end Sys2Proof.Machine
end

section
/-! The end of an event: what the sequencer's looks can change, which frames they leave waiting, and the reports and ALERT
that follow (R114, R140, R144 to R147, R168). -/

namespace Sys2Proof.Machine

variable {s t u : State}

/-! ## Frames that are no SET_DIRECTIVE -/

/-- The entries of every other key stand as they were. -/
def OthersWait (s t : State) : Prop := ∀ k : Key, (∀ i, k ≠ .setDirective i) →
  t.txQueue.filter (fun f => f.key = k) = s.txQueue.filter fun f => f.key = k

namespace OthersWait

theorem refl (s : State) : OthersWait s s := fun _ _ => rfl

theorem of_txQueue (h : t.txQueue = s.txQueue) : OthersWait s t := fun _ _ => by rw [h]

theorem trans (h : OthersWait s t) (h' : OthersWait t u) : OthersWait s u := fun k hd => (h' k hd).trans (h k hd)

theorem ite {c : Prop} [Decidable c] {a b : State} (ha : OthersWait s a) (hb : OthersWait s b) :
    OthersWait s (if c then a else b) := by
  split <;> assumption

theorem foldl {α : Type} {f : State → α → State} (h : ∀ s a, OthersWait s (f s a)) (l : List α) (s : State) :
    OthersWait s (l.foldl f s) := by
  induction l generalizing s with
  | nil => exact .refl s
  | cons a l ih => exact (h s a).trans (ih _)

theorem reports (h : OthersWait s t) :
    t.txQueue.filter (fun f => f.key = .feederReport) = s.txQueue.filter fun f => f.key = .feederReport := h _ nofun

/-- A waiting frame that is no SET_DIRECTIVE waits on. -/
theorem frame_mem (h : OthersWait s t) {f : Frame} (hf : ∀ i, f.key ≠ .setDirective i) (hmem : f ∈ s.txQueue) : f ∈ t.txQueue := by
  have hin : f ∈ s.txQueue.filter fun g => g.key = f.key := List.mem_filter.mpr ⟨hmem, decide_eq_true rfl⟩
  rw [← h f.key hf] at hin
  exact (List.mem_filter.mp hin).1

/-- A waiting reply waits on. -/
theorem reply_mem (h : OthersWait s t) {dest : Nat} {code : BitVec 5} {result : Result} {data : List Byte}
    (hmem : Frame.reply dest code result data ∈ s.txQueue) : Frame.reply dest code result data ∈ t.txQueue :=
  h.frame_mem nofun hmem

theorem redirect (s : State) (i : Fin 8) : OthersWait s (s.redirect i) := by
  obtain h | ⟨-, -, h⟩ := redirect_cases s i <;> rw [h]
  · exact .refl s
  · exact fun k hd => enqueue_filter_ne (by exact (hd i).symm) _

theorem updateSet (s : State) (i : Fin 8) (f : SetRec → SetRec) : OthersWait s (s.updateSet i f) :=
  .trans (.of_txQueue rfl) (redirect _ i)

theorem redirectAll (s : State) : OthersWait s s.redirectAll := .foldl redirect _ s

theorem clearMark (s : State) (i : Fin 8) : OthersWait s (s.clearMark i) :=
  .ite (.ite ((updateSet s i _).trans (updateSet _ i _)) (updateSet s i _)) (.refl s)

theorem clearMarks (s : State) : OthersWait s s.clearMarks := .foldl clearMark _ s

theorem setMode (s : State) (m : Mode) : OthersWait s (s.setMode m) :=
  .ite (.refl s) (redirectAll { s with
    mode := m, shortfall := none, surplus := none, reserveShed := none
    seq := { s.seq with trigger := if m = .dispatch then s.seq.trigger else none } })

theorem endInObserve (s : State) (failed : Bool) : OthersWait s (s.endInObserve failed) :=
  (setMode { s with seq := s.seq.ended failed, ordering := false, forcedZero := false } .observe).trans (clearMarks _)

end OthersWait

/-! ## The looks of a running sequence -/

/-- What the sequencer's looks can change while no sequence begins: only runtime records, timers of the Commitment Unit and
the mode, the sequencer's own record, and SET_DIRECTIVE frames. -/
structure LooksFrame (s t : State) : Prop where
  frame : t = { s with
    sets := t.sets, txQueue := t.txQueue, seq := t.seq, mode := t.mode, shortfall := t.shortfall, surplus := t.surplus
    reserveShed := t.reserveShed, ordering := t.ordering, forcedZero := t.forcedZero }
  others : OthersWait s t
  mode : t.mode = s.mode ∨ t.mode = .observe
  ordering : s.ordering = false → t.ordering = false

namespace LooksFrame

theorem refl (s : State) : LooksFrame s s := ⟨rfl, .refl s, .inl rfl, id⟩

theorem trans (h : LooksFrame s t) (h' : LooksFrame t u) : LooksFrame s u where
  frame := by
    rw [h'.frame, h.frame]
  others := h.others.trans h'.others
  mode := h'.mode.elim (fun hm => hm ▸ h.mode) .inr
  ordering := h'.ordering ∘ h.ordering

theorem of_frame (h : t = { s with
    seq := t.seq, mode := t.mode, shortfall := t.shortfall, surplus := t.surplus
    reserveShed := t.reserveShed, ordering := t.ordering, forcedZero := t.forcedZero })
    (hm : t.mode = s.mode ∨ t.mode = .observe) (ho : s.ordering = false → t.ordering = false) : LooksFrame s t :=
  ⟨by rw [h], .of_txQueue (by rw [h]), hm, ho⟩

/-- Only the sequencer's record differs. -/
theorem of_seq (h : t = { s with seq := t.seq }) : LooksFrame s t :=
  .of_frame (by rw [h]) (.inl (by rw [h])) fun hclear => by rw [h]; exact hclear

theorem of_sets (h : SetsFrame s t) (ho : OthersWait s t) : LooksFrame s t := by
  refine ⟨?_, ho, .inl h.mode, fun hclear => ?_⟩
  · unfold SetsFrame at h
    rw [h]
  · rw [h]
    exact hclear

theorem ite {c : Prop} [Decidable c] {a b : State} (ha : LooksFrame s a) (hb : LooksFrame s b) :
    LooksFrame s (if c then a else b) := by
  split <;> assumption

theorem updateSet (s : State) (i : Fin 8) (f : SetRec → SetRec) : LooksFrame s (s.updateSet i f) :=
  .of_sets (updateSet_setsFrame s i f) (.updateSet s i f)

theorem clearMark (s : State) (i : Fin 8) : LooksFrame s (s.clearMark i) := .of_sets (clearMark_setsFrame s i) (.clearMark s i)

theorem toObserve (s : State) : LooksFrame s (s.setMode .observe) := by
  refine .ite (.refl s) (.trans (t := { s with
    mode := .observe, shortfall := none, surplus := none, reserveShed := none
    seq := { s.seq with trigger := none } }) ?_ (.of_sets (redirectAll_setsFrame _) (.redirectAll _)))
  exact .of_frame rfl (.inr rfl) id

theorem endInObserve (s : State) (failed : Bool) : LooksFrame s (s.endInObserve failed) := by
  refine .trans (t := { s with seq := s.seq.ended failed, ordering := false, forcedZero := false }) ?_
    ((toObserve _).trans (.of_sets (clearMarks_setsFrame _) (.clearMarks _)))
  exact .of_frame rfl (.inl rfl) fun _ => rfl

theorem lookAddSets (s : State) : LooksFrame s s.lookAddSets := by
  unfold State.lookAddSets
  refine .ite (.of_seq rfl) ?_
  split
  · exact .trans (.of_seq rfl) (updateSet _ _ _)
  · exact .of_seq rfl

theorem enterAddSets (s : State) : LooksFrame s s.enterAddSets := .trans (.of_seq rfl) (lookAddSets _)

theorem addSetsCheck (s : State) : LooksFrame s s.addSetsCheck := by
  unfold State.addSetsCheck
  refine .ite ?_ (.refl s)
  split
  · exact .ite (.refl s) (.trans (.of_seq rfl) (lookAddSets _))
  · exact .refl s

theorem lookFirstSet (s : State) : LooksFrame s s.lookFirstSet := by
  unfold State.lookFirstSet
  refine .ite (enterAddSets s) ?_
  split
  · exact .trans (.of_seq rfl) (updateSet _ _ _)
  · exact .ite (.refl s) (endInObserve s true)

theorem candidateCheck (s : State) : LooksFrame s s.candidateCheck := by
  unfold State.candidateCheck
  split
  · exact .ite (.trans (.of_seq rfl) (lookFirstSet _)) (.refl s)
  · exact lookFirstSet s

theorem formedCheck (s : State) : LooksFrame s s.formedCheck := by
  unfold State.formedCheck
  split
  · exact .ite (.ite ((updateSet s _ _).trans (enterAddSets _)) (.ite ((clearMark s _).trans (enterAddSets _)) (.refl s))) (.refl s)
  · exact .refl s

theorem firstSetCheck (s : State) : LooksFrame s s.firstSetCheck :=
  .ite (.ite ((candidateCheck s).trans (formedCheck _)) (candidateCheck s)) (.refl s)

theorem prepareCheck (s : State) : LooksFrame s s.prepareCheck := .ite (.of_frame rfl (.inl rfl) fun _ => rfl) (.refl s)

/-- The looks while the trigger timer has no cause to run. -/
theorem sequencerReact (h : ¬ TriggerRuns s) : LooksFrame s s.sequencerReact := by
  unfold State.sequencerReact
  rw [triggerCheck_of_not h]
  exact .trans (.trans (.trans (.of_seq rfl) (prepareCheck _)) (firstSetCheck _)) (addSetsCheck _)

theorem feeders (h : LooksFrame s t) : t.feeders = s.feeders := by rw [h.frame]
theorem reportCount (h : LooksFrame s t) : t.reportCount = s.reportCount := by rw [h.frame]

end LooksFrame

/-! ## The trigger timer -/

theorem not_triggerRuns_of_mode (h : s.mode ≠ .dispatch) : ¬ TriggerRuns s := fun hr => h hr.1

theorem not_triggerRuns (h : NoAutoStart s) : ¬ TriggerRuns s := fun ⟨hmode, hauto, hconditions⟩ => h hmode hauto hconditions.1

/-- With no sequence running the looks clear the trigger timer. -/
theorem sequencerReact_of_no_sequence (h : ¬ TriggerRuns s) (hphase : s.seq.phase = .none) :
    s.sequencerReact = { s with seq := { s.seq with trigger := none } } := by
  unfold State.sequencerReact
  rw [triggerCheck_of_not h]
  exact looks_of_phase_none (s := { s with seq := { s.seq with trigger := none } }) hphase

/-! ## The report and ALERT -/

theorem reportChanges_eq (s before : State) : s.reportChanges before = { s with
    txQueue := if s.feederStates = before.feederStates then s.txQueue else enqueue s.txQueue (.feederReport (partsOf s.runs) 0)
    reportCount := if s.feederStates = before.feederStates then s.reportCount else 0 } := by
  unfold State.reportChanges
  split <;> rfl

theorem reportChanges_reply_mem {before : State} {dest : Nat} {code : BitVec 5} {result : Result} {data : List Byte}
    (h : Frame.reply dest code result data ∈ s.txQueue) : Frame.reply dest code result data ∈ (s.reportChanges before).txQueue := by
  rw [reportChanges_eq]
  dsimp only
  split
  · exact h
  · exact mem_enqueue.mpr (.inr ⟨h, nofun⟩)

/-- An event that ends with no sequence running. -/
theorem finish_endsAs {before : State} (h : ¬ TriggerRuns s) (hphase : s.seq.phase = .none) : EndsAs before s (s.finish before) := by
  unfold State.finish EndsAs
  rw [sequencerReact_of_no_sequence h hphase, reportChanges_eq]
  rfl

/-- What the end of an event can change while no sequence begins. -/
theorem finish_frame {before : State} (h : ¬ TriggerRuns s) : s.finish before = { s with
    sets := (s.finish before).sets, txQueue := (s.finish before).txQueue, seq := (s.finish before).seq
    mode := (s.finish before).mode, shortfall := (s.finish before).shortfall, surplus := (s.finish before).surplus
    reserveShed := (s.finish before).reserveShed, ordering := (s.finish before).ordering
    forcedZero := (s.finish before).forcedZero, reportCount := (s.finish before).reportCount
    alertPin := (s.finish before).alertPin } := by
  have hlooks := (LooksFrame.sequencerReact h).frame
  unfold State.finish
  rw [reportChanges_eq]
  generalize s.sequencerReact = t at hlooks
  unfold State.refreshAlert
  dsimp only
  rw [hlooks]

theorem finish_reply_mem {before : State} (h : ¬ TriggerRuns s) {dest : Nat} {code : BitVec 5} {result : Result}
    {data : List Byte} (hmem : Frame.reply dest code result data ∈ s.txQueue) :
    Frame.reply dest code result data ∈ (s.finish before).txQueue := by
  rw [State.finish, State.refreshAlert_txQueue]
  exact reportChanges_reply_mem ((LooksFrame.sequencerReact h).others.reply_mem hmem)

/-- An event that has queued no feeder report of its own. -/
structure ReportsStand (before s : State) : Prop where
  count : s.reportCount = before.reportCount
  frames : s.txQueue.filter (fun f => f.key = .feederReport) = before.txQueue.filter fun f => f.key = .feederReport

theorem finish_reports {before : State} (h : ¬ TriggerRuns s) (hr : ReportsStand before s) :
    FeederReportFollows before (s.finish before) := by
  have hlooks := LooksFrame.sequencerReact h
  have hfollows := reportChanges_follows (hlooks.reportCount.trans hr.count) (hlooks.others.reports.trans hr.frames)
  unfold State.finish
  generalize s.sequencerReact.reportChanges before = t at hfollows
  exact hfollows

/-! ## Feeder events -/

/-- What an event on feeders has changed before it ends. -/
def FeederMoves (before s : State) : Prop := s = { before with
  feeders := s.feeders, queue := s.queue, settle := s.settle, hold := s.hold, exhausted := s.exhausted, txQueue := s.txQueue }

theorem FeederMoves.trans (h : FeederMoves s t) (h' : FeederMoves t u) : FeederMoves s u := by
  unfold FeederMoves at *
  rw [h', h]

theorem FeederMoves.noAutoStart {before : State} (h : FeederMoves before s) (hno : NoAutoStart before) : ¬ TriggerRuns s := by
  refine not_triggerRuns ?_
  rw [h]
  exact hno

theorem FeederMoves.reports {before : State} (h : FeederMoves before s)
    (hq : s.txQueue.filter (fun f => f.key = .feederReport) = before.txQueue.filter fun f => f.key = .feederReport) :
    ReportsStand before s := ⟨by rw [h], hq⟩

theorem finish_feederEvent {before : State} (hno : NoAutoStart before) (h : FeederMoves before s)
    (hq : s.txQueue.filter (fun f => f.key = .feederReport) = before.txQueue.filter fun f => f.key = .feederReport) :
    FeederEventFrame before (s.finish before) := by
  have htrigger := h.noAutoStart hno
  refine ⟨?_, fun hphase => ?_, finish_reports htrigger (h.reports hq)⟩
  · have hframe := finish_frame (before := before) htrigger
    generalize s.finish before = t at hframe
    unfold FeederMoves at h
    rw [hframe, h]
  · have hends : EndsAs before s (s.finish before) := finish_endsAs htrigger (by rw [h]; exact hphase)
    unfold EndsAs at hends
    generalize s.finish before = t at hends
    unfold FeederMoves at h
    rw [hends, h]

/-- What a feeder event has made stands at its end. -/
theorem finish_feeder_fields {before : State} (h : ¬ TriggerRuns s) : (s.finish before).feeders = s.feeders
    ∧ (s.finish before).queue = s.queue ∧ (s.finish before).settle = s.settle ∧ (s.finish before).hold = s.hold
    ∧ (s.finish before).exhausted = s.exhausted := by
  have hframe := finish_frame (before := before) h
  generalize s.finish before = t at hframe
  rw [hframe]
  exact ⟨rfl, rfl, rfl, rfl, rfl⟩

end Sys2Proof.Machine
end

section
/-! Events on feeders: shed actions of width 1, breaker timers, and the requests on one feeder (R92, R98, R109 to R111, R126,
R129, R130). -/

namespace Sys2Proof.Machine

variable {s u t before : State} {i : Fin 16} {rx : Rx}

/-! ## The end of a feeder event -/

theorem noAutoStart_elapse (h : NoAutoStart s) (dt : Nat) : NoAutoStart (s.elapse dt) := fun hmode hauto => by
  rw [State.elapse_meter, Meter.elapse_state]
  exact h hmode hauto

/-- `t` is the end of an event that began at `before` and has made `u` of the feeders. -/
structure FeederEnds (before u t : State) : Prop where
  frame : FeederEventFrame before t
  feeders : t.feeders = u.feeders
  queue : t.queue = u.queue
  settle : t.settle = u.settle
  hold : t.hold = u.hold
  exhausted : t.exhausted = u.exhausted

theorem finish_of_moves (hno : NoAutoStart before) (h : FeederMoves before u) (hq : u.txQueue = before.txQueue) :
    FeederEnds before u (u.finish before) := by
  obtain ⟨hfeeders, hqueue, hsettle, hhold, hexhausted⟩ := finish_feeder_fields (before := before) (h.noAutoStart hno)
  exact ⟨finish_feederEvent hno h (by rw [hq]), hfeeders, hqueue, hsettle, hhold, hexhausted⟩

/-- A request on feeders that has been answered. -/
theorem finish_of_answer (hno : NoAutoStart before) (h : FeederMoves before u) (hq : u.txQueue = before.txQueue)
    (code : BitVec 5) (result : Result) (data : List Byte) :
    FeederEnds before u ((u.answer rx code result data).finish before)
      ∧ ReplyWaits ((u.answer rx code result data).finish before) rx code result data := by
  have hanswer : FeederMoves before (u.answer rx code result data) := by
    unfold FeederMoves at *
    conv_lhs => rw [h]
    rfl
  have htrigger := hanswer.noAutoStart hno
  obtain ⟨hfeeders, hqueue, hsettle, hhold, hexhausted⟩ := finish_feeder_fields (before := before) htrigger
  have hreports : (u.answer rx code result data).txQueue.filter (fun f => f.key = .feederReport)
      = before.txQueue.filter fun f => f.key = .feederReport :=
    (enqueue_filter_ne (by nofun) u.txQueue).trans (by rw [hq])
  refine ⟨⟨finish_feederEvent hno hanswer hreports, hfeeders, hqueue, hsettle, hhold, hexhausted⟩, ?_⟩
  exact finish_reply_mem htrigger (self_mem_enqueue u.txQueue _)

/-! ## Actions of width 1 (R109, R110) -/

theorem shedOne_moves (s : State) (cause : FeederCause) : FeederMoves s (s.shedOne cause) := by
  rw [shedOne_eq]
  rfl

theorem shedOne_txQueue (s : State) (cause : FeederCause) : (s.shedOne cause).txQueue = s.txQueue := by
  rw [shedOne_eq]

/-- An action of width 1 takes its walk, and SHED_EXHAUSTED says whether it found a feeder (R99). -/
theorem shedOne_walked (s : State) (cause : FeederCause) : ∃ found, WalkedOnce s .shallow cause s.clk (s.shedOne cause).feeders found
    ∧ (s.shedOne cause).exhausted = !found := by
  rw [shedOne_eq]
  exact ⟨_, walkedOnce s .shallow cause, rfl⟩

theorem exec_shedStep (h : Hears s rx) (hs : FromSupervisor rx) : exec (.shedStep rx) s =
    .next (((s.elapse rx.dt).shedStep rx).finish (s.elapse rx.dt)) :=
  congrArg Host.Outcome.next (requestEvent_ungated h hs)

theorem shedOne_of_none {cause : FeederCause} (h : s.chosen .shallow 1 = []) : (s.shedOne cause).feeders = s.feeders
    ∧ (s.shedOne cause).exhausted = true := by
  rw [shedOne_eq, walk_of_none h, walkFull_one, h]
  exact ⟨rfl, rfl⟩

theorem shedOne_of_one {cause : FeederCause} (h : s.chosen .shallow 1 = [i]) :
    (s.shedOne cause).feeders = s.feeders.set i (trippedRecord cause .shallow s.clk) ∧ (s.shedOne cause).exhausted = false := by
  rw [shedOne_eq, walk_of_one h, walkFull_one, h]
  exact ⟨rfl, rfl⟩

theorem mshedEdge_of_fall (s : State) : s.mshedEdge false = { s with mshedLevel := false } := by
  unfold State.mshedEdge
  exact if_neg fun h => nomatch h.1

/-- Settles O30. -/
theorem manualShedActionsShedOneFeeder : Obligations.ManualShedActionsShedOneFeeder := by
  intro s level dt rx
  refine ⟨⟨fun hrun hno hpin hlevel => ?_, fun hrun => ?_, fun hsame => ?_⟩, fun h hs hno => ?_⟩
  · let base : State := { s.elapse dt with pins := { s.pins with mshed := level }, mshedLevel := level }
    have hexec (v : State) (hv : State.mshedEdge { s.elapse dt with pins := { s.pins with mshed := level } } level = v) :
        exec (.mshedEdge level dt) s = .next (v.finish base) := by
      subst hv
      exact congrArg Host.Outcome.next (pinChange_of_running hrun (by rw [hpin]; cases level <;> rfl))
    cases hl : level with
    | true =>
      subst hl
      have hrise : s.mshedLevel = false := hlevel
      have hends : FeederEnds base (base.shedOne .manual) ((base.shedOne .manual).finish base) :=
        finish_of_moves (by exact noAutoStart_elapse hno dt) (shedOne_moves base .manual) (shedOne_txQueue base .manual)
      obtain ⟨found, hwalked, hexhausted⟩ := shedOne_walked base .manual
      have hmoves := shedOne_moves base .manual
      have hkeeps : (base.shedOne .manual).queue = s.queue ∧ (base.shedOne .manual).settle = s.settle
          ∧ (base.shedOne .manual).hold = s.hold := by
        rw [shedOne_eq]
        exact ⟨rfl, rfl, rfl⟩
      obtain ⟨hqueue, hsettle, hhold⟩ := hkeeps
      refine ⟨_, hexec _ (if_pos ⟨rfl, hrise⟩), hends.frame, hends.queue.trans hqueue, hends.settle.trans hsettle,
        hends.hold.trans hhold, fun _ => ⟨found, ?_, hends.exhausted.trans hexhausted⟩, nofun⟩
      rw [hends.feeders]
      exact hwalked
    | false =>
      subst hl
      have hends : FeederEnds base base (base.finish base) := finish_of_moves (by exact noAutoStart_elapse hno dt) rfl rfl
      exact ⟨_, hexec base (mshedEdge_of_fall _), hends.frame, hends.queue, hends.settle, hends.hold, nofun,
        fun _ => ⟨hends.feeders, hends.exhausted⟩⟩
  · refine congrArg Host.Outcome.next (pinChange_idle hrun fun hc => ?_)
    rw [← bne_eq_false_iff_eq.mp hc]
  · exact congrArg Host.Outcome.next (pinChange_of_same (bne_eq_false_iff_eq.mpr hsame))
  · have hno := noAutoStart_elapse hno rx.dt
    let v := s.elapse rx.dt
    have hkeeps : (v.shedOne .manual).queue = s.queue ∧ (v.shedOne .manual).settle = s.settle
        ∧ (v.shedOne .manual).hold = s.hold := by
      rw [shedOne_eq]
      exact ⟨rfl, rfl, rfl⟩
    obtain ⟨hqueue, hsettle, hhold⟩ := hkeeps
    have hanswer := finish_of_answer (rx := rx) hno (shedOne_moves v .manual) (shedOne_txQueue v .manual) 0x06
    obtain ⟨hnil, hnone⟩ | ⟨j, hone, hj, hleast⟩ := chosen_one v .shallow
    · have hstep : v.shedStep rx = (v.shedOne .manual).answer rx 0x06 .acceptedNoEffect [] := by
        rw [State.shedStep, hnil]
        rfl
      obtain ⟨hends, hreply⟩ := hanswer .acceptedNoEffect []
      rw [← hstep] at hends hreply
      obtain ⟨hfeeders, hexhausted⟩ := shedOne_of_none (cause := .manual) hnil
      exact ⟨_, exec_shedStep h hs, hends.frame, hends.queue.trans hqueue, hends.settle.trans hsettle,
        hends.hold.trans hhold, .inr ⟨hnone, hends.feeders.trans hfeeders, hends.exhausted.trans hexhausted, hreply⟩⟩
    · have hstep : v.shedStep rx = (v.shedOne .manual).answer rx 0x06 .accepted [byte j.val, byte (v.position j)] := by
        rw [State.shedStep, hone]
        rfl
      obtain ⟨hends, hreply⟩ := hanswer .accepted [byte j.val, byte (v.position j)]
      rw [← hstep] at hends hreply
      obtain ⟨hfeeders, hexhausted⟩ := shedOne_of_one (cause := .manual) hone
      exact ⟨_, exec_shedStep h hs, hends.frame, hends.queue.trans hqueue, hends.settle.trans hsettle,
        hends.hold.trans hhold, .inl ⟨j, hj, hleast, hends.feeders.trans hfeeders, hends.exhausted.trans hexhausted, hreply⟩⟩

end Sys2Proof.Machine
end

section
/-! Events on one feeder: its breaker timer and the requests that name it (R92, R98, R111, R120, R126, R127, R129, R130, R133). -/

namespace Sys2Proof.Machine

variable {s u before : State} {i : Fin 16} {rx : Rx}

/-! ## Notices -/

/-- Only the feeder's own record and what the notices move differ. -/
theorem FeederMoves.of_parts {feeders : Vector FeederRec 16} {queue : List (Fin 16)} {settle : Settle} {hold : Hold} :
    FeederMoves s { s with feeders := feeders, queue := queue, settle := settle, hold := hold } := rfl

theorem closingEnded_moves (h : FeederMoves s u) : FeederMoves s u.closingEnded := by
  refine h.trans ?_
  rw [closingEnded_eq]
  rfl

theorem closingEnded_txQueue (s : State) : s.closingEnded.txQueue = s.txQueue := by rw [closingEnded_eq]
theorem closingEnded_queue (s : State) : s.closingEnded.queue = s.queue := by rw [closingEnded_eq]
theorem closingEnded_exhausted (s : State) : s.closingEnded.exhausted = s.exhausted := by rw [closingEnded_eq]

theorem closingEnded_settle (s : State) : s.closingEnded.settle =
    if s.hold.state = .pending ∧ ∀ j : Fin 16, s.feeders[j].state ≠ .closing then s.settle.pause s.clk else s.settle := by
  rw [State.closingEnded, apply_ite State.settle]
  exact if_congr (and_congr_right fun _ => (anyFeeder_eq_false s _).trans not_exists) rfl rfl

/-- A newly shed notice places its feeder (R120, R121). -/
theorem handNewlyShed_placed (s : State) (i : Fin 16) : PlacedNewlyShed s i (s.handNewlyShed i).queue := by
  have hparam : s.parOn RESTORE_ORDER = true ↔ s.cfg.params[RESTORE_ORDER] = 1 := parOn_iff s _
  unfold State.handNewlyShed State.placeShed
  refine ⟨fun hclear hlifo => ?_, fun hclear hfifo => ?_, fun hordering => ?_⟩
  · dsimp only
    rw [if_neg (by rw [hclear]; nofun), if_pos]
    rw [Bool.false_or, Bool.not_eq_true', ← Bool.not_eq_true, hparam]
    exact hlifo
  · dsimp only
    rw [if_neg (by rw [hclear]; nofun), if_neg]
    rw [hparam.mpr hfifo]
    nofun
  · have : Std.Total s.higher := ⟨fun _ _ => Nat.le_total _ _⟩
    have : IsTrans (Fin 16) s.higher := ⟨fun _ _ _ h h' => Nat.le_trans h' h⟩
    dsimp only
    rw [if_pos hordering]
    exact ⟨List.perm_orderedInsert _ _ _, fun h => List.Pairwise.orderedInsert i _ h⟩

/-- Feeder `i` leaves CLOSING for another state. -/
theorem left_closing {r : FeederRec} (hr : r.state ≠ .closing) : (∀ j : Fin 16, (s.feeders.set i r)[j].state ≠ .closing)
    ↔ ∀ j, j ≠ i → s.feeders[j].state ≠ .closing := by
  refine forall_congr' fun j => ?_
  rw [feeders_set_get]
  by_cases hij : i = j
  · rw [if_pos hij]
    exact iff_of_true hr fun h => absurd hij.symm h
  · rw [if_neg hij]
    exact (imp_iff_right (Ne.symm hij)).symm

/-- The condition under which a pending hold takes effect as feeder `i` leaves CLOSING (R133). -/
theorem lastClosing_iff {r : FeederRec} (hr : r.state ≠ .closing) (hu : u.feeders = s.feeders.set i r) (hhold : u.hold = s.hold) :
    (u.hold.state = .pending ∧ ∀ j : Fin 16, u.feeders[j].state ≠ .closing)
      ↔ s.hold.state = .pending ∧ ∀ j, j ≠ i → s.feeders[j].state ≠ .closing := by
  rw [hu, hhold, left_closing hr]

/-- The notice that ends a closing examines a pending hold (R133). -/
theorem afterClosing_none {r : FeederRec} (hr : r.state ≠ .closing) (hu : u.feeders = s.feeders.set i r) (hhold : u.hold = s.hold)
    (hsettle : u.settle = s.settle) : AfterClosing s i none u.clk u.closingEnded.settle u.closingEnded.hold := by
  have hlast := lastClosing_iff hr hu hhold
  rw [closingEnded_settle, closingEnded_hold]
  refine ⟨fun h => ⟨(if_pos (hlast.mpr h)).trans (by rw [hhold]), (if_pos (hlast.mpr h)).trans ?_⟩,
    fun h => ⟨(if_neg (mt hlast.mp h)).trans hhold, (if_neg (mt hlast.mp h)).trans hsettle⟩⟩
  exact (congrArg (Settle.pause · u.clk) hsettle).trans (pause_eq s.settle u.clk)

theorem startSettle_settle (s : State) : s.startSettle.settle =
    if s.hold.state = .inEffect then .paused (10000000 * s.cfg.params[RESTORE_SETTLE])
    else .running (s.clk + 10000000 * s.cfg.params[RESTORE_SETTLE]) := by
  rw [State.startSettle, sec_eq]
  rfl

/-- The closed notice starts the settle timer as well (R127). -/
theorem afterClosing_closed {r : FeederRec} (hr : r.state ≠ .closing) (hu : u.feeders = s.feeders.set i r) (hhold : u.hold = s.hold) :
    AfterClosing s i (some (10000000 * u.cfg.params[RESTORE_SETTLE])) u.clk u.handClosed.settle u.handClosed.hold := by
  have hlast : (u.startSettle.hold.state = .pending ∧ ∀ j : Fin 16, u.startSettle.feeders[j].state ≠ .closing) ↔ _ :=
    lastClosing_iff hr hu hhold
  unfold State.handClosed
  rw [closingEnded_settle, closingEnded_hold, startSettle_settle]
  refine ⟨fun h => ⟨(if_pos (hlast.mpr h)).trans ?_, (if_pos (hlast.mpr h)).trans ?_⟩,
    fun h => ⟨(if_neg (mt hlast.mp h)).trans hhold, (if_neg (mt hlast.mp h)).trans (by rw [hhold])⟩⟩
  · exact congrArg (fun hold : Hold => { hold with state := .inEffect }) hhold
  · rw [hhold, if_neg (by rw [h.1]; nofun)]
    exact congrArg Settle.paused (Nat.add_sub_cancel_left ..)

/-! ## The requests that name one feeder -/

theorem feederOf_of_ge {index : Byte} (h : 16 ≤ index.toNat) : feederOf index = none := dif_neg (Nat.not_lt.mpr h)

theorem feederOf_of_eq {index : Byte} (h : i.val = index.toNat) : feederOf index = some i := by
  unfold feederOf
  rw [dif_pos (h ▸ i.isLt)]
  exact congrArg some (Fin.ext h.symm)

theorem exec_openFeeder {index : Byte} (h : Hears s rx) (hs : FromSupervisor rx) (hi : i.val = index.toNat) :
    exec (.openFeeder rx index) s = .next ((s.elapse rx.dt).openFeeder rx i) := by
  refine congrArg Host.Outcome.next ((requestEvent_ungated h hs).trans ?_)
  rw [feederOf_of_eq hi]

theorem openFeeder_of_wrongState (h : s.feeders[i].state = .disabled ∨ s.feeders[i].state = .stuckOpen) :
    s.openFeeder rx i = s.answer rx 0x07 .wrongState [] := by
  unfold State.openFeeder
  obtain h | h := h <;> rw [h]

theorem openFeeder_of_open (h : s.feeders[i].state = .opening ∨ s.feeders[i].state = .openShed
    ∨ s.feeders[i].state = .openHeld ∨ s.feeders[i].state = .stuckClosed) :
    s.openFeeder rx i = s.answer rx 0x07 .acceptedNoEffect [] := by
  unfold State.openFeeder
  obtain h | h | h | h := h <;> rw [h]

theorem openFeeder_of_opens (h : s.feeders[i].state = .closed ∨ s.feeders[i].state = .closing ∨ s.feeders[i].state = .openExt) :
    s.openFeeder rx i = ((s.openByRequest i).answer rx 0x07 .accepted []).finish s := by
  unfold State.openFeeder
  obtain h | h | h := h <;> rw [h] <;> rfl

theorem openByRequest_of_closed (h : s.feeders[i].state = .closed) : s.openByRequest i =
    { s with feeders := s.feeders.set i ⟨.opening, .manual, some (s.clk + 4000000), none, true⟩ } := by
  unfold State.openByRequest
  rw [h]
  rfl

theorem openByRequest_of_closing (h : s.feeders[i].state = .closing) : s.openByRequest i = s.revert i .manual := by
  unfold State.openByRequest
  rw [h]

theorem openByRequest_of_openExt (h : s.feeders[i].state = .openExt) :
    s.openByRequest i = (s.shedFeeder i .manual).handNewlyShed i := by
  unfold State.openByRequest
  rw [h]

theorem shedFeeder_eq (s : State) (i : Fin 16) (cause : FeederCause) : s.shedFeeder i cause =
    { s with feeders := s.feeders.set i ⟨.openShed, cause, none, s.feeders[i].origin, true⟩ } := rfl

/-- A reversion at one feeder (R97, R126, R133). -/
theorem revert_ends (s : State) (i : Fin 16) (cause : FeederCause) : FeederMoves s (s.revert i cause)
    ∧ (s.revert i cause).txQueue = s.txQueue ∧ (s.revert i cause).exhausted = s.exhausted
    ∧ (s.revert i cause).feeders = s.feeders.set i ⟨.openShed, cause, none, s.feeders[i].origin, true⟩
    ∧ (s.ordering = false → (s.revert i cause).queue = i :: s.queue)
    ∧ AfterClosing s i none s.clk (s.revert i cause).settle (s.revert i cause).hold := by
  let shed : State := (s.shedFeeder i cause).placeShed i true
  refine ⟨closingEnded_moves (u := shed) rfl, closingEnded_txQueue shed, closingEnded_exhausted shed, revert_feeders s i cause,
    fun hclear => (closingEnded_queue shed).trans ?_, afterClosing_none (u := shed) (r := ⟨.openShed, cause, none, s.feeders[i].origin, true⟩) nofun rfl rfl rfl⟩
  show (if s.ordering = true then _ else _) = _
  rw [hclear]
  rfl

/-- Settles O32. -/
theorem openFeederOpensTheNamedFeeder : Obligations.OpenFeederOpensTheNamedFeeder := by
  intro s rx index h hs hno
  have hno := noAutoStart_elapse hno rx.dt
  refine ⟨fun hindex => ?_, fun i hi => ?_⟩
  · refine congrArg Host.Outcome.next ((requestEvent_ungated h hs).trans ?_)
    rw [feederOf_of_ge hindex]
    rfl
  · rw [exec_openFeeder h hs hi]
    let v := s.elapse rx.dt
    refine ⟨fun hstate => congrArg _ (openFeeder_of_wrongState (s := v) hstate),
      fun hstate => congrArg _ (openFeeder_of_open (s := v) hstate), fun hstate => ?_⟩
    rw [openFeeder_of_opens (s := s.elapse rx.dt) hstate]
    have hanswer (u : State) (hm : FeederMoves v u) (hq : u.txQueue = v.txQueue) :=
      finish_of_answer (rx := rx) hno hm hq 0x07 .accepted []
    obtain hstate | hstate | hstate := hstate
    · have hclosing : s.feeders[i].state ≠ .closing := by rw [hstate]; nofun
      have hopenExt : s.feeders[i].state ≠ .openExt := by rw [hstate]; nofun
      have hmoved := openByRequest_of_closed (s := v) hstate
      obtain ⟨hends, hreply⟩ := hanswer (v.openByRequest i) (by rw [hmoved]; rfl) (by rw [hmoved])
      rw [hmoved] at hends hreply ⊢
      exact ⟨_, rfl, hends.frame, hends.exhausted, hreply, fun _ => ⟨hends.queue, hends.settle, hends.hold, hends.feeders⟩,
        fun hne => absurd hstate hne, fun hc => absurd hc hclosing, fun hc => absurd hc hopenExt⟩
    · have hclosed : s.feeders[i].state ≠ .closed := by rw [hstate]; nofun
      have hopenExt : s.feeders[i].state ≠ .openExt := by rw [hstate]; nofun
      rw [openByRequest_of_closing (s := v) hstate]
      obtain ⟨hm, hq, hexhausted, hfeeders, hqueue, hafter⟩ := revert_ends v i .manual
      obtain ⟨hends, hreply⟩ := hanswer _ hm hq
      refine ⟨_, rfl, hends.frame, hends.exhausted.trans hexhausted, hreply, fun hc => absurd hc hclosed,
        fun _ => hends.feeders.trans hfeeders, fun _ => ⟨fun hclear => hends.queue.trans (hqueue hclear), ?_⟩,
        fun hc => absurd hc hopenExt⟩
      rw [hends.settle, hends.hold]
      exact hafter
    · have hclosed : s.feeders[i].state ≠ .closed := by rw [hstate]; nofun
      have hclosing : s.feeders[i].state ≠ .closing := by rw [hstate]; nofun
      rw [openByRequest_of_openExt (s := v) hstate]
      obtain ⟨hends, hreply⟩ := hanswer ((v.shedFeeder i .manual).handNewlyShed i) rfl rfl
      refine ⟨_, rfl, hends.frame, hends.exhausted, hreply, fun hc => absurd hc hclosed,
        fun _ => hends.feeders, fun hc => absurd hc hclosing, fun _ => ⟨?_, hends.settle, hends.hold⟩⟩
      rw [hends.queue]
      exact handNewlyShed_placed (v.shedFeeder i .manual) i

end Sys2Proof.Machine
end

section
/-! Restore Feeder, Clear Feeder Fault and the breaker timers (R92, R98, R126, R129, R130). -/

namespace Sys2Proof.Machine

variable {s u before : State} {i : Fin 16} {rx : Rx}

theorem exec_restoreFeeder {index : Byte} (h : Hears s rx) (hs : FromSupervisor rx) (hi : i.val = index.toNat) :
    exec (.restoreFeeder rx index) s = .next ((s.elapse rx.dt).restoreFeeder rx i) := by
  refine congrArg Host.Outcome.next ((requestEvent_ungated h hs).trans ?_)
  rw [feederOf_of_eq hi]

/-- The states from which Restore Feeder closes a feeder (R129). -/
def MayBeRestored (st : FeederState) : Prop := st = .openShed ∨ st = .openHeld ∨ st = .openExt

theorem restoreFeeder_of_refused (h : s.meter.state ≠ .valid ∨ ¬ MayBeRestored s.feeders[i].state) :
    s.restoreFeeder rx i = s.answer rx 0x08 .wrongState [] := by
  unfold State.restoreFeeder
  by_cases hvalid : s.meter.state = .valid
  · rw [if_neg (not_not_intro hvalid)]
    split
    case h_1 hst => exact absurd (.inl hst) (h.resolve_left (not_not_intro hvalid))
    case h_2 hst => exact absurd (.inr (.inl hst)) (h.resolve_left (not_not_intro hvalid))
    case h_3 hst => exact absurd (.inr (.inr hst)) (h.resolve_left (not_not_intro hvalid))
    all_goals rfl
  · exact if_pos hvalid

theorem restoreFeeder_of_closes (hvalid : s.meter.state = .valid) (h : MayBeRestored s.feeders[i].state) :
    s.restoreFeeder rx i = ((s.closeFeeder i).answer rx 0x08 .accepted ((s.closeFeeder i).feederBytes i)).finish s := by
  unfold State.restoreFeeder
  rw [if_neg (not_not_intro hvalid)]
  obtain h | h | h := h <;> rw [h] <;> rfl

/-- A close order (R94). -/
theorem closeFeeder_eq (s : State) (i : Fin 16) : s.closeFeeder i = { s with
    feeders := s.feeders.set i ⟨.closing, s.feeders[i].cause, some (s.clk + 4000000), s.feeders[i].origin, false⟩
    queue := if s.feeders[i].state = .openShed then s.queue.erase i else s.queue } := by
  unfold State.closeFeeder
  split <;> rfl

theorem feederBytes_of_set {r : FeederRec} (h : s.feeders[i] = r) : s.feederBytes i = [byte i.val, byte r.state.code] := by
  rw [State.feederBytes, h]

theorem set_self (v : Vector FeederRec 16) (i : Fin 16) (r : FeederRec) : (v.set i r)[i] = r := by simp

/-! ## Clear Feeder Fault (R130) -/

theorem exec_clearFeederFault {index : Byte} (h : Hears s rx) (hs : FromSupervisor rx) (hi : i.val = index.toNat) :
    exec (.clearFeederFault rx index) s = .next ((s.elapse rx.dt).clearFeederFault rx i) := by
  refine congrArg Host.Outcome.next ((requestEvent_ungated h hs).trans ?_)
  rw [feederOf_of_eq hi]

theorem stuck_iff (st : FeederState) : st.stuck = true ↔ st = .stuckClosed ∨ st = .stuckOpen := by
  cases st <;> simp [FeederState.stuck]

/-- The state a stuck feeder is found in (R130). -/
def stateOfStuck (st : FeederState) (level : Bool) : FeederState :=
  if level = true then .closed else if st = .stuckClosed then .openShed else .openExt

/-- The record of a stuck feeder derived again (R130). -/
def State.clearedFeeder (s : State) (i : Fin 16) : FeederRec :=
  let st := stateOfStuck s.feeders[i].state s.pins.fstat[i]
  ⟨st, if st = .openShed then s.feeders[i].cause else .none, none, s.feeders[i].origin, decide (st = .openShed)⟩

theorem rederiveFeeder_eq (h : s.feeders[i].state = .stuckClosed ∨ s.feeders[i].state = .stuckOpen) :
    s.rederiveFeeder i = { s with
      feeders := s.feeders.set i (s.clearedFeeder i)
      queue := if (s.clearedFeeder i).state = .openShed then (s.handNewlyShed i).queue else s.queue } := by
  unfold State.rederiveFeeder State.clearedFeeder stateOfStuck
  obtain h | h := h <;> cases hlevel : s.pins.fstat[i] <;> rw [h] <;> rfl

/-- Settles O33. -/
theorem restoreAndClearFaultActOnTheNamedFeeder : Obligations.RestoreAndClearFaultActOnTheNamedFeeder := by
  intro s rx index
  refine ⟨fun h hs hno => ⟨fun hindex => ?_, fun i hi => ?_⟩, fun h hs hno => ⟨fun hindex => ?_, fun i hi => ?_⟩⟩
  · refine congrArg Host.Outcome.next ((requestEvent_ungated h hs).trans ?_)
    rw [feederOf_of_ge hindex]
    rfl
  · have hno := noAutoStart_elapse hno rx.dt
    let v := s.elapse rx.dt
    have hmeter : v.meter.state = s.meter.state := s.meter.elapse_state rx.dt
    rw [exec_restoreFeeder h hs hi]
    refine ⟨fun hrefused => ?_, fun hvalid hstate => ?_⟩
    · refine congrArg _ (restoreFeeder_of_refused (s := v) (hrefused.imp (fun hm => hmeter ▸ hm) ?_))
      rintro ⟨hshed, hheld, hext⟩ (hc | hc | hc)
      exacts [hshed hc, hheld hc, hext hc]
    · rw [restoreFeeder_of_closes (s := v) (hmeter.trans hvalid) hstate]
      have hclose := closeFeeder_eq v i
      have hrec : (v.closeFeeder i).feeders[i]
          = ⟨.closing, s.feeders[i].cause, some (v.clk + 4000000), s.feeders[i].origin, false⟩ := by
        rw [hclose]
        exact set_self _ _ _
      have hbytes : (v.closeFeeder i).feederBytes i = [byte i.val, 6] := feederBytes_of_set hrec
      obtain ⟨hends, hreply⟩ := finish_of_answer (rx := rx) (u := v.closeFeeder i) hno (by rw [hclose]; rfl) (by rw [hclose])
        0x08 .accepted ((v.closeFeeder i).feederBytes i)
      rw [hbytes] at hends hreply ⊢
      rw [hclose] at hends hreply ⊢
      exact ⟨_, rfl, hends.frame, hends.exhausted, hends.settle, hends.hold, hreply, hends.feeders, hends.queue⟩
  · refine congrArg Host.Outcome.next ((requestEvent_ungated h hs).trans ?_)
    rw [feederOf_of_ge hindex]
    rfl
  · have hno := noAutoStart_elapse hno rx.dt
    let v := s.elapse rx.dt
    rw [exec_clearFeederFault h hs hi]
    refine ⟨fun hclosed hopen => ?_, fun hstate => ?_⟩
    · exact congrArg _ (if_neg (mt (stuck_iff _).mp (not_or.mpr ⟨hclosed, hopen⟩)))
    · have hstuck : v.clearFeederFault rx i =
          ((v.rederiveFeeder i).answer rx 0x0A .accepted ((v.rederiveFeeder i).feederBytes i)).finish v :=
        if_pos ((stuck_iff _).mpr hstate)
      have hmoved := rederiveFeeder_eq (s := v) hstate
      have hbytes : (v.rederiveFeeder i).feederBytes i = [byte i.val, byte (v.clearedFeeder i).state.code] := by
        refine feederBytes_of_set ?_
        rw [hmoved]
        exact set_self _ _ _
      obtain ⟨hends, hreply⟩ := finish_of_answer (rx := rx) (u := v.rederiveFeeder i) hno (by rw [hmoved]; rfl) (by rw [hmoved])
        0x0A .accepted ((v.rederiveFeeder i).feederBytes i)
      rw [hstuck]
      rw [hbytes] at hends hreply ⊢
      rw [hmoved] at hends hreply ⊢
      refine ⟨_, rfl, hends.frame, hends.exhausted, hends.settle, hends.hold, hreply, hends.feeders, fun hst => ?_, fun hst => ?_⟩
      · rw [hends.queue]
        exact (if_pos hst).symm ▸ handNewlyShed_placed v i
      · rw [hends.queue]
        exact if_neg hst

/-! ## Breaker timers (R92, R98, R126) -/

theorem exec_breakerTimerExpiry {dt due : Nat} (hrun : s.power = .running) (ht : s.feeders[i].timer = some due)
    (hdue : due ≤ s.clk + dt) : exec (.breakerTimerExpiry i dt) s =
      .next (((s.elapse dt).breakerExpiry i).finish (s.elapse dt)) := by
  refine congrArg Host.Outcome.next ((event_of_running hrun dt _).trans ?_)
  exact congrArg (State.finish · _) (if_pos (due_of_le (s := s.elapse dt) ht hdue))

/-- A stuck opening without a substitute (R92, R112). -/
theorem breakerExpiry_of_no_substitute (h : s.feeders[i].state = .opening)
    (horigin : s.feeders[i].origin = none ∨ s.seq.phase = .prepare) : s.breakerExpiry i = s.moveFeeder i .stuckClosed := by
  unfold State.breakerExpiry
  dsimp only
  rw [h]
  dsimp only
  cases ho : s.feeders[i].origin with
  | none => rfl
  | some reach => exact if_pos (horigin.resolve_left (by rw [ho]; nofun))

theorem breakerExpiry_of_substitute (h : s.feeders[i].state = .opening) {reach : Reach}
    (horigin : s.feeders[i].origin = some reach) (hphase : s.seq.phase ≠ .prepare) :
    s.breakerExpiry i = (s.moveFeeder i .stuckClosed).substitute reach s.feeders[i].cause := by
  unfold State.breakerExpiry
  dsimp only
  rw [h]
  dsimp only
  rw [horigin]
  exact if_neg hphase

theorem breakerExpiry_of_closing (h : s.feeders[i].state = .closing) :
    s.breakerExpiry i = (s.moveFeeder i .stuckOpen).closingEnded := by
  unfold State.breakerExpiry
  dsimp only
  rw [h]
  rfl

theorem breakerExpiry_of_other (hopening : s.feeders[i].state ≠ .opening) (hclosing : s.feeders[i].state ≠ .closing) :
    s.breakerExpiry i = s := by
  unfold State.breakerExpiry
  dsimp only
  split
  case h_1 h => exact absurd h hopening
  case h_2 h => exact absurd h hclosing
  all_goals rfl

theorem substitute_moves (s : State) (reach : Reach) (cause : FeederCause) : FeederMoves s (s.substitute reach cause)
    ∧ (s.substitute reach cause).txQueue = s.txQueue := by
  rw [substitute_eq]
  exact ⟨rfl, rfl⟩

theorem set_set_of_ne {j : Fin 16} (h : j ≠ i) (v : Vector FeederRec 16) (a b : FeederRec) :
    (v.set i a).set j b = (v.set j b).set i a := by
  refine Vector.ext fun k hk => ?_
  simp only [Vector.getElem_set]
  split
  next hj =>
    split
    next hi => exact absurd (Fin.ext (hj.trans hi.symm)) h
    next => rfl
  next => rfl

/-- The walk behind a stuck opening chooses as if that feeder were still OPENING (R98). -/
theorem walkedOnce_of_stuck (h : s.feeders[i].state = .opening) {r : FeederRec} (hr : r.state ≠ .closed) {reach : Reach}
    {cause : FeederCause} {now : Nat} {fs : Vector FeederRec 16} {found : Bool}
    (hw : WalkedOnce { s with feeders := s.feeders.set i r } reach cause now fs found) :
    ∃ fs', WalkedOnce s reach cause now fs' found ∧ fs = fs'.set i r := by
  have hsame (k : Fin 16) : MayBeChosen { s with feeders := s.feeders.set i r } reach k ↔ MayBeChosen s reach k := by
    refine and_congr_right fun _ => and_congr_left fun _ => ?_
    show (s.feeders.set i r)[k].state = _ ↔ _
    rw [feeders_set_get]
    split
    next hik => exact iff_of_false hr (by rw [← hik, h]; nofun)
    · exact Iff.rfl
  obtain ⟨hfound, j, hj, hleast, hfs⟩ | ⟨hfound, hnone, hfs⟩ := hw
  · have hji : j ≠ i := by
      rintro rfl
      have := ((hsame j).mp hj).2.1
      rw [h] at this
      exact nomatch this
    exact ⟨_, .inl ⟨hfound, j, (hsame j).mp hj, fun k hk => hleast k ((hsame k).mpr hk), rfl⟩,
      hfs.trans (set_set_of_ne hji _ _ _)⟩
  · exact ⟨_, .inr ⟨hfound, fun j hj => hnone j ((hsame j).mpr hj), rfl⟩, hfs⟩

/-- Settles O29. -/
theorem breakerTimerExpiryLeavesFeederStuck : Obligations.BreakerTimerExpiryLeavesFeederStuck := by
  intro s i dt due hrun hno ht hdue
  have hno := noAutoStart_elapse hno dt
  let v := s.elapse dt
  rw [exec_breakerTimerExpiry hrun ht hdue]
  by_cases hopening : s.feeders[i].state = .opening
  · have hclosing : s.feeders[i].state ≠ .closing := by rw [hopening]; nofun
    by_cases horigin : s.feeders[i].origin = none ∨ s.seq.phase = .prepare
    · have hends := finish_of_moves (u := v.moveFeeder i .stuckClosed) hno rfl rfl
      rw [breakerExpiry_of_no_substitute (s := s.elapse dt) hopening horigin]
      exact ⟨_, rfl, hends.frame, hends.queue, fun _ => ⟨hends.settle, hends.hold, fun _ => ⟨hends.exhausted, hends.feeders⟩,
        fun reach hreach hphase => absurd horigin (not_or.mpr ⟨by rw [hreach]; nofun, hphase⟩)⟩, fun hc => absurd hc hclosing⟩
    · rw [not_or] at horigin
      obtain ⟨reach, hreach⟩ := Option.ne_none_iff_exists'.mp horigin.1
      let stuck : State := v.moveFeeder i .stuckClosed
      have hmoves : FeederMoves v (stuck.substitute reach s.feeders[i].cause) :=
        .trans (t := stuck) rfl (substitute_moves stuck reach _).1
      have hends := finish_of_moves hno hmoves (substitute_moves stuck reach _).2
      rw [breakerExpiry_of_substitute (s := s.elapse dt) hopening hreach horigin.2]
      have hsub := substitute_eq stuck reach s.feeders[i].cause
      obtain ⟨fs, hwalked, hfs⟩ := walkedOnce_of_stuck (s := v) hopening (r := v.feeders[i].enter .stuckClosed v.clk) nofun
        (walkedOnce stuck reach s.feeders[i].cause)
      refine ⟨_, rfl, hends.frame, hends.queue.trans (by rw [hsub]; rfl), fun _ => ⟨hends.settle.trans (by rw [hsub]; rfl),
        hends.hold.trans (by rw [hsub]; rfl), fun hc => absurd hc (not_or.mpr horigin), fun reach' hreach' _ => ?_⟩,
        fun hc => absurd hc hclosing⟩
      obtain rfl : reach = reach' := Option.some.inj (hreach.symm.trans hreach')
      refine ⟨fs, _, hwalked, hends.exhausted.trans (by rw [hsub]; rfl), hends.feeders.trans ?_⟩
      rw [hsub, ← hreach]
      exact hfs
  · by_cases hclosing : s.feeders[i].state = .closing
    · let failed : State := v.moveFeeder i .stuckOpen
      have hends := finish_of_moves (u := failed.closingEnded) hno (closingEnded_moves (u := failed) rfl) (closingEnded_txQueue failed)
      rw [breakerExpiry_of_closing (s := s.elapse dt) hclosing]
      refine ⟨_, rfl, hends.frame, hends.queue.trans (closingEnded_queue failed), fun hc => absurd hc hopening,
        fun _ => ⟨hends.exhausted.trans (closingEnded_exhausted failed), hends.feeders.trans (closingEnded_feeders failed), ?_⟩⟩
      rw [hends.settle, hends.hold]
      exact afterClosing_none (u := failed) (r := v.feeders[i].enter .stuckOpen v.clk) nofun rfl rfl rfl
    · have hends := finish_of_moves (u := v) hno rfl rfl
      rw [breakerExpiry_of_other (s := s.elapse dt) hopening hclosing]
      exact ⟨_, rfl, hends.frame, hends.queue, fun hc => absurd hc hopening, fun hc => absurd hc hclosing⟩

end Sys2Proof.Machine
end

section
/-! Changes of FSTAT (R91, R93). -/

namespace Sys2Proof.Machine

variable {s u before : State} {i : Fin 16}

/-! ## One change (R91) -/

/-- The record of a feeder whose line changes to `level` (R89 to R92). -/
def FeederRec.afterFstat (r : FeederRec) (level : Bool) : FeederRec :=
  let st := stateAfterFstat r.state level
  ⟨st, if st = .closed ∨ st = .openExt then .none else r.cause, none, r.origin, decide (st = .openShed ∨ st = .stuckClosed)⟩

/-- The Restoration Queue after that change (R120 to R122). -/
def State.queueAfterFstat (s : State) (i : Fin 16) (level : Bool) : List (Fin 16) :=
  let st := stateAfterFstat s.feeders[i].state level
  if st = .openShed then (if s.feeders[i].state = .openShed then s.queue else (s.handNewlyShed i).queue)
  else if s.feeders[i].state = .openShed then s.queue.erase i else s.queue

theorem breakerEvent_of_closing (h : s.feeders[i].state = .closing) :
    s.breakerEvent i true = State.handClosed { s with feeders := s.feeders.set i (s.feeders[i].afterFstat true) } := by
  unfold State.breakerEvent FeederRec.afterFstat
  rw [h]
  rfl

/-- A change that ends no closing moves the record and the queue alone. -/
theorem breakerEvent_of_not_closing {level : Bool} (h : s.feeders[i].state ≠ .closing ∨ level = false) :
    s.breakerEvent i level = { s with
      feeders := if stateAfterFstat s.feeders[i].state level = s.feeders[i].state then s.feeders
        else s.feeders.set i (s.feeders[i].afterFstat level)
      queue := s.queueAfterFstat i level } := by
  unfold State.breakerEvent State.queueAfterFstat FeederRec.afterFstat
  cases hst : s.feeders[i].state with
  | closing =>
    obtain rfl := h.resolve_left (not_not_intro hst)
    rfl
  | _ => cases level <;> rfl

theorem handClosed_moves (h : FeederMoves s u) : FeederMoves s u.handClosed ∧ u.handClosed.txQueue = u.txQueue
    ∧ u.handClosed.feeders = u.feeders ∧ u.handClosed.queue = u.queue ∧ u.handClosed.exhausted = u.exhausted :=
  ⟨closingEnded_moves (h.trans (t := u) rfl), closingEnded_txQueue u.startSettle, closingEnded_feeders u.startSettle,
    closingEnded_queue u.startSettle, closingEnded_exhausted u.startSettle⟩

/-- What one change makes of its feeder. -/
structure FstatMoved (s : State) (i : Fin 16) (level : Bool) (u : State) : Prop where
  moves : FeederMoves s u
  txQueue : u.txQueue = s.txQueue
  exhausted : u.exhausted = s.exhausted
  feeders : u.feeders = if stateAfterFstat s.feeders[i].state level = s.feeders[i].state then s.feeders
    else s.feeders.set i (s.feeders[i].afterFstat level)
  queue : u.queue = s.queueAfterFstat i level
  closing : s.feeders[i].state = .closing → level = true →
    AfterClosing s i (some (10000000 * s.cfg.params[RESTORE_SETTLE])) s.clk u.settle u.hold
  others : s.feeders[i].state ≠ .closing ∨ level = false → u.settle = s.settle ∧ u.hold = s.hold

theorem breakerEvent_moved (s : State) (i : Fin 16) (level : Bool) : FstatMoved s i level (s.breakerEvent i level) := by
  by_cases h : s.feeders[i].state = .closing ∧ level = true
  · obtain ⟨hclosing, rfl⟩ := h
    let closed : State := { s with feeders := s.feeders.set i (s.feeders[i].afterFstat true) }
    obtain ⟨hmoves, htx, hfeeders, hqueue, hexhausted⟩ := handClosed_moves (s := s) (u := closed) rfl
    have hst : stateAfterFstat s.feeders[i].state true = .closed := by rw [hclosing]; rfl
    rw [breakerEvent_of_closing hclosing]
    refine ⟨hmoves, htx, hexhausted, hfeeders.trans (if_neg (by rw [hst, hclosing]; nofun)).symm, hqueue.trans ?_, fun _ _ => ?_,
      fun hc => hc.elim (absurd hclosing ·) nofun⟩
    · unfold State.queueAfterFstat
      rw [hclosing]
      rfl
    · refine afterClosing_closed (u := closed) (r := s.feeders[i].afterFstat true) ?_ rfl rfl
      show stateAfterFstat _ _ ≠ _
      rw [hst]
      nofun
  · have hother : s.feeders[i].state ≠ .closing ∨ level = false :=
      (Decidable.not_and_iff_not_or_not.mp h).imp_right Bool.eq_false_iff.mpr
    rw [breakerEvent_of_not_closing hother]
    exact ⟨rfl, rfl, rfl, rfl, rfl, fun hc hl => absurd ⟨hc, hl⟩ h, fun _ => ⟨rfl, rfl⟩⟩

/-! ## The lines that changed, in the order in which they are taken (R93) -/

theorem fstatAfter_eq {lines levels new : Vector Bool 16}
    (h : ∀ i : Fin 16, new[i] = if lines[i] = true then levels[i] else s.pins.fstat[i]) : s.fstatAfter lines levels = new := by
  refine Vector.ext fun i hi => ?_
  rw [State.fstatAfter, getElem_tabulate]
  exact (h ⟨i, hi⟩).symm

theorem mem_fstatOrder (s : State) (i : Fin 16) : i ∈ s.fstatOrder := by
  rw [State.fstatOrder, List.mem_append, mem_ladder, List.mem_filter]
  cases s.cfg.feeders[i].enabled <;> simp

theorem fstatOrder_nodup (s : State) : s.fstatOrder.Nodup := by
  refine List.nodup_append.mpr ⟨ladder_nodup s, indices_nodup.filter _, fun i hi j hj hij => ?_⟩
  have henabled := (mem_ladder s i).mp hi
  have hdisabled := (List.mem_filter.mp hj).2
  rw [← hij, henabled] at hdisabled
  exact nomatch hdisabled

/-- One feeder is taken before another only when it stands no higher, the ladder first (R88, R93). -/
theorem fstatOrder_sorted (s : State) : s.fstatOrder.Pairwise fun i j => s.cfg.feeders[j].enabled = true →
    s.cfg.feeders[i].enabled = true ∧ s.cfg.feeders[i].position ≤ s.cfg.feeders[j].position := by
  have hdisabled (j : Fin 16) (hj : j ∈ (indices 16).filter fun i => !s.cfg.feeders[i].enabled) : s.cfg.feeders[j].enabled = false :=
    Bool.not_eq_true' _ ▸ (List.mem_filter.mp hj).2
  refine List.pairwise_append.mpr ⟨?_, ?_, fun i _ j hj hen => nomatch (hdisabled j hj).symm.trans hen⟩
  · exact (ladder_sorted s).imp_of_mem fun {i j} hi _ hle _ => ⟨(mem_ladder s i).mp hi, hle⟩
  · exact List.pairwise_of_forall_mem_list fun i _ j hj hen => nomatch (hdisabled j hj).symm.trans hen

theorem mem_changedLines {old new : Vector Bool 16} : i ∈ s.changedLines old new ↔ new[i] ≠ old[i] := by
  rw [State.changedLines, List.mem_filter, bne_iff_ne]
  exact ⟨fun h => h.2.symm, fun h => ⟨mem_fstatOrder s i, h.symm⟩⟩

theorem changedLines_nodup (s : State) (old new : Vector Bool 16) : (s.changedLines old new).Nodup := (fstatOrder_nodup s).filter _

theorem exec_fstatChange {lines levels new : Vector Bool 16} {dt : Nat} (hrun : s.power = .running)
    (hnew : ∀ i : Fin 16, new[i] = if lines[i] = true then levels[i] else s.pins.fstat[i]) (h : new ≠ s.pins.fstat) :
    exec (.fstatChange lines levels dt) s = .next (State.fstatChanges { s.elapse dt with pins := { s.pins with fstat := new } }
      s.pins.fstat new) := by
  refine congrArg Host.Outcome.next ?_
  rw [fstatAfter_eq hnew]
  exact pinChange_of_running hrun (decide_eq_true (Ne.symm h))

/-- A single line that changed is taken alone. -/
theorem changedLines_of_one {old new : Vector Bool 16} (h : new = old.set i (!old[i])) : s.changedLines old new = [i] := by
  have hmem (j : Fin 16) : j ∈ s.changedLines old new ↔ j = i := by
    rw [mem_changedLines, h, Fin.getElem_fin, Vector.getElem_set]
    by_cases hij : i = j
    · subst hij
      simp
    · have : i.val ≠ j.val := fun e => hij (Fin.ext e)
      simp [this, Ne.symm hij]
  have hperm : (s.changedLines old new).Perm [i] := by
    rw [List.perm_ext_iff_of_nodup (changedLines_nodup s old new) (List.nodup_singleton i)]
    simpa using hmem
  exact List.perm_singleton.mp hperm

/-! ## Several openings at once (R93, R120) -/

theorem finish_mode (h : ¬ TriggerRuns s) : (s.finish before).mode = s.mode ∨ (s.finish before).mode = .observe := by
  have hmode := (LooksFrame.sequencerReact h).mode
  rw [State.finish, State.refreshAlert_mode, reportChanges_eq]
  exact hmode

theorem finish_ordering (h : ¬ TriggerRuns s) (hclear : s.ordering = false) : (s.finish before).ordering = false := by
  rw [State.finish, State.refreshAlert_ordering, reportChanges_eq]
  exact (LooksFrame.sequencerReact h).ordering hclear

theorem finish_noAutoStart (h : NoAutoStart s) : NoAutoStart (s.finish before) := by
  have hframe := finish_frame (before := before) (not_triggerRuns h)
  have hmode := finish_mode (before := before) (not_triggerRuns h)
  generalize s.finish before = t at hframe hmode
  intro hdispatch hauto
  rw [hframe] at hauto ⊢
  refine h (hmode.elim (fun hm => hm ▸ hdispatch) fun hm => ?_) hauto
  rw [hm] at hdispatch
  exact nomatch hdispatch

/-- The event of an opening that ends (R91): the feeder is shed and joins the queue. -/
theorem opened_event (hno : NoAutoStart s) (hclear : s.ordering = false) (h : s.feeders[i].state = .opening) :
    ∃ t, (s.ending fun u => u.breakerEvent i false) = t ∧ NoAutoStart t ∧ t.ordering = false ∧ t.cfg = s.cfg
      ∧ t.feeders = s.feeders.set i ⟨.openShed, s.feeders[i].cause, none, s.feeders[i].origin, true⟩
      ∧ t.queue = (if s.cfg.params[RESTORE_ORDER] = 1 then s.queue ++ [i] else i :: s.queue)
      ∧ FeederReportFollows s t := by
  have hmoved := breakerEvent_moved s i false
  have hst : stateAfterFstat s.feeders[i].state false = .openShed := by rw [h]; rfl
  have hends := finish_of_moves hno hmoved.moves hmoved.txQueue
  have huno : NoAutoStart (s.breakerEvent i false) := by rw [hmoved.moves]; exact hno
  have huclear : (s.breakerEvent i false).ordering = false := by rw [hmoved.moves]; exact hclear
  have hucfg : (s.breakerEvent i false).cfg = s.cfg := by rw [hmoved.moves]
  refine ⟨_, rfl, finish_noAutoStart huno, finish_ordering (not_triggerRuns huno) huclear, ?_, ?_, ?_, hends.frame.2.2⟩
  · exact (congrArg State.cfg (finish_frame (not_triggerRuns huno)) :).trans hucfg
  · refine hends.feeders.trans (hmoved.feeders.trans ((if_neg (by rw [hst, h]; nofun)).trans ?_))
    rw [FeederRec.afterFstat, hst]
    rfl
  · have hplaced := handNewlyShed_placed s i
    refine hends.queue.trans (hmoved.queue.trans ?_)
    rw [State.queueAfterFstat, hst, if_pos rfl, if_neg (by rw [h]; nofun)]
    split
    next hfifo => exact hplaced.2.1 hclear hfifo
    next hlifo => exact hplaced.1 hclear hlifo

/-- What openings that end one after the other make of the feeders and of the queue. -/
theorem opened_events (l : List (Fin 16)) : ∀ s : State, NoAutoStart s → s.ordering = false → l.Nodup →
    (∀ i ∈ l, s.feeders[i].state = .opening) →
    ∃ t, l.foldl (fun u i => u.ending fun u => u.breakerEvent i false) s = t
      ∧ t.queue = (if s.cfg.params[RESTORE_ORDER] = 1 then s.queue ++ l else l.reverse ++ s.queue)
      ∧ (∀ i : Fin 16, t.feeders[i] = if i ∈ l then ⟨.openShed, s.feeders[i].cause, none, s.feeders[i].origin, true⟩
          else s.feeders[i])
      ∧ FeederReportFollows s t := by
  induction l with
  | nil =>
    intro s _ _ _ _
    refine ⟨s, rfl, ?_, fun i => rfl, fun h => absurd rfl h, fun _ => ⟨rfl, rfl⟩⟩
    rw [List.append_nil, List.reverse_nil, List.nil_append, ite_self]
  | cons i l ih =>
    intro s hno hclear hl hopening
    obtain ⟨hi, hl⟩ := List.nodup_cons.mp hl
    obtain ⟨u, hu, huno, huclear, hucfg, hufeeders, huqueue, hureport⟩ := opened_event hno hclear (hopening i List.mem_cons_self)
    have hrecord (j : Fin 16) : u.feeders[j] = if i = j then ⟨.openShed, s.feeders[i].cause, none, s.feeders[i].origin, true⟩
        else s.feeders[j] := by
      rw [hufeeders, feeders_set_get]
    obtain ⟨t, ht, htqueue, htfeeders, htreport⟩ := ih u huno huclear hl fun j hj => by
      rw [hrecord, if_neg (by rintro rfl; exact hi hj)]
      exact hopening j (List.mem_cons_of_mem i hj)
    refine ⟨t, by rw [List.foldl_cons, hu, ht], ?_, fun j => ?_, ?_⟩
    · rw [htqueue, huqueue, hucfg]
      split <;> simp
    · rw [htfeeders, hrecord]
      by_cases hij : i = j
      · subst hij
        simp [hi]
      · simp [hij, Ne.symm hij]
    · cases l with
      | nil =>
        obtain rfl : u = t := ht
        exact hureport
      | cons k l =>
        have hk : u.feeders[k].state = .opening := by
          rw [hrecord, if_neg (by rintro rfl; exact hi List.mem_cons_self)]
          exact hopening k (List.mem_cons_of_mem i List.mem_cons_self)
        have hchanged : t.feederStates ≠ u.feederStates := fun hsame => by
          have := (feederStates_eq_iff u t).mp hsame k
          rw [htfeeders, if_pos List.mem_cons_self, hk] at this
          exact nomatch this
        refine ⟨fun _ => htreport.1 hchanged, fun hsame => ?_⟩
        have := (feederStates_eq_iff s t).mp hsame i
        rw [htfeeders, if_neg hi, hrecord, if_pos rfl, hopening i List.mem_cons_self] at this
        exact nomatch this

theorem exec_fstatChange_same {lines levels new : Vector Bool 16} {dt : Nat}
    (hnew : ∀ i : Fin 16, new[i] = if lines[i] = true then levels[i] else s.pins.fstat[i]) (h : s.pins.fstat = new) :
    exec (.fstatChange lines levels dt) s = .next (s.elapse dt) := by
  refine congrArg Host.Outcome.next ?_
  rw [fstatAfter_eq hnew]
  exact pinChange_of_same (decide_eq_false (not_not_intro h))

/-- Settles O28. -/
theorem fstatChangesMoveTheirFeeders : Obligations.FstatChangesMoveTheirFeeders := by
  intro s lines levels new dt hnew pinned
  have hclk : pinned.clk = s.clk + dt := rfl
  refine ⟨fun hrun hno i hone => ?_, fun hrun hne => ?_, fun hrun hno hclear hopening => ?_, fun hrun => ?_,
    fun h => exec_fstatChange_same hnew h⟩
  · have hne : new ≠ s.pins.fstat := by
      intro h
      have := congrArg (fun v : Vector Bool 16 => v[i]) (h.symm.trans hone)
      simp at this
    have hexec : exec (.fstatChange lines levels dt) s = .next ((pinned.breakerEvent i new[i]).finish pinned) := by
      rw [exec_fstatChange hrun hnew hne, State.fstatChanges, changedLines_of_one hone]
      rfl
    have hmoved := breakerEvent_moved pinned i new[i]
    have hends := finish_of_moves (before := pinned) (by exact noAutoStart_elapse hno dt) hmoved.moves hmoved.txQueue
    refine ⟨_, hexec, hends.frame, hends.exhausted.trans hmoved.exhausted, fun hst => ?_, fun hst => ?_, fun hst hold => ?_,
      fun hold hst => ?_, fun hst => ?_, fun hclosing hlevel => ?_, fun h => ?_⟩
    · exact hends.feeders.trans (hmoved.feeders.trans (if_pos hst))
    · exact hends.feeders.trans (hmoved.feeders.trans (if_neg hst))
    · rw [hends.queue, hmoved.queue]
      have hq : pinned.queueAfterFstat i new[i] = (pinned.handNewlyShed i).queue := (if_pos hst).trans (if_neg hold)
      rw [hq]
      exact handNewlyShed_placed pinned i
    · refine hends.queue.trans (hmoved.queue.trans ((if_neg ?_).trans (if_pos hold)))
      exact fun h => nomatch h.symm.trans hst
    · refine hends.queue.trans (hmoved.queue.trans ?_)
      by_cases hshed : s.feeders[i].state = .openShed
      · exact (if_pos (hst.mpr hshed)).trans (if_pos hshed)
      · exact (if_neg (mt hst.mp hshed)).trans (if_neg hshed)
    · rw [hends.settle, hends.hold]
      exact hmoved.closing hclosing hlevel
    · obtain ⟨hsettle, hhold⟩ := hmoved.others h
      exact ⟨hends.settle.trans hsettle, hends.hold.trans hhold⟩
  · refine ⟨pinned.changedLines s.pins.fstat new, changedLines_nodup _ _ _, fun i => mem_changedLines,
      (fstatOrder_sorted pinned).filter _, exec_fstatChange hrun hnew hne⟩
  · let l := pinned.changedLines s.pins.fstat new
    have hmem (i : Fin 16) : i ∈ l ↔ new[i] ≠ s.pins.fstat[i] := mem_changedLines
    have hfold : pinned.fstatChanges s.pins.fstat new = l.foldl (fun u i => u.ending fun u => u.breakerEvent i false) pinned := by
      refine List.foldl_ext _ _ _ fun u i hi => ?_
      rw [(hopening i ((hmem i).mp hi)).1]
    obtain ⟨t, ht, hqueue, hfeeders, hreport⟩ := opened_events l pinned (by exact noAutoStart_elapse hno dt) hclear
      (changedLines_nodup _ _ _) fun i hi => (hopening i ((hmem i).mp hi)).2.1
    refine ⟨t, l, ?_, changedLines_nodup _ _ _, hmem, ?_, hqueue, fun i => (hfeeders i).trans ?_, hreport⟩
    · by_cases h : new = s.pins.fstat
      · have hnil : l = [] := List.eq_nil_iff_forall_not_mem.mpr fun i hi => (hmem i).mp hi (by rw [h])
        rw [exec_fstatChange_same hnew h.symm]
        rw [hnil] at ht
        have hsame : pinned = s.elapse dt := by
          show { s.elapse dt with pins := { s.pins with fstat := new } } = _
          rw [h]
          rfl
        exact congrArg Host.Outcome.next (hsame.symm.trans ht)
      · rw [exec_fstatChange hrun hnew h]
        exact congrArg Host.Outcome.next (hfold.trans ht)
    · exact ((fstatOrder_sorted pinned).filter _).imp_of_mem fun {i j} _ hj h => (h (hopening j ((hmem j).mp hj)).2.2).2
    · by_cases h : new[i] = s.pins.fstat[i]
      · rw [if_pos h, if_neg fun hi => (hmem i).mp hi h]
        rfl
      · rw [if_neg h, if_pos ((hmem i).mpr h)]
        rfl
  · refine congrArg Host.Outcome.next ?_
    rw [fstatAfter_eq hnew]
    refine pinChange_idle hrun fun hc => ?_
    rw [← Decidable.not_not.mp (of_decide_eq_false hc)]

end Sys2Proof.Machine
end

section
/-! The four orders of an entry into PREPARE: queue rebuild, open-all, forced zero and stop-all (R61, R83, R112, R121, R143). -/

namespace Sys2Proof.Machine

variable {s t u : State}

/-! ## Open-all (R112) -/

/-- The record the open-all order makes of an enabled feeder's. -/
def FeederRec.openedAll (r : FeederRec) (now : Count) : FeederRec :=
  match r.state with
  | .closed => ⟨.opening, .blackstart, some (now + 4000000), none, true⟩
  | .closing | .openExt | .openHeld => ⟨.openShed, .blackstart, none, r.origin, true⟩
  | .disabled | .opening | .openShed | .stuckClosed | .stuckOpen => r

/-- The states from which the open-all order takes a feeder to OPEN_SHED. -/
def FeederState.JoinsAtOpenAll (st : FeederState) : Prop := st = .closing ∨ st = .openExt ∨ st = .openHeld

/-- The queue is in descending ladder position. -/
abbrev State.queueDescends (s : State) : Prop :=
  s.queue.Pairwise fun a b => s.cfg.feeders[b].position ≤ s.cfg.feeders[a].position

theorem closingEnded_of_no_hold (h : s.hold.state ≠ .pending) : s.closingEnded = s := if_neg fun hc => h hc.1

/-- What the open-all order has made of the feeders of `l`. -/
structure OpenedAll (s : State) (l : List (Fin 16)) (t : State) : Prop where
  frame : t = { s with feeders := t.feeders, queue := t.queue }
  feeders : ∀ j : Fin 16, t.feeders[j] = if j ∈ l then s.feeders[j].openedAll s.clk else s.feeders[j]
  queue : ∀ j : Fin 16, j ∈ t.queue ↔ j ∈ s.queue ∨ (j ∈ l ∧ s.feeders[j].state.JoinsAtOpenAll)
  sorted : s.queueDescends → t.queueDescends

/-- A feeder that joins the queue takes its place in descending position while the ordering mark is set (R121). -/
theorem openedAll_of_joining {i : Fin 16} (hmark : s.ordering = true) (hjoins : s.feeders[i].state.JoinsAtOpenAll)
    (ht : t = { s with feeders := s.feeders.set i (s.feeders[i].openedAll s.clk), queue := (s.handNewlyShed i).queue }) :
    OpenedAll s [i] t := by
  obtain ⟨hperm, hsorted⟩ := (handNewlyShed_placed s i).2.2 hmark
  subst ht
  refine ⟨rfl, fun j => (feeders_set_get s i j _).trans ?_, fun j => hperm.mem_iff.trans ?_, hsorted⟩
  · by_cases hij : i = j
    · subst hij
      simp
    · simp [hij, Ne.symm hij]
  · rw [List.mem_cons, List.mem_singleton, or_comm]
    exact or_congr_right ⟨fun h => ⟨h, h ▸ hjoins⟩, And.left⟩

/-- Any other feeder leaves the queue as it is. -/
theorem openedAll_of_staying {i : Fin 16} (hstays : ¬ s.feeders[i].state.JoinsAtOpenAll)
    (ht : t = { s with feeders := s.feeders.set i (s.feeders[i].openedAll s.clk) }) : OpenedAll s [i] t := by
  subst ht
  refine ⟨rfl, fun j => (feeders_set_get s i j _).trans ?_, fun j => ?_, id⟩
  · by_cases hij : i = j
    · subst hij
      simp
    · simp [hij, Ne.symm hij]
  · refine (or_iff_left ?_).symm
    rintro ⟨hj, hjoins⟩
    exact hstays (List.mem_singleton.mp hj ▸ hjoins)

theorem openForBlackStart_opened (i : Fin 16) (hmark : s.ordering = true) (hhold : s.hold.state ≠ .pending) :
    OpenedAll s [i] (s.openForBlackStart i) := by
  have hunmoved (h : s.feeders[i].openedAll s.clk = s.feeders[i]) :
      s = { s with feeders := s.feeders.set i (s.feeders[i].openedAll s.clk) } := by
    rw [h]
    simp
  have hreverted : (s.revert i .blackstart) = { s with
      feeders := s.feeders.set i ⟨.openShed, .blackstart, none, s.feeders[i].origin, true⟩
      queue := (s.handNewlyShed i).queue } := by
    refine (closingEnded_of_no_hold (s := (s.shedFeeder i .blackstart).placeShed i true) hhold).trans ?_
    have hplace : ((s.shedFeeder i .blackstart).placeShed i true).queue = (s.handNewlyShed i).queue :=
      (if_pos hmark).trans (if_pos hmark).symm
    rw [← hplace]
    rfl
  unfold State.openForBlackStart
  cases hst : s.feeders[i].state with
  | closed =>
    refine openedAll_of_staying (by rw [hst]; unfold FeederState.JoinsAtOpenAll; decide) ?_
    unfold FeederRec.openedAll
    rw [hst]
    rfl
  | closing =>
    refine openedAll_of_joining hmark (.inl hst) (hreverted.trans ?_)
    unfold FeederRec.openedAll
    rw [hst]
  | openExt =>
    refine openedAll_of_joining hmark (.inr (.inl hst)) ?_
    unfold FeederRec.openedAll
    rw [hst]
    rfl
  | openHeld =>
    refine openedAll_of_joining hmark (.inr (.inr hst)) ?_
    unfold FeederRec.openedAll
    rw [hst]
    rfl
  | _ =>
    refine openedAll_of_staying (by rw [hst]; unfold FeederState.JoinsAtOpenAll; decide) (hunmoved ?_)
    unfold FeederRec.openedAll
    rw [hst]

theorem openAll_fold (l : List (Fin 16)) : ∀ s : State, s.ordering = true → s.hold.state ≠ .pending → l.Nodup →
    OpenedAll s l (l.foldl State.openForBlackStart s) := by
  induction l with
  | nil => exact fun s _ _ _ => ⟨rfl, fun _ => rfl, fun _ => by simp, id⟩
  | cons i l ih =>
    intro s hmark hhold hl
    obtain ⟨hi, hl⟩ := List.nodup_cons.mp hl
    have hfirst := openForBlackStart_opened i hmark hhold
    rw [List.foldl_cons]
    generalize s.openForBlackStart i = u at hfirst
    have hframe := hfirst.frame
    have hrest := ih u (by rw [hframe]; exact hmark) (by rw [hframe]; exact hhold) hl
    generalize l.foldl State.openForBlackStart u = t at hrest
    have hclk : u.clk = s.clk := by rw [hframe]
    have hlater (j : Fin 16) (hj : j ∈ l) : u.feeders[j] = s.feeders[j] := by
      rw [hfirst.feeders, if_neg]
      rintro h
      obtain rfl := List.mem_singleton.mp h
      exact hi hj
    refine ⟨?_, fun j => ?_, fun j => ?_, fun h => ?_⟩
    · have ht := hrest.frame
      rw [hframe] at ht
      exact ht
    · rw [hrest.feeders, hclk]
      by_cases hj : j ∈ l
      · rw [if_pos hj, if_pos (List.mem_cons_of_mem i hj), hlater j hj]
      · rw [if_neg hj, hfirst.feeders]
        simp [hj]
    · rw [hrest.queue, hfirst.queue, or_assoc, List.mem_singleton, List.mem_cons, or_and_right]
      refine or_congr_right (or_congr_right (and_congr_right fun hj => ?_))
      rw [hlater j hj]
    · have hcfg : u.cfg = s.cfg := by rw [hframe]
      have := hrest.sorted (hfirst.sorted h)
      exact this

theorem openAll_opened (hmark : s.ordering = true) (hhold : s.hold.state ≠ .pending) : OpenedAll s s.ladder s.openAll :=
  openAll_fold _ s hmark hhold (ladder_nodup s)

/-! ## Frames that are neither SET_DIRECTIVE nor PV_CEILING -/

/-- The entries of every other key stand as they were. -/
def RestWaits (s t : State) : Prop := ∀ k : Key, (∀ i, k ≠ .setDirective i) → (∀ p, k ≠ .pvCeiling p) →
  t.txQueue.filter (fun f => f.key = k) = s.txQueue.filter fun f => f.key = k

namespace RestWaits

theorem of_others (h : OthersWait s t) : RestWaits s t := fun k hd _ => h k hd

theorem trans (h : RestWaits s t) (h' : RestWaits t u) : RestWaits s u := fun k hd hc => (h' k hd hc).trans (h k hd hc)

theorem foldl {α : Type} {f : State → α → State} (h : ∀ s a, RestWaits s (f s a)) (l : List α) (s : State) :
    RestWaits s (l.foldl f s) := by
  induction l generalizing s with
  | nil => exact fun _ _ _ => rfl
  | cons a l ih => exact (h s a).trans (ih _)

theorem reports (h : RestWaits s t) :
    t.txQueue.filter (fun f => f.key = .feederReport) = s.txQueue.filter fun f => f.key = .feederReport := h _ nofun nofun

theorem reply_mem (h : RestWaits s t) {dest : Nat} {code : BitVec 5} {result : Result} {data : List Byte}
    (hmem : Frame.reply dest code result data ∈ s.txQueue) : Frame.reply dest code result data ∈ t.txQueue := by
  have hin : Frame.reply dest code result data ∈ s.txQueue.filter fun f => f.key = .reply dest :=
    List.mem_filter.mpr ⟨hmem, decide_eq_true rfl⟩
  rw [← h (.reply dest) nofun nofun] at hin
  exact (List.mem_filter.mp hin).1

theorem sendCeiling (s : State) (p : Fin 4) : RestWaits s (s.sendCeiling p) :=
  fun _ _ hc => enqueue_filter_ne (by exact (hc p).symm) _

end RestWaits

/-! ## Forced zero (R83) -/

/-- A plant forced to zero. -/
def PlantForced (r : PlantRec) : Prop :=
  r.allotment = 0 ∧ r.allotCause = .blackstart ∧ r.sent = 0 ∧ r.sentCause = .blackstart ∧ r.lastQueued = 0

/-- What the forced-zero order makes of the plants. -/
structure ZeroForced (s t : State) : Prop where
  frame : t = { s with
    forcedZero := true, freshStart := false, pvReached := false, aggU := 0, plants := t.plants, txQueue := t.txQueue }
  plants : ∀ p : Fin 4, 0 < s.cfg.pv[p].rating → PlantForced t.plants[p]
  others : RestWaits s t

theorem forceZero_forced (s : State) : ZeroForced s s.forceZero := by
  let above := s.configuredPlants.filter fun p => decide (0 < s.plants[p].lastQueued)
  let zeroed : State := { s with
    forcedZero := true, freshStart := false, pvReached := false, aggU := 0
    plants := tabulate fun (p : Fin 4) =>
      if s.plantConfigured p then
        { s.plants[p] with allotment := 0, allotCause := .blackstart, sent := 0, sentCause := .blackstart }
      else s.plants[p] }
  have hframe : PlantsFrame zeroed s.forceZero := sendAll_frame above zeroed
  have hothers : RestWaits zeroed s.forceZero := .foldl RestWaits.sendCeiling above zeroed
  refine ⟨hframe.trans (s := zeroed) rfl, fun p hp => ?_, hothers⟩
  have hconf := (s.plantConfigured_iff p).mpr hp
  have hzeroed : zeroed.plants[p] =
      { s.plants[p] with allotment := 0, allotCause := .blackstart, sent := 0, sentCause := .blackstart } := by
    rw [Fin.getElem_fin, getElem_tabulate, if_pos hconf]
  have hsent : s.forceZero.plants[p] = _ := sendAll_plants above zeroed p
  rw [hsent, hzeroed]
  split
  · exact ⟨rfl, rfl, rfl, rfl, rfl⟩
  next habove =>
    refine ⟨rfl, rfl, rfl, rfl, Nat.eq_zero_of_not_pos fun hlast => habove ?_⟩
    exact List.mem_filter.mpr ⟨(State.mem_configuredPlants s).mpr hconf, decide_eq_true hlast⟩

/-! ## Stop-all (R61) -/

/-- The state the stop-all order leaves a set in. -/
def State.stoppedState (s : State) (i : Fin 8) : SetState :=
  match s.sets[i].state with
  | .starting => .stopped
  | .online => stateAtRest (30 * s.cfg.roster[i].minDown)
  | .unknown => .unknown | .stopped => .stopped | .stopping => .stopping | .resting => .resting
  | .failed => .failed | .unavailable => .unavailable

theorem updateSet_state (s : State) (i : Fin 8) (f : SetRec → SetRec) : (s.updateSet i f).sets[i].state = (f s.sets[i]).state := by
  rw [updateSet_sets_self]
  split <;> rfl

theorem downLength_eq_zero (e : SetEntry) : e.downLength = 0 ↔ 30 * e.minDown = 0 := by
  rw [downLength_eq]
  exact Nat.mul_eq_zero.trans ((or_iff_right (by decide)).trans ((or_iff_right (by decide)).symm.trans Nat.mul_eq_zero.symm))

theorem stopOne_state (s : State) (i : Fin 8) : (s.stopOne i).sets[i].state = s.stoppedState i := by
  unfold State.stopOne State.stoppedState
  cases hst : s.sets[i].state with
  | starting => exact updateSet_state s i SetRec.goStopped
  | online =>
    exact (updateSet_state s i _).trans (if_congr (downLength_eq_zero _) rfl rfl)
  | _ => exact hst

theorem stopOne_sets_ne {i j : Fin 8} (h : i ≠ j) (s : State) : (s.stopOne i).sets[j] = s.sets[j] := by
  unfold State.stopOne
  split
  case h_1 | h_2 => exact updateSet_sets_ne s h.symm _
  all_goals rfl

theorem OthersWait.stopOne (s : State) (i : Fin 8) : OthersWait s (s.stopOne i) := by
  unfold State.stopOne
  split
  case h_1 | h_2 => exact .updateSet s i _
  all_goals exact .refl s

/-- The stop-all order on the sets of a list. -/
theorem stopAll_fold (l : List (Fin 8)) (i : Fin 8) : ∀ s : State, l.Nodup →
    (i ∈ l → (l.foldl State.stopOne s).sets[i].state = s.stoppedState i)
      ∧ (i ∉ l → (l.foldl State.stopOne s).sets[i] = s.sets[i]) := by
  induction l with
  | nil => exact fun s _ => ⟨nofun, fun _ => rfl⟩
  | cons k l ih =>
    intro s hl
    obtain ⟨hk, hl⟩ := List.nodup_cons.mp hl
    obtain ⟨hin, hout⟩ := ih (s.stopOne k) hl
    have hcfg : (s.stopOne k).cfg = s.cfg := (stopOne_setsFrame s k).cfg
    rw [List.foldl_cons]
    by_cases hik : k = i
    · subst hik
      exact ⟨fun _ => (congrArg SetRec.state (hout hk)).trans (stopOne_state s k), fun h => absurd List.mem_cons_self h⟩
    · have hkeeps := stopOne_sets_ne hik s
      refine ⟨fun h => (hin (List.mem_of_ne_of_mem (Ne.symm hik) h)).trans ?_,
        fun h => (hout fun hl => h (List.mem_cons_of_mem k hl)).trans hkeeps⟩
      unfold State.stoppedState
      rw [hkeeps, hcfg]

/-- What the stop-all order makes of the sets. -/
structure AllStopped (s t : State) : Prop where
  frame : t = { s with shortfall := none, surplus := none, sets := t.sets, txQueue := t.txQueue }
  states : ∀ i : Fin 8, 0 < s.cfg.roster[i].rating → t.sets[i].state = s.stoppedState i
  others : RestWaits s t

theorem setsIn_nodup (s : State) (l : List SetState) : (s.setsIn l).Nodup := indices_nodup.filter _

theorem stopAll_stopped (s : State) : AllStopped s s.stopAll := by
  let cleared : State := { s with shortfall := none, surplus := none }
  have hframe : SetsFrame cleared s.stopAll := .foldl (f := State.stopOne) stopOne_setsFrame _ cleared
  refine ⟨hframe, fun i hconf => ?_, .of_others (.foldl (f := State.stopOne) OthersWait.stopOne _ cleared)⟩
  obtain ⟨hin, hout⟩ := stopAll_fold (s.setsIn [.starting, .online]) i cleared (setsIn_nodup s _)
  by_cases h : i ∈ s.setsIn [.starting, .online]
  · exact hin h
  · refine (congrArg SetRec.state (hout h)).trans ?_
    show s.sets[i].state = _
    rw [mem_setsIn] at h
    unfold State.stoppedState
    cases hst : s.sets[i].state with
    | starting => exact absurd ⟨hconf, by rw [hst]; decide⟩ h
    | online => exact absurd ⟨hconf, by rw [hst]; decide⟩ h
    | _ => rfl

/-! ## The four orders (R143) -/

/-- What the four orders make of the island. -/
structure OrdersGiven (s t : State) : Prop where
  frame : t = { s with
    sets := t.sets, shortfall := none, surplus := none, plants := t.plants, aggU := 0, freshStart := false
    forcedZero := true, pvReached := false, feeders := t.feeders, queue := t.queue, settle := .stopped, hold := .none
    blocked := none, ordering := true, txQueue := t.txQueue }
  feeders : ∀ j : Fin 16, t.feeders[j] = afterOpenAll s j s.clk
  queue : ∀ j : Fin 16, j ∈ t.queue ↔ j ∈ s.queue ∨ (s.cfg.feeders[j].enabled = true ∧ s.feeders[j].state.JoinsAtOpenAll)
  sorted : t.queueDescends
  plants : ∀ p : Fin 4, 0 < s.cfg.pv[p].rating → PlantForced t.plants[p]
  sets : ∀ i : Fin 8, 0 < s.cfg.roster[i].rating → t.sets[i].state = s.stoppedState i
  others : RestWaits s t

theorem prepareOrders_given (s : State) : OrdersGiven s s.prepareOrders := by
  have hopened : OpenedAll s.rebuildQueue s.rebuildQueue.ladder s.rebuildQueue.openAll := openAll_opened rfl nofun
  have hforced := forceZero_forced s.rebuildQueue.openAll
  have hstopped := stopAll_stopped s.rebuildQueue.openAll.forceZero
  have hsorted : s.rebuildQueue.queueDescends := by
    have : Std.Total s.higher := ⟨fun _ _ => Nat.le_total _ _⟩
    have : IsTrans (Fin 16) s.higher := ⟨fun _ _ _ h h' => Nat.le_trans h' h⟩
    exact List.pairwise_insertionSort s.higher s.queue
  have hmem (j : Fin 16) : j ∈ s.rebuildQueue.queue ↔ j ∈ s.queue := (List.perm_insertionSort s.higher s.queue).mem_iff
  have hladder (j : Fin 16) : j ∈ s.rebuildQueue.ladder ↔ s.cfg.feeders[j].enabled = true := mem_ladder s.rebuildQueue j
  unfold State.prepareOrders
  generalize s.rebuildQueue.openAll = a at hopened hforced hstopped
  generalize a.forceZero = b at hforced hstopped
  generalize b.stopAll = t at hstopped
  have ha := hopened.frame
  have hb := hforced.frame
  have ht := hstopped.frame
  rw [ha] at hb
  rw [hb] at ht
  have hfeeders : t.feeders = a.feeders := by rw [ht]
  have hqueue : t.queue = a.queue := by rw [ht]
  have hcfg : t.cfg = s.cfg := by rw [ht]; rfl
  have hacfg : a.cfg = s.cfg := by rw [ha]; rfl
  have hplants : t.plants = b.plants := by rw [ht]
  have hbsets : b.sets = s.sets := by rw [hb]; rfl
  have hbcfg : b.cfg = s.cfg := by rw [hb]; rfl
  have hatx : a.txQueue = s.txQueue := by rw [ha]; rfl
  refine ⟨by rw [ht]; rfl, fun j => ?_, fun j => ?_, ?_, fun p hp => ?_, fun i hi => ?_, ?_⟩
  · rw [hfeeders, hopened.feeders]
    exact if_congr (hladder j) rfl rfl
  · rw [hqueue, hopened.queue, hmem, hladder]
    rfl
  · have := hopened.sorted hsorted
    unfold State.queueDescends at this ⊢
    rw [hqueue, hcfg]
    rwa [hacfg] at this
  · rw [hplants]
    exact hforced.plants p (hacfg ▸ hp)
  · rw [hstopped.states i (hbcfg ▸ hi)]
    unfold State.stoppedState
    rw [hbsets, hbcfg]
  · exact (RestWaits.of_others (.of_txQueue hatx)).trans (hforced.others.trans hstopped.others)

end Sys2Proof.Machine
end

section
/-! The beginning of a sequence, and the loss of the bus (R140 to R143, R150, R151), with the withdrawal of the frequency at
a meter event that carries none (R76, R106). -/

namespace Sys2Proof.Machine

variable {s t u w z before : State} {rx : Rx}

/-! ## What the orders act on -/

/-- What the four orders act on stands. -/
structure IslandStands (s w : State) : Prop where
  cfg : w.cfg = s.cfg
  clk : w.clk = s.clk
  feeders : w.feeders = s.feeders
  queue : w.queue = s.queue
  states : ∀ i : Fin 8, w.sets[i].state = s.sets[i].state
  reports : ReportsStand s w

theorem ReportsStand.refl (s : State) : ReportsStand s s := ⟨rfl, rfl⟩

theorem ReportsStand.trans (h : ReportsStand s t) (h' : ReportsStand t u) : ReportsStand s u :=
  ⟨h'.count.trans h.count, h'.frames.trans h.frames⟩

theorem IslandStands.refl (s : State) : IslandStands s s := ⟨rfl, rfl, rfl, rfl, fun _ => rfl, .refl s⟩

theorem IslandStands.trans (h : IslandStands s t) (h' : IslandStands t u) : IslandStands s u where
  cfg := h'.cfg.trans h.cfg
  clk := h'.clk.trans h.clk
  feeders := h'.feeders.trans h.feeders
  queue := h'.queue.trans h.queue
  states := fun i => (h'.states i).trans (h.states i)
  reports := h.reports.trans h'.reports

theorem redirectAll_state (s : State) (i : Fin 8) : s.redirectAll.sets[i].state = s.sets[i].state := by
  rw [redirectAll_sets, State.derivedSet]
  split <;> rfl

theorem setMode_frame (s : State) (m : Mode) : s.setMode m = { s with
    mode := m, shortfall := (s.setMode m).shortfall, surplus := (s.setMode m).surplus
    reserveShed := (s.setMode m).reserveShed, seq := (s.setMode m).seq, sets := (s.setMode m).sets
    txQueue := (s.setMode m).txQueue } := by
  by_cases h : s.mode = m
  · rw [State.setMode, if_pos h, ← h]
  · let u : State := { s with
      mode := m, shortfall := none, surplus := none, reserveShed := none
      seq := { s.seq with trigger := if m = .dispatch then s.seq.trigger else none } }
    have hu : SetsFrame u (s.setMode m) := by
      rw [setMode_of_ne h]
      exact redirectAll_setsFrame u
    unfold SetsFrame at hu
    generalize s.setMode m = t at hu
    rw [hu]

theorem setMode_state (s : State) (m : Mode) (i : Fin 8) : (s.setMode m).sets[i].state = s.sets[i].state := by
  unfold State.setMode
  split
  · rfl
  · exact redirectAll_state _ i

theorem setMode_stands (s : State) (m : Mode) : IslandStands s (s.setMode m) := by
  have hstates := setMode_state s m
  have hreports := (OthersWait.setMode s m).reports
  have hframe := setMode_frame s m
  generalize s.setMode m = t at *
  refine ⟨?_, ?_, ?_, ?_, hstates, ?_, hreports⟩ <;> rw [hframe]

theorem setMode_failed (s : State) (m : Mode) : (s.setMode m).seq.failed = s.seq.failed := by
  rw [setMode_seq]; split <;> rfl

theorem setMode_attempts (s : State) (m : Mode) : (s.setMode m).seq.attempts = s.seq.attempts := by
  rw [setMode_seq]; split <;> rfl

/-! ## The end of an event at which the sequencer goes on -/

/-- The sequencer's record with the trigger timer clear. -/
def State.untriggered (s : State) : State := { s with seq := { s.seq with trigger := none } }

/-- With no cause for the trigger timer and PREPARE not at its end, the sequencer only looks in FIRST_SET and ADD_SETS. -/
theorem sequencerReact_of_listens (h : ¬ TriggerRuns s)
    (hprepare : s.seq.phase = .prepare → ∃ i : Fin 16, s.feeders[i].state = .opening) :
    s.sequencerReact = s.untriggered.firstSetCheck.addSetsCheck := by
  have hstays : s.untriggered.prepareCheck = s.untriggered := by
    refine if_neg fun ⟨hphase, hnone⟩ => ?_
    obtain ⟨i, hi⟩ := hprepare hphase
    exact (anyFeeder_eq_false s .opening).mp hnone ⟨i, hi⟩
  unfold State.sequencerReact
  rw [triggerCheck_of_not h]
  exact congrArg (fun t : State => t.firstSetCheck.addSetsCheck) hstays

/-- The report and ALERT at the end of an event at which the sequencer has made `u`. -/
theorem finish_of_react (h : s.sequencerReact = u) : s.finish before = { u with
    txQueue := (s.finish before).txQueue, reportCount := (s.finish before).reportCount
    alertPin := (s.finish before).alertPin } := by
  unfold State.finish State.refreshAlert
  rw [h, reportChanges_eq]

/-- In PREPARE with a feeder OPENING the sequencer waits. -/
theorem sequencerReact_of_opening (hmode : s.mode = .blackstart) (hphase : s.seq.phase = .prepare)
    (hopening : ∃ i : Fin 16, s.feeders[i].state = .opening) : s.sequencerReact = s.untriggered := by
  have hp : s.untriggered.seq.phase = .prepare := hphase
  rw [sequencerReact_of_listens (not_triggerRuns_of_mode (by rw [hmode]; nofun)) fun _ => hopening,
    firstSetCheck_of_phase (by rw [hp]; nofun), addSetsCheck_of_phase (by rw [hp]; nofun)]

/-- A feeder is OPENING after the open-all order. -/
theorem opening_after_openAll (h : SomeFeederOpens s) (now : Count) : ∃ i, (afterOpenAll s i now).state = .opening := by
  obtain ⟨i, h⟩ := h
  refine ⟨i, ?_⟩
  unfold afterOpenAll
  obtain hopening | ⟨henabled, hclosed⟩ := h
  · dsimp only
    rw [hopening]
    split <;> exact hopening
  · dsimp only
    rw [hclosed]
    exact congrArg FeederRec.state (if_pos henabled)

theorem afterOpenAll_of_stands (h : IslandStands s w) (j : Fin 16) : afterOpenAll w j w.clk = afterOpenAll s j s.clk := by
  unfold afterOpenAll
  rw [h.feeders, h.cfg, h.clk]

theorem stoppedState_of_stands (h : IslandStands s w) (i : Fin 8) : w.stoppedState i = s.stoppedState i := by
  unfold State.stoppedState
  rw [h.states, h.cfg]

/-- The sequencer's record at an entry into PREPARE. -/
def Sequencer.Prepares (q : Sequencer) : Prop :=
  q.phase = .prepare ∧ q.candidate = none ∧ q.passedOver = [] ∧ q.block = none

/-- An event that has entered PREPARE and given the four orders, with whatever it queues besides, ends with them given. -/
theorem prepared_ends (hz : OrdersGiven w z) (h : IslandStands before w) (hmode : w.mode = .blackstart)
    (hseq : w.seq.Prepares) (hopens : SomeFeederOpens before) (hy : u = { z with txQueue := u.txQueue })
    (hr : ReportsStand before u) :
    PrepareOrdersGiven before (u.finish before) before.clk ∧ (u.finish before).seq.attempts = w.seq.attempts
      ∧ (u.finish before).seq.failed = w.seq.failed := by
  obtain ⟨hphase, hcandidate, hpassed, hblock⟩ := hseq
  have hzframe := hz.frame
  have humode : u.mode = .blackstart := by rw [hy, hzframe]; exact hmode
  have huphase : u.seq.phase = .prepare := by rw [hy, hzframe]; exact hphase
  have hufeeders (j : Fin 16) : u.feeders[j] = afterOpenAll before j before.clk := by
    have : u.feeders = z.feeders := by rw [hy]
    rw [this, hz.feeders, afterOpenAll_of_stands h]
  have hopening : ∃ i : Fin 16, u.feeders[i].state = .opening := by
    obtain ⟨i, hi⟩ := opening_after_openAll hopens before.clk
    exact ⟨i, (congrArg FeederRec.state (hufeeders i)).trans hi⟩
  have hframe := finish_of_react (before := before) (sequencerReact_of_opening humode huphase hopening)
  have hfollows := finish_reports (not_triggerRuns_of_mode (by rw [humode]; nofun)) hr
  generalize u.finish before = t at hframe hfollows
  have hfeeders : t.feeders = u.feeders := by rw [hframe]; rfl
  have hqueue : t.queue = z.queue := by rw [hframe, hy]; rfl
  have hplants : t.plants = z.plants := by rw [hframe, hy]; rfl
  have hsets : t.sets = z.sets := by rw [hframe, hy]; rfl
  have hzcfg : z.cfg = before.cfg := by rw [hzframe]; exact h.cfg
  have ht : t = { w with
    sets := t.sets, shortfall := none, surplus := none, plants := t.plants, aggU := 0, freshStart := false
    forcedZero := true, pvReached := false, feeders := t.feeders, queue := t.queue, settle := .stopped, hold := .none
    blocked := none, ordering := true, txQueue := t.txQueue, seq := { w.seq with trigger := none }
    reportCount := t.reportCount, alertPin := t.alertPin } := by
    rw [hframe, hy, hzframe]
    rfl
  refine ⟨⟨?_, ?_, ?_, ?_, ?_, ?_, fun j => ?_, ?_, fun j => ?_, ?_, ?_, ?_, ?_, ?_, ?_, ?_, ?_, fun p hp => ?_, ?_, ?_,
    fun i hi => ?_, hfollows⟩, ?_, ?_⟩
  case refine_7 => rw [hfeeders]; exact hufeeders j
  case refine_9 =>
    rw [hqueue, hz.queue, h.queue, h.cfg, h.feeders]
    rfl
  case refine_10 =>
    have := hz.sorted
    unfold State.queueDescends at this
    rw [hzcfg] at this
    rw [hqueue]
    exact this
  case refine_18 => rw [hplants]; exact hz.plants p (h.cfg ▸ hp)
  case refine_21 =>
    have hstate : t.sets[i].state = before.stoppedState i := by
      rw [hsets, hz.sets i (h.cfg ▸ hi), stoppedState_of_stands h]
    exact hstate
  all_goals rw [ht]
  · exact hmode
  · exact hphase
  · exact hcandidate
  · exact hpassed
  · exact hblock
  · rfl

/-! ## A trigger (R142) -/

/-- The state in which the four orders of a trigger are given. -/
def State.triggered (s : State) : State :=
  let s1 := { s with seq := { s.seq with attempts := 1, trigger := none } }.setMode .blackstart
  { s1 with seq := s1.seq.preparing }

theorem beginSequence_eq (s : State) : s.beginSequence = s.triggered.prepareOrders := rfl

theorem triggered_stands (s : State) : IslandStands s s.triggered := by
  have h := setMode_stands { s with seq := { s.seq with attempts := 1, trigger := none } } .blackstart
  exact ⟨h.cfg, h.clk, h.feeders, h.queue, h.states, h.reports.count, h.reports.frames⟩

theorem triggered_mode (s : State) : s.triggered.mode = .blackstart := setMode_mode _ _

theorem triggered_prepares (s : State) : s.triggered.seq.Prepares := ⟨rfl, rfl, rfl, rfl⟩

theorem triggered_meter (s : State) : s.triggered.meter = s.meter := by
  have h := setMode_frame { s with seq := { s.seq with attempts := 1, trigger := none } } .blackstart
  exact (congrArg State.meter h :)

theorem triggered_attempts (s : State) : s.triggered.seq.attempts = 1 := setMode_attempts _ _

theorem triggered_failed (s : State) : s.triggered.seq.failed = s.seq.failed := setMode_failed _ _

theorem beginSequence_given (s : State) : OrdersGiven s.triggered s.beginSequence := prepareOrders_given _

theorem ReportsStand.of_rest (h : RestWaits s t) (hc : t.reportCount = s.reportCount) : ReportsStand s t := ⟨hc, h.reports⟩

theorem OrdersGiven.reports (h : OrdersGiven w z) : ReportsStand w z :=
  .of_rest h.others (by rw [h.frame])

/-- An event that begins the sequence, with whatever it queues besides. -/
theorem begun_ends (h : IslandStands before s) (hopens : SomeFeederOpens before)
    (hu : u = { s.beginSequence with txQueue := u.txQueue }) (hr : ReportsStand before u) :
    PrepareOrdersGiven before (u.finish before) before.clk ∧ (u.finish before).seq.attempts = 1
      ∧ (u.finish before).seq.failed = s.seq.failed := by
  have hends := prepared_ends (beginSequence_given s) (h.trans (triggered_stands s)) (triggered_mode s) (triggered_prepares s)
    hopens hu hr
  rwa [triggered_attempts, triggered_failed] at hends

theorem begun_reports (h : IslandStands before s) : ReportsStand before s.beginSequence :=
  h.reports.trans ((triggered_stands s).reports.trans (beginSequence_given s).reports)

theorem begun_alone_ends (h : IslandStands before s) (hopens : SomeFeederOpens before) :
    PrepareOrdersGiven before (s.beginSequence.finish before) before.clk ∧ (s.beginSequence.finish before).seq.attempts = 1
      ∧ (s.beginSequence.finish before).seq.failed = s.seq.failed := by
  have hends (u : State) := begun_ends (u := u) h hopens
  have hreports := begun_reports h
  generalize s.beginSequence = z at *
  exact hends z rfl hreports

/-- A trigger timer of length 0 begins the sequence at the same event (R140). -/
theorem sequencerReact_of_begin (hruns : TriggerRuns s) (ht : s.seq.trigger = none) (hdelay : s.cfg.params[BS_DELAY] = 0) :
    s.sequencerReact = s.beginSequence.sequencerReact := by
  have htrigger : s.beginSequence.seq.trigger = none := by
    rw [(beginSequence_given s).frame]
    show (State.setMode { s with seq := { s.seq with attempts := 1, trigger := none } } .blackstart).seq.trigger = none
    rw [setMode_seq]
    split <;> rfl
  have hstays : s.beginSequence.triggerCheck = s.beginSequence := by
    rw [triggerCheck_of_not (not_triggerRuns_of_mode (by rw [beginSequence_mode]; nofun)), ← htrigger]
  unfold State.sequencerReact
  rw [triggerCheck_of_begin hruns ht hdelay, hstays]

theorem finish_of_begin (hruns : TriggerRuns s) (ht : s.seq.trigger = none) (hdelay : s.cfg.params[BS_DELAY] = 0) :
    s.finish before = s.beginSequence.finish before := by
  unfold State.finish
  rw [sequencerReact_of_begin hruns ht hdelay]

/-- The trigger timer starts (R140). -/
theorem sequencerReact_of_start (hruns : TriggerRuns s) (ht : s.seq.trigger = none) (hdelay : s.cfg.params[BS_DELAY] ≠ 0)
    (hphase : s.seq.phase = .none) : s.sequencerReact =
      { s with seq := { s.seq with trigger := some (s.clk + 10000000 * s.cfg.params[BS_DELAY]) } } := by
  unfold State.sequencerReact
  rw [triggerCheck_of_start hruns ht hdelay, sec_eq]
  exact looks_of_phase_none (s := { s with seq := { s.seq with trigger := _ } }) hphase

/-! ## A meter event without a frequency (R76, R106) -/

/-- The state after such a meter event has reached the Shed Ladder and the Curtailment Unit. -/
def State.withdrawn (s : State) (m : Meter) : State :=
  { s with
    meter := m, notedMeter := m.state
    stages := tabulate fun (k : Fin 8) => if s.stages[k].state = .timing then .idle else s.stages[k]
    exhausted := if (∃ k : Fin 8, s.stages[k].state = .timing) ∧ ∀ k : Fin 8, s.stages[k].state ≠ .fired then false
      else s.exhausted
    plants := tabulate fun (p : Fin 4) => { s.plants[p] with lim := none } }

theorem returnTiming_eq (s : State) : s.returnTiming = { s with
    stages := tabulate fun (k : Fin 8) => if s.stages[k].state = .timing then .idle else s.stages[k]
    exhausted := if (∃ k : Fin 8, s.stages[k].state = .timing) ∧ ∀ k : Fin 8, s.stages[k].state ≠ .fired then false
      else s.exhausted } := by
  let moved : State := { s with
    stages := tabulate fun (k : Fin 8) => if s.stages[k].state = .timing then StageRec.idle else s.stages[k] }
  have hcond : (((indices 8).any fun k => decide (s.stages[k].state = .timing)) = true ∧ moved.stagesIdle = true)
      ↔ (∃ k : Fin 8, s.stages[k].state = .timing) ∧ ∀ k : Fin 8, s.stages[k].state ≠ .fired := by
    refine and_congr ?_ ?_
    · simp only [List.any_eq_true, mem_indices, true_and, decide_eq_true_eq]
    · rw [stagesIdle_iff]
      refine forall_congr' fun k => ?_
      have hk : moved.stages[k] = if s.stages[k].state = .timing then StageRec.idle else s.stages[k] := by
        rw [Fin.getElem_fin, getElem_tabulate]
      rw [hk]
      by_cases htiming : s.stages[k].state = .timing
      · rw [if_pos htiming, htiming]
        decide
      · rw [if_neg htiming]
        generalize s.stages[k].state = st at htiming
        cases st with
        | timing => exact absurd rfl htiming
        | idle | fired => decide
  have hif : s.returnTiming = if _ then { moved with exhausted := false } else moved := rfl
  rw [hif]
  by_cases h : (∃ k : Fin 8, s.stages[k].state = .timing) ∧ ∀ k : Fin 8, s.stages[k].state ≠ .fired
  · rw [if_pos (hcond.mpr h), if_pos h]
  · rw [if_neg (mt hcond.mp h), if_neg h]

theorem publishMeter_of_no_freq {m : Meter} (h : m.freq = none) :
    s.publishMeter m = (s.withdrawn m).sequencerMeter ⟨m.state, m.freq, m.rocof, s.clk⟩ := by
  unfold State.publishMeter State.meterEvent
  refine congrArg (fun t : State => t.sequencerMeter _) ?_
  unfold State.ladderMeter State.curtailmentMeter
  rw [h]
  dsimp only
  rw [returnTiming_eq]
  rfl

theorem withdrawn_stands (s : State) (m : Meter) : IslandStands s (s.withdrawn m) :=
  ⟨rfl, rfl, rfl, rfl, fun _ => rfl, rfl, rfl⟩

/-- A meter event that is no loss of the bus is none of the sequencer's. -/
theorem sequencerMeter_of_not {ev : MeterEvent}
    (h : ev.state ≠ .dead ∨ ¬ (s.seq.phase = .addSets ∨ s.seq.phase = .restore ∨ s.seq.phase = .pvReturn)) :
    s.sequencerMeter ev = s := by
  refine if_neg fun ⟨hdead, hphase⟩ => ?_
  simp only [List.mem_cons, List.not_mem_nil, or_false] at hphase
  exact h.elim (fun hstate => hstate hdead) fun hno => hno hphase

/-! ## The dead expiry -/

/-- The meter of a dead expiry has no frequency. -/
theorem die_freq (hm : MeterRecordAgrees s) (hlost : s.meter.state = .lost) (dt : Nat) : (s.meter.elapse dt).die.freq = none := by
  have hnone : ¬ s.meter.freq.isSome = true := fun h => nomatch (hm.1.mp h).symm.trans hlost
  exact (Meter.elapse_freq s.meter dt).trans (Option.not_isSome_iff_eq_none.mp hnone)

theorem exec_deadExpiry {dt e : Nat} (hrun : s.power = .running) (hm : MeterRecordAgrees s) (hlost : s.meter.state = .lost)
    (he : (s.meter.elapse dt).elapsed = some e) (hdue : 1000000 < e) : exec (.deadExpiry dt) s =
      .next (((((s.elapse dt).withdrawn (s.meter.elapse dt).die).sequencerMeter
        ⟨.dead, none, (s.meter.elapse dt).rocof, s.clk + dt⟩)).finish (s.elapse dt)) := by
  refine congrArg Host.Outcome.next ((event_of_running hrun dt _).trans ?_)
  have hdead : (s.elapse dt).meter.deadDue = true :=
    Meter.deadDue_iff.mpr ⟨(Meter.elapse_state s.meter dt).trans hlost, e, he, hdue⟩
  have hpub := publishMeter_of_no_freq (s := s.elapse dt) (die_freq hm hlost dt)
  rw [die_freq hm hlost dt] at hpub
  refine congrArg (fun t : State => t.finish (s.elapse dt)) ((if_pos hdead).trans hpub)

/-- The trigger timer runs once the meter is DEAD, when the other conditions stand (R140). -/
theorem withdrawn_triggerRuns {m : Meter} (hmode : s.mode = .dispatch) (hauto : s.cfg.params[AUTO_BS] = 1) (hdead : m.state = .dead)
    (hconditions : BlackStartConditions { s with meter := { s.meter with state := .dead } }) : TriggerRuns (s.withdrawn m) := by
  obtain ⟨-, hnone, habort, hstore, hcapable⟩ := hconditions
  exact ⟨hmode, hauto, hdead, hnone, habort, hstore, hcapable⟩

/-! ## Black Start (R141) -/

theorem noneOnline_iff (s : State) : s.noneOnline = true ↔ NoSetOnline s := by
  simp only [State.noneOnline, List.isEmpty_iff, List.eq_nil_iff_forall_not_mem, mem_setsIn, List.mem_singleton, not_and]

theorem blackStartConditions_elapse (s : State) (dt : Nat) : BlackStartConditions (s.elapse dt) ↔ BlackStartConditions s := by
  unfold BlackStartConditions
  rw [State.elapse_meter, Meter.elapse_state]
  rfl

theorem exec_blackStart (h : Hears s rx) (hs : FromSupervisor rx) (hmode : s.mode ≠ .blackstart) :
    exec (.blackStart rx) s = .next ((s.elapse rx.dt).blackStart rx) :=
  congrArg Host.Outcome.next (requestEvent_of_supervisor h hs
    (refusal_none_of (g := { seqActive := true }) rfl (fun _ => hmode) nofun nofun nofun))

theorem blackStart_of_not_dead (h : s.meter.state ≠ .dead ∨ ¬ NoSetOnline s) :
    s.blackStart rx = s.answer rx 0x03 .notDead [] := by
  rw [← noneOnline_iff, Bool.not_eq_true] at h
  exact if_pos h

theorem blackStart_of_dead (hdead : s.meter.state = .dead) (hnone : NoSetOnline s) : s.blackStart rx =
    if s.blackStartConditions = false then s.answer rx 0x03 .notPermitted []
    else s.ending fun s => s.beginSequence.answer rx 0x03 .accepted
      [byte s.beginSequence.seq.phase.code, byte s.beginSequence.seq.attempts] := by
  refine if_neg fun h => h.elim (fun hne => hne hdead) fun hsome => ?_
  rw [(noneOnline_iff s).mpr hnone] at hsome
  exact nomatch hsome

/-- The reply to an accepted Black Start carries PREPARE and attempts 1. -/
theorem beginSequence_bytes (s : State) :
    [byte s.beginSequence.seq.phase.code, byte s.beginSequence.seq.attempts] = ([1, 1] : List Byte) := by
  have hframe := (beginSequence_given s).frame
  have hphase : s.beginSequence.seq.phase = .prepare := by rw [hframe]; rfl
  have hattempts : s.beginSequence.seq.attempts = 1 := by rw [hframe]; exact triggered_attempts s
  rw [hphase, hattempts]
  rfl

theorem answer_frame (s : State) (rx : Rx) (code : BitVec 5) (result : Result) (data : List Byte) :
    s.answer rx code result data = { s with txQueue := (s.answer rx code result data).txQueue } := rfl

theorem answer_reports (s : State) (rx : Rx) (code : BitVec 5) (result : Result) (data : List Byte) :
    ReportsStand s (s.answer rx code result data) := ⟨rfl, enqueue_filter_ne (by nofun) s.txQueue⟩

theorem answered_island (s before : State) {code : BitVec 5} {result : Result} {data : List Byte} :
    IslandEventFrame s ((s.answer rx code result data).finish before) :=
  island_trans (b := s.answer rx code result data) rfl (finish_island _ before)

/-- An event that begins the sequence and answers its request. -/
theorem begun_answer_ends (h : IslandStands before s) (hopens : SomeFeederOpens before) (code : BitVec 5) (result : Result)
    (data : List Byte) :
    let t := (s.beginSequence.answer rx code result data).finish before
    (PrepareOrdersGiven before t before.clk ∧ t.seq.attempts = 1 ∧ t.seq.failed = s.seq.failed)
      ∧ ReplyWaits t rx code result data := by
  have hmode := beginSequence_mode s
  have hends (u : State) := begun_ends (u := u) h hopens
  have hreports := begun_reports h
  generalize s.beginSequence = z at *
  refine ⟨hends (z.answer rx code result data) rfl (hreports.trans (answer_reports z rx code result data)), ?_⟩
  refine finish_reply_mem (not_triggerRuns_of_mode ?_) (self_mem_enqueue z.txQueue _)
  show z.mode ≠ _
  rw [hmode]
  nofun

/-- Settles O37. -/
theorem triggersBeginTheSequence : Obligations.TriggersBeginTheSequence := by
  intro s dt due e rx
  refine ⟨fun hrun ht hdue hopens => ?_, fun h hs hmode => ⟨fun hnot => ?_, fun hdead hnone hnot => ?_, fun hconditions hopens => ?_⟩,
    fun hrun hm hlost he hdue hmode hphase ht hauto hconditions => ⟨fun hdelay => ?_, fun hdelay hopens => ?_⟩⟩
  · let v := s.elapse dt
    have hexec : exec (.triggerTimerExpiry dt) s = .next (v.beginSequence.finish v) := by
      refine congrArg Host.Outcome.next ((event_of_running hrun dt _).trans ?_)
      exact congrArg (fun t : State => t.finish v) (if_pos (due_of_le (s := v) ht hdue))
    obtain ⟨hgiven, hattempts, hfailed⟩ := begun_alone_ends (.refl v) hopens
    exact ⟨_, hexec, island_trans (beginSequence_island v) (finish_island _ v), hgiven, hattempts, hfailed⟩
  · rw [exec_blackStart h hs hmode, blackStart_of_not_dead (s := s.elapse rx.dt)]
    · rfl
    · exact hnot.imp_left fun hne hdead => hne ((Meter.elapse_state s.meter rx.dt).symm.trans hdead)
  · have hfalse : (s.elapse rx.dt).blackStartConditions = false := by
      rw [← Bool.not_eq_true, blackStartConditions_iff, blackStartConditions_elapse]
      rintro ⟨-, -, habort, hstore, hcapable⟩
      obtain h | h | h := hnot
      · exact nomatch h.symm.trans habort
      · exact nomatch h.symm.trans hstore
      · exact h hcapable
    rw [exec_blackStart h hs hmode, blackStart_of_dead (s := s.elapse rx.dt) ((Meter.elapse_state s.meter rx.dt).trans hdead) hnone,
      if_pos hfalse]
    rfl
  · let v := s.elapse rx.dt
    have hconditions' : v.blackStartConditions = true :=
      (blackStartConditions_iff v).mpr ((blackStartConditions_elapse s rx.dt).mpr hconditions)
    have hexec : exec (.blackStart rx) s = .next ((v.beginSequence.answer rx 0x03 .accepted [1, 1]).finish v) := by
      rw [exec_blackStart h hs hmode, blackStart_of_dead (s := v) ((Meter.elapse_state s.meter rx.dt).trans hconditions.1) hconditions.2.1,
        if_neg (by rw [hconditions']; nofun), State.ending, beginSequence_bytes]
    obtain ⟨⟨hgiven, hattempts, hfailed⟩, hreply⟩ := begun_answer_ends (before := v) (s := v) (rx := rx) (.refl v) hopens 0x03 .accepted [1, 1]
    exact ⟨_, hexec, island_trans (beginSequence_island v) (answered_island _ v), hgiven, hattempts, hfailed, hreply⟩
  · let w := (s.elapse dt).withdrawn (s.meter.elapse dt).die
    have hidle : ¬ (s.seq.phase = .addSets ∨ s.seq.phase = .restore ∨ s.seq.phase = .pvReturn) := by rw [hphase]; decide
    have hmeter := sequencerMeter_of_not (s := w) (ev := ⟨.dead, none, (s.meter.elapse dt).rocof, s.clk + dt⟩)
      (.inr hidle)
    have hruns : TriggerRuns w := withdrawn_triggerRuns (s := s.elapse dt) hmode hauto rfl hconditions
    have hframe := finish_of_react (before := s.elapse dt) (sequencerReact_of_start hruns ht (Nat.ne_of_gt hdelay) hphase)
    refine ⟨_, (exec_deadExpiry hrun hm hlost he hdue).trans (congrArg (fun t : State => Host.Outcome.next (t.finish (s.elapse dt))) hmeter),
      island_trans (b := w) rfl (finish_island w _), ?_⟩
    generalize w.finish (s.elapse dt) = t at hframe
    rw [hframe]
    exact ⟨hmode, rfl, rfl, rfl⟩
  · let v := s.elapse dt
    let w := v.withdrawn (s.meter.elapse dt).die
    have hidle : ¬ (s.seq.phase = .addSets ∨ s.seq.phase = .restore ∨ s.seq.phase = .pvReturn) := by rw [hphase]; decide
    have hmeter := sequencerMeter_of_not (s := w) (ev := ⟨.dead, none, (s.meter.elapse dt).rocof, s.clk + dt⟩)
      (.inr hidle)
    have hruns : TriggerRuns w := withdrawn_triggerRuns (s := v) hmode hauto rfl hconditions
    have hstands : IslandStands v w := withdrawn_stands v _
    obtain ⟨hgiven, hattempts, hfailed⟩ := begun_alone_ends hstands hopens
    refine ⟨w.beginSequence.finish v, (exec_deadExpiry hrun hm hlost he hdue).trans ?_,
      island_trans (b := w) rfl (island_trans (beginSequence_island w) (finish_island _ v)), hgiven, hattempts, hfailed⟩
    rw [hmeter, finish_of_begin hruns ht hdelay]

theorem endInObserve_directives (hmode : s.mode = .blackstart) (failed : Bool) : DirectivesFollowStates (s.endInObserve failed) := by
  rw [endInObserve_eq hmode]
  exact (clearMarks_keeps _).directives (redirectAll_directives _)

/-! ## Loss of the bus (R150, R151) -/

/-- Settles O39. -/
theorem lossOfTheBusRepeatsOrFails : Obligations.LossOfTheBusRepeatsOrFails := by
  intro s dt e hrun hm hlost he hdue hmode hphase
  let v := s.elapse dt
  let w := v.withdrawn (s.meter.elapse dt).die
  have hexec : exec (.deadExpiry dt) s = .next (w.lossOfBus.finish v) := by
    refine (exec_deadExpiry hrun hm hlost he hdue).trans ?_
    have hmem : s.seq.phase ∈ [Phase.addSets, Phase.restore, Phase.pvReturn] := by simpa using hphase
    exact congrArg (fun t : State => Host.Outcome.next (t.finish v)) (if_pos ⟨rfl, hmem⟩)
  have hisland : IslandEventFrame (s.elapse dt) (w.lossOfBus.finish v) :=
    island_trans (b := w) rfl (island_trans (lossOfBus_island w) (finish_island _ v))
  let counted : State := { w with seq := { w.seq with attempts := w.seq.attempts + 1 } }
  refine ⟨fun hfew hopens => ?_, fun hmany => ?_⟩
  · have hloss : w.lossOfBus = State.prepareOrders { counted with seq := counted.seq.preparing } :=
      if_neg (Nat.not_le.mpr hfew)
    let prepared : State := { counted with seq := counted.seq.preparing }
    have hgiven : OrdersGiven prepared w.lossOfBus := hloss ▸ prepareOrders_given prepared
    have hstands : IslandStands v prepared := ⟨rfl, rfl, rfl, rfl, fun _ => rfl, rfl, rfl⟩
    generalize w.lossOfBus = z at hexec hisland hgiven
    obtain ⟨hgiven, hattempts, hfailed⟩ := prepared_ends (u := z) hgiven hstands hmode ⟨rfl, rfl, rfl, rfl⟩ hopens rfl
      (hstands.reports.trans hgiven.reports)
    exact ⟨_, hexec, hisland, hgiven, hattempts, hfailed⟩
  · have hloss : w.lossOfBus = counted.endInObserve true := if_pos hmany
    have hframe : SetsFrame (counted.leftSequence true) w.lossOfBus := hloss ▸ endInObserve_setsFrame (s := counted) hmode true
    have hdirectives : DirectivesFollowStates w.lossOfBus := hloss ▸ endInObserve_directives (s := counted) hmode true
    generalize w.lossOfBus = z at hexec hisland hframe hdirectives
    have hzmode : z.mode = .observe := hframe.mode
    have hzphase : z.seq.phase = .none := by rw [hframe.seq]; rfl
    have hends : EndsAs v z (z.finish v) := finish_endsAs (not_triggerRuns_of_mode (by rw [hzmode]; nofun)) hzphase
    have halert : z.alertSet.any = true := by
      refine (alertSet_any_iff z).mpr (.inr (.inr (.inr (.inr (.inl ?_)))))
      rw [hframe.seq]
      rfl
    unfold EndsAs at hends
    generalize z.finish v = t at hends hexec hisland
    refine ⟨t, hexec, hisland, ?_⟩
    have hsets : t.sets = z.sets := by rw [hends]
    have hzcfg : z.cfg = s.cfg := hframe.cfg
    have hhold (i : Fin 8) (hi : 0 < s.cfg.roster[i].rating) : t.sets[i].directive = .hold := by
      rw [hsets, hdirectives i (hzcfg ▸ hi), hzmode]
      rfl
    have ht : t = { counted.leftSequence true with
        sets := t.sets, txQueue := t.txQueue, reportCount := t.reportCount, alertPin := true } := by
      unfold SetsFrame at hframe
      rw [hends, halert, hframe]
      rfl
    refine ⟨?_, ?_, ?_, ?_, ?_, ?_, ?_, ?_, ?_, ?_, ?_, ?_, hhold⟩ <;> rw [ht] <;> rfl

end Sys2Proof.Machine
end

section
/-! The end of PREPARE (R144, R145, R62). -/

namespace Sys2Proof.Machine

variable {s t u before : State} {c : Fin 8} {i : Fin 16}

/-! ## FIRST_SET with a first set to name -/

/-- The sequencer's record at the entry into FIRST_SET (R144). -/
def State.firstSetEntered (s : State) : State :=
  { s with seq := { s.seq with phase := .firstSet, candidate := none, trigger := none }, ordering := false }

/-- The state in which the first set is named and ordered onto the dead bus (R62, R145). -/
def State.firstSetNamed (s : State) (c : Fin 8) : State :=
  { s.firstSetEntered with
    sets := s.sets.set c (deadBusSet s c s.clk), seq := { s.firstSetEntered.seq with candidate := some c } }

/-- At the first event at which no feeder is OPENING, PREPARE ends and the first set is named. -/
theorem sequencerReact_of_prepared (hmode : s.mode = .blackstart) (hphase : s.seq.phase = .prepare)
    (hnone : ∀ i : Fin 16, s.feeders[i].state ≠ .opening) (hmeter : s.meter.state ≠ .valid)
    (hc : LowestPriority s (FirstSetCandidate s) c) :
    s.sequencerReact = { s.firstSetNamed c with txQueue := s.sequencerReact.txQueue } := by
  have hentered : s.untriggered.prepareCheck = s.firstSetEntered := by
    refine if_pos ⟨hphase, (anyFeeder_eq_false _ _).mpr ?_⟩
    rintro ⟨i, hi⟩
    exact hnone i hi
  have hnamed : s.firstSetEntered.firstSetCheck = _ :=
    ((firstSetIsFormedLostOrAwaited s.firstSetEntered).2 rfl hmode).2 (.inl rfl) |>.2.1 c hc (.inl hmeter)
  have hlooks : s.firstSetEntered.firstSetCheck.addSetsCheck = s.firstSetEntered.firstSetCheck := by
    refine addSetsCheck_of_phase ?_
    rw [hnamed]
    nofun
  have hreact : s.sequencerReact = s.firstSetEntered.firstSetCheck := by
    unfold State.sequencerReact
    rw [triggerCheck_of_not (not_triggerRuns_of_mode (by rw [hmode]; nofun))]
    refine Eq.trans ?_ hlooks
    exact congrArg (fun t : State => t.firstSetCheck.addSetsCheck) hentered
  rw [← hreact] at hnamed
  exact hnamed

/-! ## The last opening (R91, R144) -/

theorem exec_fstatChange_one {lines levels new : Vector Bool 16} {dt : Nat} (hrun : s.power = .running)
    (hnew : ∀ i : Fin 16, new[i] = if lines[i] = true then levels[i] else s.pins.fstat[i])
    (hone : new = s.pins.fstat.set i (!s.pins.fstat[i])) :
    let pinned : State := { s.elapse dt with pins := { s.pins with fstat := new } }
    exec (.fstatChange lines levels dt) s = .next ((pinned.breakerEvent i new[i]).finish pinned) := by
  have hne : new ≠ s.pins.fstat := by
    intro h
    have := congrArg (fun v : Vector Bool 16 => v[i]) (h.symm.trans hone)
    simp at this
  dsimp only
  rw [exec_fstatChange hrun hnew hne, State.fstatChanges, changedLines_of_one hone]
  rfl

/-- A line that was high falls alone. -/
theorem fallen_line {old : Vector Bool 16} (h : old[i] = true) (j : Fin 16) : (old.set i (!old[i]))[j]
    = if ((Vector.replicate 16 false).set i true)[j] = true then (Vector.replicate 16 false)[j] else old[j] := by
  simp only [Fin.getElem_fin, Vector.getElem_set, Vector.getElem_replicate]
  by_cases hij : i.val = j.val
  · have hold : old[j.val] = true := by rw [← h]; exact (getElem_congr_idx hij).symm
    simp [hij, hold]
  · simp [hij]

/-- The opening of a feeder ends (R91). -/
theorem breakerEvent_of_opened (h : s.feeders[i].state = .opening) (j : Fin 16) :
    (s.breakerEvent i false).feeders[j].state = if i = j then .openShed else s.feeders[j].state := by
  have hst : stateAfterFstat s.feeders[i].state false = .openShed := by rw [h]; rfl
  rw [(breakerEvent_moved s i false).feeders, if_neg (by rw [hst, h]; nofun), feeders_set_get]
  split
  · exact hst
  · rfl

/-- With no set ONLINE the stop-all order moves STARTING sets alone. -/
theorem stoppedState_of_not_online {k : Fin 8} (h : s.sets[k].state ≠ .online) :
    s.stoppedState k = if s.sets[k].state = .starting then .stopped else s.sets[k].state := by
  unfold State.stoppedState
  cases hst : s.sets[k].state with
  | online => exact absurd hst h
  | _ => rfl

/-- The stop-all order leaves the first-set candidates that were STARTING among the candidates (R61). -/
theorem candidates_after_stopAll (hstates : ∀ i : Fin 8, 0 < s.cfg.roster[i].rating → t.sets[i].state = s.stoppedState i)
    (hcfg : t.cfg = s.cfg) (hnone : NoSetOnline s) (k : Fin 8) : FirstSetCandidate t k ↔
      0 < s.cfg.roster[k].rating ∧ s.cfg.roster[k].capable = true
        ∧ (s.sets[k].state = .stopped ∨ s.sets[k].state = .resting ∨ s.sets[k].state = .starting) := by
  unfold FirstSetCandidate
  rw [hcfg]
  refine and_congr_right fun hk => and_congr_right fun _ => ?_
  rw [hstates k hk, stoppedState_of_not_online (hnone k hk)]
  generalize s.sets[k].state = st
  cases st <;> decide

/-- With no feeder CLOSED or OPENING the open-all order opens none. -/
theorem not_opening_after_openAll (h : ¬ SomeFeederOpens s) (now : Count) (j : Fin 16) :
    (afterOpenAll s j now).state ≠ .opening := by
  have hopening : s.feeders[j].state ≠ .opening := fun hj => h ⟨j, .inl hj⟩
  have hclosed (henabled : s.cfg.feeders[j].enabled = true) : s.feeders[j].state ≠ .closed := fun hj => h ⟨j, .inr ⟨henabled, hj⟩⟩
  unfold afterOpenAll
  dsimp only
  split
  next henabled =>
    cases hst : s.feeders[j].state with
    | closed => exact absurd hst (hclosed henabled)
    | opening => exact absurd hst hopening
    | closing | openExt | openHeld => nofun
    | disabled | openShed | stuckClosed | stuckOpen =>
      dsimp only
      rw [hst]
      nofun
  next => exact hopening

/-- Settles O38. -/
theorem prepareEndsWithTheFirstSetNamed : Obligations.PrepareEndsWithTheFirstSetNamed := by
  intro s i dt due c
  refine ⟨fun hrun hmode hphase hmeter hlevel hopening hothers hc => ?_, fun hrun ht hdue hmode hm hnoOpens hnone hmeter hc => ?_⟩
  · let pinned : State := { s.elapse dt with pins := { s.pins with fstat := s.pins.fstat.set i (!s.pins.fstat[i]) } }
    have hexec := exec_fstatChange_one (dt := dt) hrun (fallen_line hlevel) rfl
    have hfell : (s.pins.fstat.set i (!s.pins.fstat[i]))[i] = false := by
      rw [Fin.getElem_fin, Vector.getElem_set_self, hlevel]
      rfl
    rw [hfell] at hexec
    have hmoves : FeederMoves pinned (pinned.breakerEvent i false) := (breakerEvent_moved pinned i false).moves
    have hstates := breakerEvent_of_opened (s := pinned) hopening
    change exec _ s = .next ((pinned.breakerEvent i false).finish pinned) at hexec
    generalize pinned.breakerEvent i false = u at hexec hmoves hstates
    unfold FeederMoves at hmoves
    have hseq : u.seq = s.seq := by rw [hmoves]; rfl
    have humode : u.mode = s.mode := by rw [hmoves]; rfl
    have husets : u.sets = s.sets := by rw [hmoves]; rfl
    have hucfg : u.cfg = s.cfg := by rw [hmoves]; rfl
    have humeter : u.meter.state = s.meter.state := by rw [hmoves]; exact Meter.elapse_state s.meter dt
    have huclk : u.clk = s.clk + dt := by rw [hmoves]; rfl
    have hopen (j : Fin 16) : u.feeders[j].state ≠ .opening := by
      rw [hstates]
      split
      · nofun
      next hij => exact hothers j (Ne.symm hij)
    have hcu : LowestPriority u (FirstSetCandidate u) c := by
      unfold LowestPriority FirstSetCandidate
      rw [hucfg, husets]
      exact hc
    have hreact := sequencerReact_of_prepared (humode.trans hmode) (hseq ▸ hphase) hopen (humeter ▸ hmeter) hcu
    have hframe := finish_of_react (before := pinned) hreact
    generalize u.finish pinned = t at hexec hframe
    have hsets : t.sets = s.sets.set c (deadBusSet s c (s.clk + dt)) := by
      have hdead : deadBusSet u c u.clk = deadBusSet s c (s.clk + dt) := by
        unfold deadBusSet
        rw [husets, hucfg, huclk]
      rw [← hdead, ← husets, hframe]
      rfl
    refine ⟨t, hexec, ?_, ?_, ?_, ?_, ?_, fun k hk => ?_⟩
    · rw [hframe]
      exact humode.trans hmode
    · rw [hframe]
      rfl
    · rw [hframe]
      rfl
    · rw [hframe]
      rfl
    · rw [hsets, Fin.getElem_fin, Vector.getElem_set_self]
    · rw [hsets, Fin.getElem_fin, Vector.getElem_set_ne _ _ fun h => hk (Fin.ext h).symm]
      rfl
  · let v := s.elapse dt
    have hexec : exec (.triggerTimerExpiry dt) s = .next (v.beginSequence.finish v) := by
      refine congrArg Host.Outcome.next ((event_of_running hrun dt _).trans ?_)
      exact congrArg (fun t : State => t.finish v) (if_pos (due_of_le (s := v) ht hdue))
    have hisland : IslandEventFrame v (v.beginSequence.finish v) := island_trans (beginSequence_island v) (finish_island _ v)
    have hgiven := beginSequence_given v
    have hstands := triggered_stands v
    have humode := beginSequence_mode v
    have hattempts := triggered_attempts v
    have hprepares := triggered_prepares v
    have hmeterw := triggered_meter v
    generalize v.beginSequence = u at *
    generalize v.triggered = w at *
    have hframe := hgiven.frame
    have hcfg : u.cfg = s.cfg := by rw [hframe]; exact hstands.cfg
    have hclk : u.clk = s.clk + dt := by rw [hframe]; exact hstands.clk
    have humeter : u.meter.state = s.meter.state := by
      rw [hframe]
      exact (congrArg Meter.state hmeterw).trans (Meter.elapse_state s.meter dt)
    have hfeeders (j : Fin 16) : u.feeders[j] = afterOpenAll s j (s.clk + dt) :=
      (hgiven.feeders j).trans (afterOpenAll_of_stands hstands j)
    have hstates (k : Fin 8) (hk : 0 < s.cfg.roster[k].rating) :
        u.sets[k].state = if s.sets[k].state = .starting then .stopped else s.sets[k].state := by
      rw [hgiven.sets k (hstands.cfg ▸ hk), State.stoppedState, hstands.states, hstands.cfg]
      exact stoppedState_of_not_online (hnone k hk)
    have hcu : LowestPriority u (FirstSetCandidate u) c := by
      have hcandidate (k : Fin 8) := candidates_after_stopAll (s := s) (t := u)
        (fun k hk => (hstates k hk).trans (stoppedState_of_not_online (hnone k hk)).symm) hcfg hnone k
      obtain ⟨hself, hleast⟩ := hc
      refine ⟨(hcandidate c).mpr hself, fun k hk hne => ?_⟩
      rw [hcfg]
      exact hleast k ((hcandidate k).mp hk) hne
    have hreact := sequencerReact_of_prepared humode (by rw [hframe]; exact hprepares.1)
      (fun j => hfeeders j ▸ not_opening_after_openAll hnoOpens _ j) (humeter ▸ hmeter) hcu
    have hend := finish_of_react (before := v) hreact
    generalize u.finish v = t at hexec hisland hend
    have hsets : t.sets = u.sets.set c (deadBusSet u c u.clk) := by rw [hend]; rfl
    have hself : t.sets[c] = deadBusSet u c u.clk := by rw [hsets, Fin.getElem_fin, Vector.getElem_set_self]
    have hother (k : Fin 8) (hk : k ≠ c) : t.sets[k] = u.sets[k] := by
      rw [hsets, Fin.getElem_fin, Vector.getElem_set_ne _ _ fun h => hk (Fin.ext h).symm]
      rfl
    have htfeeders : t.feeders = u.feeders := by rw [hend]; rfl
    refine ⟨t, hexec, hisland, ?_, ?_, ?_, ?_, ?_, ?_, ?_, ?_, ?_, fun j => ?_, fun k hk hconf => ?_⟩
    case refine_10 => rw [htfeeders]; exact hfeeders j
    case refine_11 => rw [hother k hk]; exact hstates k hconf
    case refine_6 | refine_7 | refine_8 => rw [hself]; rfl
    case refine_9 => rw [hself, ← hclk, ← hcfg]; rfl
    all_goals rw [hend]
    · exact humode
    · rfl
    · show u.seq.attempts = 1
      rw [hframe]
      exact hattempts
    · rfl
    · rfl

end Sys2Proof.Machine
end

section
/-! The looks of the Black-Start Sequencer do not read ALERT, and the end of an event on sets (R145 to R147, R168). -/

namespace Sys2Proof.Machine

variable {s t u x before : State} {i : Fin 8}

/-- The state with ALERT at a level. -/
def State.withAlert (s : State) (b : Bool) : State := { s with alertPin := b }

section Alert

variable (s : State) (b : Bool)

/-- Both branches, under a condition that does not read ALERT. -/
theorem ite_withAlert {c : Prop} [Decidable c] {x y x' y' : State} (hx : x' = x.withAlert b) (hy : y' = y.withAlert b) :
    (if c then x' else y') = (if c then x else y).withAlert b := by
  rw [hx, hy]
  exact (apply_ite (fun t : State => t.withAlert b) _ _ _).symm

theorem foldl_withAlert {α : Type} {f : State → α → State} (hf : ∀ s a, f (s.withAlert b) a = (f s a).withAlert b) (l : List α) :
    ∀ s : State, l.foldl f (s.withAlert b) = (l.foldl f s).withAlert b := by
  induction l with
  | nil => exact fun _ => rfl
  | cons a l ih =>
    intro s
    rw [List.foldl_cons, List.foldl_cons, hf, ih]

theorem redirect_withAlert (i : Fin 8) : (s.withAlert b).redirect i = (s.redirect i).withAlert b := ite_withAlert b rfl rfl

theorem updateSet_withAlert (i : Fin 8) (f : SetRec → SetRec) : (s.withAlert b).updateSet i f = (s.updateSet i f).withAlert b :=
  redirect_withAlert { s with sets := modifyAt s.sets i f } b i

theorem redirectAll_withAlert : (s.withAlert b).redirectAll = s.redirectAll.withAlert b :=
  foldl_withAlert b (fun s => redirect_withAlert s b) _ s

theorem clearMark_withAlert (i : Fin 8) : (s.withAlert b).clearMark i = (s.clearMark i).withAlert b := by
  have hunmark := updateSet_withAlert s b i SetRec.unmark
  unfold State.clearMark
  dsimp only
  rw [hunmark]
  exact ite_withAlert b (ite_withAlert b (updateSet_withAlert _ b i _) rfl) rfl

theorem clearMarks_withAlert : (s.withAlert b).clearMarks = s.clearMarks.withAlert b :=
  foldl_withAlert b (fun s => clearMark_withAlert s b) _ s

theorem setMode_withAlert (m : Mode) : (s.withAlert b).setMode m = (s.setMode m).withAlert b :=
  ite_withAlert b rfl (redirectAll_withAlert { s with
    mode := m, shortfall := none, surplus := none, reserveShed := none
    seq := { s.seq with trigger := if m = Mode.dispatch then s.seq.trigger else none } } b)

theorem endInObserve_withAlert (failed : Bool) : (s.withAlert b).endInObserve failed = (s.endInObserve failed).withAlert b := by
  have hmode := setMode_withAlert { s with seq := s.seq.ended failed, ordering := false, forcedZero := false } b .observe
  exact (congrArg State.clearMarks hmode).trans (clearMarks_withAlert _ b)

theorem lookAddSets_withAlert : (s.withAlert b).lookAddSets = s.lookAddSets.withAlert b := by
  have hlowest : (s.withAlert b).lowestPriority (((s.withAlert b).setsIn [.stopped]).filter fun i => !(s.withAlert b).seq.passedOver.contains i)
      = s.lowestPriority ((s.setsIn [.stopped]).filter fun i => !s.seq.passedOver.contains i) := rfl
  unfold State.lookAddSets
  rw [hlowest]
  cases s.lowestPriority ((s.setsIn [.stopped]).filter fun i => !s.seq.passedOver.contains i) with
  | none => exact ite_withAlert b rfl rfl
  | some i => exact ite_withAlert b rfl (updateSet_withAlert { s with seq := { s.seq with runOrder := some i } } b i _)

theorem enterAddSets_withAlert : (s.withAlert b).enterAddSets = s.enterAddSets.withAlert b := lookAddSets_withAlert s.addingSets b

theorem addSetsCheck_withAlert : (s.withAlert b).addSetsCheck = s.addSetsCheck.withAlert b := by
  have horder : (s.withAlert b).seq.runOrder = s.seq.runOrder := rfl
  unfold State.addSetsCheck
  rw [horder]
  cases s.seq.runOrder with
  | none => exact ite_withAlert b rfl rfl
  | some i => exact ite_withAlert b (ite_withAlert b rfl (lookAddSets_withAlert { s with seq := _ } b)) rfl

theorem lookFirstSet_withAlert : (s.withAlert b).lookFirstSet = s.lookFirstSet.withAlert b := by
  have hlowest : (s.withAlert b).lowestPriority (s.withAlert b).firstSetCandidates = s.lowestPriority s.firstSetCandidates := rfl
  unfold State.lookFirstSet
  rw [hlowest]
  refine ite_withAlert b (enterAddSets_withAlert s b) ?_
  cases s.lowestPriority s.firstSetCandidates with
  | none => exact ite_withAlert b rfl (endInObserve_withAlert s b true)
  | some i => exact updateSet_withAlert { s with seq := { s.seq with candidate := some i } } b i _

theorem candidateCheck_withAlert : (s.withAlert b).candidateCheck = s.candidateCheck.withAlert b := by
  have hcandidate : (s.withAlert b).seq.candidate = s.seq.candidate := rfl
  unfold State.candidateCheck
  rw [hcandidate]
  cases s.seq.candidate with
  | none => exact lookFirstSet_withAlert s b
  | some c => exact ite_withAlert b (lookFirstSet_withAlert s.unnamed b) rfl

theorem formedCheck_withAlert : (s.withAlert b).formedCheck = s.formedCheck.withAlert b := by
  have hcandidate : (s.withAlert b).seq.candidate = s.seq.candidate := rfl
  have honline (c : Fin 8) : ((s.withAlert b).setOnline c).enterAddSets = (s.setOnline c).enterAddSets.withAlert b :=
    (congrArg State.enterAddSets (updateSet_withAlert s b c _)).trans (enterAddSets_withAlert _ b)
  have hclear (c : Fin 8) : ((s.withAlert b).clearMark c).enterAddSets = (s.clearMark c).enterAddSets.withAlert b :=
    (congrArg State.enterAddSets (clearMark_withAlert s b c)).trans (enterAddSets_withAlert _ b)
  unfold State.formedCheck
  rw [hcandidate]
  cases s.seq.candidate with
  | none => rfl
  | some c => exact ite_withAlert b (ite_withAlert b (honline c) (ite_withAlert b (hclear c) rfl)) rfl

theorem firstSetCheck_withAlert : (s.withAlert b).firstSetCheck = s.firstSetCheck.withAlert b := by
  unfold State.firstSetCheck
  dsimp only
  rw [candidateCheck_withAlert]
  exact ite_withAlert b (ite_withAlert b (formedCheck_withAlert _ b) rfl) rfl

end Alert

/-! ## The end of an event that moves no feeder -/

/-- What an event has made when the sequencer comes to look: the trigger timer is clear and ALERT follows. -/
def State.settled (s : State) : State := s.untriggered.refreshAlert

theorem settled_eq (s : State) : s.settled = s.untriggered.withAlert s.untriggered.alertSet.any := rfl

/-- The event goes on with the sequencer's looks. -/
theorem finish_looks (h : ¬ TriggerRuns s) (hprepare : s.seq.phase = .prepare → ∃ i : Fin 16, s.feeders[i].state = .opening)
    (hfeeders : s.feeders = before.feeders) : SequencerLooks s.settled (s.finish before) := by
  have hreact := sequencerReact_of_listens h hprepare
  have hlooks : s.settled.firstSetCheck.addSetsCheck
      = (s.untriggered.firstSetCheck.addSetsCheck).withAlert s.untriggered.alertSet.any := by
    rw [settled_eq, firstSetCheck_withAlert, addSetsCheck_withAlert]
  have hstates : s.sequencerReact.feederStates = before.feederStates := by
    unfold State.feederStates
    rw [(LooksFrame.sequencerReact h).feeders, hfeeders]
  have hend : s.finish before = s.untriggered.firstSetCheck.addSetsCheck.refreshAlert := by
    unfold State.finish State.reportChanges
    rw [if_pos hstates, hreact]
  have hall : s.finish before = { s.settled.firstSetCheck.addSetsCheck with
      alertPin := s.settled.firstSetCheck.addSetsCheck.alertSet.any } := by
    rw [hend, hlooks]
    rfl
  refine ⟨fun hfirst hadd => ?_, hall⟩
  rw [hend, firstSetCheck_of_phase (s := s.untriggered) hfirst, addSetsCheck_of_phase (s := s.untriggered) hadd]
  rfl

/-- While the sequencer listens no trigger begins a sequence and PREPARE does not end. -/
theorem listens_of_frame (h : SequencerListens s) (hmode : t.mode = s.mode) (hphase : t.seq.phase = s.seq.phase)
    (hauto : t.cfg.params = s.cfg.params) (hmeter : t.meter.state = s.meter.state) (hfeeders : t.feeders = s.feeders) :
    ¬ TriggerRuns t ∧ (t.seq.phase = .prepare → ∃ i : Fin 16, t.feeders[i].state = .opening) := by
  rw [hphase, hfeeders]
  obtain ⟨hnone, hno⟩ | ⟨hblack, -, hopening⟩ := h
  · refine ⟨not_triggerRuns fun hd ha => ?_, fun hp => nomatch hnone.symm.trans hp⟩
    rw [hmeter]
    exact hno (hmode ▸ hd) (hauto ▸ ha)
  · exact ⟨not_triggerRuns_of_mode (by rw [hmode, hblack]; nofun), hopening⟩

end Sys2Proof.Machine
end

section
/-! Events on one set: its reports, its timers and Clear Set Fault (R36 to R46, R62, R64). -/

namespace Sys2Proof.Machine

variable {s t u x base before : State} {i : Fin 8} {r r' : SetRec} {rx : Rx}

/-! ## One runtime record moves (R48, R49) -/

/-- Replace a set's runtime record. -/
def State.putSet (s : State) (i : Fin 8) (r : SetRec) : State := { s with sets := s.sets.set i r }

theorem putSet_self (s : State) (i : Fin 8) (r : SetRec) : (s.putSet i r).sets[i] = r := by
  simp [State.putSet]

theorem putSet_ne {j : Fin 8} (h : j ≠ i) (s : State) (r : SetRec) : (s.putSet i r).sets[j] = s.sets[j] := by
  rw [State.putSet, Fin.getElem_fin, Vector.getElem_set_ne _ _ fun hij => h (Fin.ext hij).symm]
  rfl

theorem updateSet_put (s : State) (i : Fin 8) (f : SetRec → SetRec) : s.updateSet i f = (s.putSet i (f s.sets[i])).redirect i := rfl

theorem updateSet_putSet (s : State) (i : Fin 8) (r : SetRec) (f : SetRec → SetRec) :
    (s.putSet i r).updateSet i f = (s.putSet i (f r)).redirect i := by
  rw [updateSet_put, putSet_self]
  simp [State.putSet]

/-- The record keeps its directive and the sequence of it. -/
def KeepsDirective (r r' : SetRec) : Prop := r'.directive = r.directive ∧ r'.dirSeq = r.dirSeq

/-- The event has put `r` in the place of set `i`'s record, and derived its directive again or left it. -/
def SetPut (base : State) (i : Fin 8) (r : SetRec) (x : State) : Prop :=
  KeepsDirective base.sets[i] r ∧ (x = base.putSet i r ∨ x = (base.putSet i r).redirect i)

theorem SetPut.frame (h : SetPut base i r x) : SetsFrame base x := by
  obtain ⟨-, h | h⟩ := h <;> rw [h]
  · rfl
  · exact .trans (t := base.putSet i r) rfl (redirect_setsFrame _ i)

theorem oneSetMoves_of_stands (hx : SetsFrame base x) (hother : ∀ j, j ≠ i → x.sets[j] = base.sets[j])
    (hself : KeepsDirective base.sets[i] x.sets[i]) (hq : x.txQueue = base.txQueue) : OneSetMoves base x.settled i := by
  refine ⟨?_, hother, fun _ => ⟨hself.2, hq⟩, fun h => absurd hself.1 h⟩
  unfold SetsFrame at hx
  rw [hx]
  rfl

theorem SetPut.moves (h : SetPut base i r x) : OneSetMoves base x.settled i := by
  obtain ⟨hkeeps, hx⟩ := h
  have hstands : OneSetMoves base (base.putSet i r).settled i :=
    oneSetMoves_of_stands rfl (fun j hj => putSet_ne hj base r) (by rw [putSet_self]; exact hkeeps) rfl
  obtain hx | hx := hx
  · rwa [hx]
  · obtain hsame | ⟨-, hne, hchanged⟩ := redirect_cases (base.putSet i r) i
    · rwa [hx, hsame]
    · rw [putSet_self] at hne hchanged
      have hsets : x.sets = base.sets.set i { r with directive := directiveOf base.mode r, dirSeq := r.dirSeq + 1 } := by
        rw [hx, hchanged]
        simp [State.putSet]
      have hself : x.sets[i] = { r with directive := directiveOf base.mode r, dirSeq := r.dirSeq + 1 } := by
        rw [hsets]
        simp
      have hq : x.txQueue = enqueue base.txQueue (.setDirective i base.cfg.roster[i].address (directiveOf base.mode r) (r.dirSeq + 1)) := by
        rw [hx, hchanged]
        rfl
      have hframe : SetsFrame base x := hx ▸ .trans (t := base.putSet i r) rfl (redirect_setsFrame _ i)
      refine ⟨?_, fun j hj => ?_, fun hd => absurd ?_ hne, fun _ => ?_⟩
      · unfold SetsFrame at hframe
        rw [hframe]
        rfl
      · show x.sets[j] = _
        rw [hsets]
        exact putSet_ne hj base _
      · have hd : x.sets[i].directive = base.sets[i].directive := hd
        rw [hself] at hd
        exact hd.trans hkeeps.1.symm
      · show x.sets[i].dirSeq = _ ∧ x.txQueue = enqueue _ (.setDirective i _ x.sets[i].directive x.sets[i].dirSeq)
        rw [hself, hq]
        exact ⟨congrArg (· + 1) hkeeps.2, rfl⟩

/-- The record of a configured set once its directive has been derived again. -/
theorem put_redirect_self (hconf : 0 < base.cfg.roster[i].rating) (r : SetRec) :
    ((base.putSet i r).redirect i).sets[i] = r.directed (wantedDirective base.mode r.state r.mark) := by
  rw [redirect_sets_self, State.derivedSet, State.wanted, putSet_self]
  exact if_pos hconf

/-- An event on sets of a running device with its sequencer listening goes on with the sequencer's looks. -/
theorem setEvent_looks {dt : Nat} (h : SequencerListens s) (hbase : base = { s.elapse dt with setSlots := base.setSlots })
    (hx : SetsFrame base x) : SequencerLooks x.settled (x.finish (s.elapse dt)) := by
  have hmeter : x.meter.state = s.meter.state := by
    rw [hx.meter, hbase]
    exact Meter.elapse_state s.meter dt
  have hmode : x.mode = s.mode := by rw [hx.mode, hbase]; rfl
  have hseq : x.seq = s.seq := by rw [hx.seq, hbase]; rfl
  have hcfg : x.cfg = s.cfg := by rw [hx.cfg, hbase]; rfl
  have hfeeders : x.feeders = s.feeders := by
    unfold SetsFrame at hx
    rw [hx, hbase]
    rfl
  obtain ⟨htrigger, hprepare⟩ := listens_of_frame h hmode (congrArg Sequencer.phase hseq) (congrArg _ hcfg) hmeter hfeeders
  exact finish_looks htrigger hprepare hfeeders

/-! ## The report truth table (R37) -/

/-- The report is a failed attempt (R41). -/
abbrev Attempted (r : SetRec) (c : ControllerState) : Prop := r.state = .starting ∧ c = .tripped ∧ r.mark = false

/-- What a report that moves a set to `target` makes of its record. -/
structure ReportMove (r : SetRec) (e : SetEntry) (retry now : Nat) (c : ControllerState) (target : SetState) (r' : SetRec) : Prop where
  state : r'.state = target
  moved : target ≠ r.state
  keeps : KeepsDirective r r'
  lostTimer : r'.lostTimer = r.lostTimer
  stale : r'.stale = r.stale ∨ r'.stale = false
  attempts : r'.attempts = if r'.state = .online then 0 else if Attempted r c then r.attempts + 1 else r.attempts
  cause : r'.cause = if r'.state = .online then .none
    else if r'.state = .failed then
      (if r.state = .starting then (if r.mark = true then .bsStartFailed else .startExhausted) else .tripped)
    else r.cause
  minRun : r'.state = .online → r'.minRun = if r.state = .unknown ∨ e.minRun = 0 then .elapsed
    else .running (now + 300000000 * e.minRun)
  startTimer : r'.state = .starting → r'.startTimer = some (now + 50000000 * e.startTimeout)
  minDown : r'.state = .resting → r'.minDown = some (now + (if Attempted r c then
      max (10000000 * retry) (300000000 * e.minDown) else 300000000 * e.minDown))

namespace ReportMove

variable {e : SetEntry} {retry now : Nat} {c : ControllerState} {target : SetState}

theorem goStopped (hr : r.state ≠ .stopped) (ha : ¬ Attempted r c) : ReportMove r e retry now c .stopped r.goStopped where
  state := rfl
  moved := hr.symm
  keeps := ⟨rfl, rfl⟩
  lostTimer := rfl
  stale := .inr rfl
  attempts := (if_neg ha).symm
  cause := rfl
  minRun := nofun
  startTimer := nofun
  minDown := nofun

theorem goUnavailable (hr : r.state ≠ .unavailable) (ha : ¬ Attempted r c) :
    ReportMove r e retry now c .unavailable r.goUnavailable where
  state := rfl
  moved := hr.symm
  keeps := ⟨rfl, rfl⟩
  lostTimer := rfl
  stale := .inr rfl
  attempts := (if_neg ha).symm
  cause := rfl
  minRun := nofun
  startTimer := nofun
  minDown := nofun

theorem goStarting (hr : r.state ≠ .starting) : ReportMove r e retry now c .starting (r.goStarting e now) where
  state := rfl
  moved := hr.symm
  keeps := ⟨rfl, rfl⟩
  lostTimer := rfl
  stale := .inl rfl
  attempts := (if_neg fun h => hr h.1).symm
  cause := rfl
  minRun := nofun
  startTimer := fun _ => congrArg (fun l => some (now + l)) (startLength_eq e)
  minDown := nofun

theorem goOnline {minRun : MinRun} (hr : r.state ≠ .online)
    (hm : minRun = if r.state = .unknown ∨ e.minRun = 0 then .elapsed else .running (now + 300000000 * e.minRun)) :
    ReportMove r e retry now c .online (r.goOnline minRun) where
  state := rfl
  moved := hr.symm
  keeps := ⟨rfl, rfl⟩
  lostTimer := rfl
  stale := .inr rfl
  attempts := rfl
  cause := rfl
  minRun := fun _ => hm
  startTimer := nofun
  minDown := nofun

/-- A set that was not UNKNOWN starts its minimum run (R39). -/
theorem goOnline_started (hr : r.state ≠ .online) (hu : r.state ≠ .unknown) :
    ReportMove r e retry now c .online (r.goOnline (startedMinRun e now)) := by
  exact goOnline hr ((startedMinRun_eq e now).trans (if_congr (or_iff_right hu).symm rfl rfl))

theorem goFailed {a : Nat} {cause : FaultCause} (hr : r.state ≠ .failed)
    (ha : a = if Attempted r c then r.attempts + 1 else r.attempts)
    (hc : cause = if r.state = .starting then (if r.mark = true then .bsStartFailed else .startExhausted) else .tripped) :
    ReportMove r e retry now c .failed ({ r with attempts := a }.goFailed cause) where
  state := rfl
  moved := hr.symm
  keeps := ⟨rfl, rfl⟩
  lostTimer := rfl
  stale := .inr rfl
  attempts := ha
  cause := hc
  minRun := nofun
  startTimer := nofun
  minDown := nofun

/-- A trip outside a start (R37). -/
theorem tripped (hr : r.state ≠ .failed) (hs : r.state ≠ .starting) : ReportMove r e retry now c .failed (r.goFailed .tripped) :=
  goFailed (a := r.attempts) hr (if_neg fun h => hs h.1).symm (if_neg hs).symm

theorem goResting {a length rest : Nat} (hresting : r.state ≠ .resting) (hstopped : r.state ≠ .stopped)
    (ha : a = if Attempted r c then r.attempts + 1 else r.attempts)
    (hl : length = if Attempted r c then max (10000000 * retry) (300000000 * e.minDown) else 300000000 * e.minDown)
    (hrest : length = 0 ↔ rest = 0) :
    ReportMove r e retry now c (stateAtRest rest) ({ r with attempts := a }.goResting length now) := by
  have hcases : stateAtRest rest = .stopped ∨ stateAtRest rest = .resting := ite_eq_or_eq _ _ _
  have hstate : ({ r with attempts := a }.goResting length now).state = stateAtRest rest := if_congr hrest rfl rfl
  have honline : stateAtRest rest ≠ .online := by obtain h | h := hcases <;> rw [h] <;> nofun
  have hfailed : stateAtRest rest ≠ .failed := by obtain h | h := hcases <;> rw [h] <;> nofun
  refine ⟨hstate, ?_, ⟨rfl, rfl⟩, rfl, .inr rfl, ?_, ?_, fun h => absurd (hstate.symm.trans h) honline, fun h => ?_, fun h => ?_⟩
  · obtain h | h := hcases <;> rw [h]
    · exact hstopped.symm
    · exact hresting.symm
  · rw [hstate, if_neg honline]
    exact ha
  · rw [hstate, if_neg honline, if_neg hfailed]
    rfl
  · obtain h' | h' := hcases <;> exact nomatch (hstate.symm.trans h).symm.trans h'
  · rw [← hl]
    refine if_neg fun hzero => ?_
    rw [hstate, stateAtRest, if_pos (hrest.mp hzero)] at h
    exact nomatch h

/-- A set that leaves the bus rests for its minimum down (R40). -/
theorem leftBus (hresting : r.state ≠ .resting) (hstopped : r.state ≠ .stopped) (hc : c ≠ .tripped) :
    ReportMove r e retry now c (stateAtRest (30 * e.minDown)) (r.goResting e.downLength now) :=
  goResting (a := r.attempts) hresting hstopped (if_neg fun h => hc h.2.1).symm
    ((downLength_eq e).trans (if_neg fun h => hc h.2.1).symm) (downLength_eq_zero e)

end ReportMove

theorem max_length_eq_zero (a b : Nat) : max (10000000 * a) (300000000 * b) = 0 ↔ max a (30 * b) = 0 := by omega

/-- The rest after a failed attempt, as a length (R41). -/
theorem retryLength_eq (s : State) (i : Fin 8) : max (sec (s.par RETRY_DELAY)) s.cfg.roster[i].downLength =
    max (10000000 * s.cfg.params[RETRY_DELAY]) (300000000 * s.cfg.roster[i].minDown) := by
  rw [sec_eq, downLength_eq]
  rfl

/-- A failed attempt of a set under an ordinary start (R41). -/
theorem failedAttempt_move (s : State) (i : Fin 8) (hstarting : s.sets[i].state = .starting) (hmark : s.sets[i].mark = false) :
    ReportMove s.sets[i] s.cfg.roster[i] s.cfg.params[RETRY_DELAY] s.clk .tripped (stateAfterFailedAttempt s i)
      (s.sets[i].failAttempt (s.par MAX_ATTEMPTS) (max (sec (s.par RETRY_DELAY)) s.cfg.roster[i].downLength) s.clk) := by
  have ha : Attempted s.sets[i] .tripped := ⟨hstarting, rfl, hmark⟩
  unfold SetRec.failAttempt stateAfterFailedAttempt
  rw [retryLength_eq]
  by_cases h : s.cfg.params[MAX_ATTEMPTS] ≤ s.sets[i].attempts + 1
  · rw [if_pos h]
    refine (if_pos h : _ = _) ▸ .goFailed (by rw [hstarting]; nofun) (if_pos ha).symm ?_
    rw [if_pos hstarting, if_neg (by rw [hmark]; nofun)]
  · rw [if_neg h]
    refine (if_neg h : _ = _) ▸ .goResting (by rw [hstarting]; nofun) (by rw [hstarting]; nofun) (if_pos ha).symm (if_pos ha).symm ?_
    exact max_length_eq_zero _ _

/-- A report leaves the record alone, or moves it as the truth table says (R37). -/
theorem reportEvent_moves (s : State) (i : Fin 8) (c : ControllerState) :
    (stateAfterReport s i c = s.sets[i].state ∧ s.reportEvent i c = s)
      ∨ ∃ f, s.reportEvent i c = s.updateSet i f
        ∧ ReportMove s.sets[i] s.cfg.roster[i] s.cfg.params[RETRY_DELAY] s.clk c (stateAfterReport s i c) (f s.sets[i]) := by
  have hstate {st st' : SetState} (h : s.sets[i].state = st) (hne : st ≠ st') : s.sets[i].state ≠ st' := h ▸ hne
  have hattempted (h : s.sets[i].state ≠ .starting ∨ c ≠ .tripped) : ¬ Attempted s.sets[i] c := fun ha => h.elim (· ha.1) (· ha.2.1)
  unfold State.reportEvent stateAfterReport
  cases hst : s.sets[i].state with
  | unknown =>
    have hattempted := hattempted (.inl (hstate hst nofun))
    cases c with
    | off => exact .inr ⟨_, rfl, .goStopped (hstate hst nofun) hattempted⟩
    | cranking | running => exact .inr ⟨_, rfl, .goStarting (hstate hst nofun)⟩
    | onBus => exact .inr ⟨_, rfl, .goOnline (hstate hst nofun) (if_pos (.inl hst)).symm⟩
    | tripped => exact .inr ⟨_, rfl, .tripped (hstate hst nofun) (hstate hst nofun)⟩
    | notReady => exact .inr ⟨_, rfl, .goUnavailable (hstate hst nofun) hattempted⟩
  | stopped =>
    cases c with
    | onBus => exact .inr ⟨_, rfl, .goOnline_started (hstate hst nofun) (hstate hst nofun)⟩
    | notReady => exact .inr ⟨_, rfl, .goUnavailable (hstate hst nofun) (hattempted (.inr nofun))⟩
    | off | cranking | running | tripped => exact .inl ⟨rfl, rfl⟩
  | starting =>
    cases c with
    | onBus =>
      by_cases hmark : s.sets[i].mark = true
      · exact .inl ⟨if_pos hmark, if_pos hmark⟩
      · dsimp only
        rw [if_neg hmark, if_neg hmark]
        exact .inr ⟨_, rfl, .goOnline_started (hstate hst nofun) (hstate hst nofun)⟩
    | tripped =>
      dsimp only
      by_cases hmark : s.sets[i].mark = true
      · rw [if_pos hmark, if_pos hmark]
        refine .inr ⟨_, rfl, .goFailed (hstate hst nofun) (if_neg fun h => ?_).symm ?_⟩
        · exact nomatch hmark.symm.trans h.2.2
        · rw [if_pos hst, if_pos hmark]
      · rw [if_neg hmark, if_neg hmark]
        exact .inr ⟨_, rfl, failedAttempt_move s i hst (Bool.eq_false_iff.mpr hmark)⟩
    | notReady => exact .inr ⟨_, rfl, .goUnavailable (hstate hst nofun) (hattempted (.inr nofun))⟩
    | off | cranking | running => exact .inl ⟨rfl, rfl⟩
  | online =>
    cases c with
    | off | cranking | running => exact .inr ⟨_, rfl, .leftBus (hstate hst nofun) (hstate hst nofun) nofun⟩
    | onBus => exact .inl ⟨rfl, rfl⟩
    | tripped => exact .inr ⟨_, rfl, .tripped (hstate hst nofun) (hstate hst nofun)⟩
    | notReady => exact .inr ⟨_, rfl, .goUnavailable (hstate hst nofun) (hattempted (.inr nofun))⟩
  | stopping =>
    cases c with
    | off => exact .inr ⟨_, rfl, .leftBus (hstate hst nofun) (hstate hst nofun) nofun⟩
    | tripped => exact .inr ⟨_, rfl, .tripped (hstate hst nofun) (hstate hst nofun)⟩
    | notReady => exact .inr ⟨_, rfl, .goUnavailable (hstate hst nofun) (hattempted (.inr nofun))⟩
    | cranking | running | onBus => exact .inl ⟨rfl, rfl⟩
  | resting =>
    cases c with
    | onBus => exact .inr ⟨_, rfl, .goOnline_started (hstate hst nofun) (hstate hst nofun)⟩
    | notReady => exact .inr ⟨_, rfl, .goUnavailable (hstate hst nofun) (hattempted (.inr nofun))⟩
    | off | cranking | running | tripped => exact .inl ⟨rfl, rfl⟩
  | failed => cases c <;> exact .inl ⟨rfl, rfl⟩
  | unavailable =>
    cases c with
    | off => exact .inr ⟨_, rfl, .goStopped (hstate hst nofun) (hattempted (.inr nofun))⟩
    | onBus => exact .inr ⟨_, rfl, .goOnline_started (hstate hst nofun) (hstate hst nofun)⟩
    | cranking | running | tripped | notReady => exact .inl ⟨rfl, rfl⟩

/-- Settles O43. -/
theorem setReportFollowsTheTruthTable : Obligations.SetReportFollowsTheTruthTable := by
  intro s rx code output i c h hlistens hconf haddress hunique hcode now r e attempted
  let v := s.elapse rx.dt
  let base : State := { v with setSlots := s.setSlots.set i (some ⟨c, output.toNat, now⟩) }
  let renewed : SetRec := { r with lostTimer := some (now + 100000000), stale := false }
  let taken : State := base.putSet i renewed
  have hrenewed : taken.sets[i] = renewed := putSet_self base i renewed
  have htarget : stateAfterReport taken i c = stateAfterReport s i c := by
    unfold stateAfterReport stateAfterFailedAttempt
    rw [hrenewed]
    rfl
  have hexec : exec (.setReport rx code output) s = .next ((taken.reportEvent i c).finish v) := by
    have hset : v.setAt rx.src.toNat = some i := setAt_eq_some hconf haddress hunique
    refine congrArg Host.Outcome.next ((frameEvent_of_heard h _).trans ?_)
    unfold State.setReport
    rw [hset, hcode]
    rfl
  have hstands : KeepsDirective base.sets[i] renewed := ⟨rfl, rfl⟩
  obtain ⟨hsame, hnone⟩ | ⟨f, hmoves, hmove⟩ := reportEvent_moves taken i c
  · have hput : SetPut base i renewed taken := ⟨hstands, .inl rfl⟩
    rw [htarget, hrenewed] at hsame
    rw [hnone] at hexec
    have hself : taken.settled.sets[i] = renewed := hrenewed
    refine ⟨taken.settled, _, hexec, setEvent_looks hlistens rfl hput.frame, hput.moves, ?_⟩
    rw [hself]
    exact ⟨hsame.symm, rfl, rfl, fun _ => rfl, fun hne => absurd hsame hne⟩
  · rw [htarget, hrenewed] at hmove
    have hx : taken.updateSet i f = (base.putSet i (f renewed)).redirect i := updateSet_putSet base i renewed f
    have hput : SetPut base i (f renewed) ((base.putSet i (f renewed)).redirect i) := ⟨hmove.keeps, .inr rfl⟩
    have hself : ((base.putSet i (f renewed)).redirect i).settled.sets[i] =
      (f renewed).directed (wantedDirective s.mode (f renewed).state (f renewed).mark) := put_redirect_self (base := base) hconf _
    rw [hmoves, hx] at hexec
    refine ⟨_, _, hexec, setEvent_looks hlistens rfl hput.frame, hput.moves, ?_⟩
    rw [hself]
    refine ⟨hmove.state, hmove.lostTimer, hmove.stale.elim id id, fun hsame => absurd hsame hmove.moved, fun _ => ⟨rfl, ?_, ?_, ?_, ?_, ?_⟩⟩
    · exact hmove.attempts
    · exact hmove.cause
    · exact hmove.minRun
    · exact hmove.startTimer
    · exact hmove.minDown

end Sys2Proof.Machine
end

section
/-! The timers of a set, Clear Set Fault and BSABORT (R39 to R46, R62, R64, R152). -/

namespace Sys2Proof.Machine

variable {s t u x base before : State} {i k : Fin 8} {r : SetRec} {rx : Rx}

/-! ## A set that has failed stands (R46) -/

/-- Set `i` has failed with the record `r`, and holds the directive of a FAILED set. -/
def StaysFailed (r : SetRec) (i : Fin 8) (s : State) : Prop :=
  (∃ d n, s.sets[i] = { r with directive := d, dirSeq := n })
    ∧ (0 < s.cfg.roster[i].rating → s.sets[i].directive = wantedDirective s.mode .failed false)

section Failed

variable (hr : r.state = .failed) (hmark : r.mark = false)
include hr

theorem StaysFailed.state (h : StaysFailed r i s) : s.sets[i].state = .failed := by
  obtain ⟨⟨d, n, h⟩, -⟩ := h
  rw [h]
  exact hr

theorem StaysFailed.ne_of_state (h : StaysFailed r i s) (hk : s.sets[k].state ≠ .failed) : i ≠ k := fun hik =>
  hk (hik ▸ h.state hr)

omit hr in
theorem StaysFailed.of_sets (h : StaysFailed r i s) (ht : t.sets[i] = s.sets[i]) (hcfg : t.cfg = s.cfg) (hmode : t.mode = s.mode) :
    StaysFailed r i t := by
  unfold StaysFailed
  rw [ht, hcfg, hmode]
  exact h

omit hr in
theorem StaysFailed.updateSet (h : StaysFailed r i s) (hik : i ≠ k) (f : SetRec → SetRec) : StaysFailed r i (s.updateSet k f) :=
  have hframe := updateSet_setsFrame s k f
  h.of_sets (updateSet_sets_ne s hik f) hframe.cfg hframe.mode

include hmark in
omit hr in
theorem StaysFailed.clearMark (h : StaysFailed r i s) (k : Fin 8) : StaysFailed r i (s.clearMark k) := by
  by_cases hik : i = k
  · subst hik
    have hnone : s.sets[i].mark = false := by
      obtain ⟨⟨d, n, h⟩, -⟩ := h
      rw [h]
      exact hmark
    have hsame : s.clearMark i = s := if_neg (by rw [hnone]; nofun)
    rwa [hsame]
  · have hframe := clearMark_setsFrame s k
    exact h.of_sets (clearMark_sets_ne hik) hframe.cfg hframe.mode

omit hr in
theorem StaysFailed.foldl {α : Type} {f : State → α → State} (hf : ∀ s a, StaysFailed r i s → StaysFailed r i (f s a)) (l : List α) :
    ∀ s, StaysFailed r i s → StaysFailed r i (l.foldl f s) := by
  induction l with
  | nil => exact fun _ h => h
  | cons a l ih => exact fun s h => ih _ (hf s a h)

theorem StaysFailed.lookAddSets (h : StaysFailed r i s) : StaysFailed r i s.lookAddSets := by
  unfold State.lookAddSets
  split
  · exact h
  · split
    next k hk =>
      have hstopped := stopped_of_lowestPriority hk
      exact StaysFailed.updateSet (s := { s with seq := { s.seq with runOrder := some k } }) h
        (h.ne_of_state hr (by rw [hstopped]; nofun)) _
    · exact h

theorem StaysFailed.enterAddSets (h : StaysFailed r i s) : StaysFailed r i s.enterAddSets :=
  .lookAddSets hr (s := s.addingSets) h

theorem StaysFailed.addSetsCheck (h : StaysFailed r i s) : StaysFailed r i s.addSetsCheck := by
  unfold State.addSetsCheck
  split
  · split
    · dsimp only
      split
      · exact h
      · exact .lookAddSets hr h
    · exact h
  · exact h

include hmark

theorem StaysFailed.redirectAll (h : ∃ d n, s.sets[i] = { r with directive := d, dirSeq := n }) : StaysFailed r i s.redirectAll := by
  obtain ⟨d, n, h⟩ := h
  have hwanted : s.wanted i = wantedDirective s.mode .failed false := by
    unfold State.wanted
    rw [h, hr, hmark]
  have hframe := redirectAll_setsFrame s
  unfold StaysFailed
  rw [hframe.cfg, hframe.mode, redirectAll_sets, State.derivedSet]
  by_cases hconf : 0 < s.cfg.roster[i].rating
  · rw [if_pos hconf, hwanted, h]
    exact ⟨⟨_, _, rfl⟩, fun _ => rfl⟩
  · rw [if_neg hconf]
    exact ⟨⟨d, n, h⟩, fun hc => absurd hc hconf⟩

theorem StaysFailed.setMode (h : StaysFailed r i s) (m : Mode) : StaysFailed r i (s.setMode m) := by
  by_cases hm : s.mode = m
  · rw [State.setMode, if_pos hm]
    exact h
  · rw [setMode_of_ne hm]
    exact .redirectAll hr hmark h.1

theorem StaysFailed.endInObserve (h : StaysFailed r i s) (failed : Bool) : StaysFailed r i (s.endInObserve failed) :=
  .foldl (fun _ k h => h.clearMark hmark k) _ _ (.setMode hr hmark (s := { s with
    seq := s.seq.ended failed, ordering := false, forcedZero := false }) h .observe)

theorem StaysFailed.lookFirstSet (h : StaysFailed r i s) : StaysFailed r i s.lookFirstSet := by
  unfold State.lookFirstSet
  split
  · exact h.enterAddSets hr
  · split
    next k hk =>
      have hstate := (mem_firstSetCandidates.mp (leastBy_mem _ hk)).2
      exact StaysFailed.updateSet (s := { s with seq := { s.seq with candidate := some k } }) h
        (h.ne_of_state hr (by obtain hst | hst := hstate <;> rw [hst] <;> nofun)) _
    · split
      · exact h
      · exact h.endInObserve hr hmark true

theorem StaysFailed.candidateCheck (h : StaysFailed r i s) : StaysFailed r i s.candidateCheck := by
  unfold State.candidateCheck
  split
  · split
    · exact .lookFirstSet hr hmark (s := s.unnamed) h
    · exact h
  · exact h.lookFirstSet hr hmark

theorem StaysFailed.formedCheck (h : StaysFailed r i s) : StaysFailed r i s.formedCheck := by
  unfold State.formedCheck
  split
  next c _ =>
    split
    · split
      next hc =>
        have hic : i ≠ c := by
          rintro rfl
          obtain ⟨⟨d, n, h⟩, -⟩ := h
          have hm := hc.2
          rw [h] at hm
          exact nomatch hmark.symm.trans hm
        exact (h.updateSet hic _).enterAddSets hr
      · split
        · exact (h.clearMark hmark c).enterAddSets hr
        · exact h
    · exact h
  · exact h

theorem StaysFailed.firstSetCheck (h : StaysFailed r i s) : StaysFailed r i s.firstSetCheck := by
  have hc := h.candidateCheck hr hmark
  unfold State.firstSetCheck
  split
  · dsimp only
    split
    · exact hc.formedCheck hr hmark
    · exact hc
  · exact h

theorem StaysFailed.finish (h : StaysFailed r i s) (hno : ¬ TriggerRuns s) (before : State) : StaysFailed r i (s.finish before) := by
  have hprepared : StaysFailed r i s.untriggered.prepareCheck := by
    unfold State.prepareCheck
    split <;> exact h
  have hreact : StaysFailed r i s.sequencerReact := by
    unfold State.sequencerReact
    rw [triggerCheck_of_not hno]
    exact (hprepared.firstSetCheck hr hmark).addSetsCheck hr
  unfold State.finish
  rw [reportChanges_eq]
  exact hreact

end Failed

/-! ## The timers of a set (R39 to R46, R62) -/

/-- The record of a set once its directive has been derived again, whether it is configured or not. -/
theorem put_redirect_record (base : State) (i : Fin 8) (r : SetRec) : ∃ d n,
    ((base.putSet i r).redirect i).sets[i] = { r with directive := d, dirSeq := n } := by
  rw [redirect_sets_self, State.derivedSet, putSet_self]
  split
  · exact ⟨_, _, rfl⟩
  · exact ⟨r.directive, r.dirSeq, rfl⟩

/-- What an expiry that puts `r` in the place of a set's record shows at its end. -/
structure SetExpired (s base : State) (i : Fin 8) (r : SetRec) (u t : State) : Prop where
  moves : OneSetMoves base u i
  looks : SequencerLooks u t
  record : u.sets[i] = { r with directive := u.sets[i].directive, dirSeq := u.sets[i].dirSeq }
  directive : 0 < s.cfg.roster[i].rating → u.sets[i].directive = wantedDirective s.mode r.state r.mark

theorem setExpired_of_update {dt : Nat} (h : SequencerListens s) (hkeeps : KeepsDirective s.sets[i] r)
    (hx : x = ((s.elapse dt).putSet i r).redirect i) : SetExpired s (s.elapse dt) i r x.settled (x.finish (s.elapse dt)) := by
  have hput : SetPut (s.elapse dt) i r x := ⟨hkeeps, .inr hx⟩
  have hrecord : ∃ d n, x.settled.sets[i] = { r with directive := d, dirSeq := n } := by
    show ∃ d n, x.sets[i] = _
    rw [hx]
    exact put_redirect_record _ _ _
  obtain ⟨d, n, hrecord⟩ := hrecord
  refine ⟨hput.moves, setEvent_looks h rfl hput.frame, ?_, fun hconf => ?_⟩
  · rw [hrecord]
  · show x.sets[i].directive = _
    rw [hx]
    exact congrArg SetRec.directive (put_redirect_self (base := s.elapse dt) hconf r)

/-- What a failed attempt makes of a record (R41). -/
theorem failAttempt_state (s : State) (i : Fin 8) :
    (s.sets[i].failAttempt (s.par MAX_ATTEMPTS) (max (sec (s.par RETRY_DELAY)) s.cfg.roster[i].downLength) s.clk).state
      = stateAfterFailedAttempt s i := by
  unfold SetRec.failAttempt stateAfterFailedAttempt
  rw [retryLength_eq, apply_ite SetRec.state]
  exact if_congr Iff.rfl rfl (if_congr (max_length_eq_zero _ _) rfl rfl)

theorem failAttempt_cases (r : SetRec) (maxAttempts length now : Nat) :
    r.failAttempt maxAttempts length now = { r with attempts := r.attempts + 1 }.goFailed .startExhausted
      ∨ r.failAttempt maxAttempts length now = { r with attempts := r.attempts + 1 }.goResting length now := ite_eq_or_eq _ _ _

theorem failAttempt_fields (r : SetRec) (maxAttempts length now : Nat) : let r' := r.failAttempt maxAttempts length now
    KeepsDirective r r' ∧ r'.attempts = r.attempts + 1 ∧ r'.startTimer = none ∧ r'.mark = false
      ∧ (r'.state = .failed → r'.cause = .startExhausted) ∧ (r'.state = .resting → r'.minDown = some (now + length)) := by
  dsimp only
  obtain h | h := failAttempt_cases r maxAttempts length now <;> rw [h]
  · exact ⟨⟨rfl, rfl⟩, rfl, rfl, rfl, fun _ => rfl, nofun⟩
  · refine ⟨⟨rfl, rfl⟩, rfl, rfl, rfl, fun hf => ?_, fun hrest => if_neg fun hzero => ?_⟩
    · have hstate : (if length = 0 then SetState.stopped else .resting) = .failed := hf
      split at hstate <;> exact nomatch hstate
    · have hstate : (if length = 0 then SetState.stopped else .resting) = .resting := hrest
      rw [if_pos hzero] at hstate
      exact nomatch hstate

theorem lostExpiry_of_online (h : s.sets[i].state = .online) :
    s.lostExpiry i = s.putSet i { s.sets[i] with lostTimer := none, stale := true } := by
  have hput : s.lostExpiry i = (s.putSet i { s.sets[i] with lostTimer := none }).putSet i
      { (s.putSet i { s.sets[i] with lostTimer := none }).sets[i] with stale := true } := by
    unfold State.lostExpiry
    rw [h]
    rfl
  rw [hput, putSet_self]
  simp [State.putSet]

theorem lostExpiry_of_stands (h : s.sets[i].state = .failed ∨ s.sets[i].state = .unavailable) :
    s.lostExpiry i = s.putSet i { s.sets[i] with lostTimer := none } := by
  unfold State.lostExpiry
  obtain h | h := h <;> rw [h] <;> rfl

theorem lostExpiry_of_leaves (honline : s.sets[i].state ≠ .online) (hfailed : s.sets[i].state ≠ .failed)
    (hun : s.sets[i].state ≠ .unavailable) :
    s.lostExpiry i = (s.putSet i { s.sets[i] with lostTimer := none }.goUnavailable).redirect i := by
  rw [← updateSet_putSet s i { s.sets[i] with lostTimer := none } SetRec.goUnavailable]
  unfold State.lostExpiry
  cases hst : s.sets[i].state with
  | online => exact absurd hst honline
  | failed => exact absurd hst hfailed
  | unavailable => exact absurd hst hun
  | _ => rfl

theorem lapse_eq {due : Count} (t : MinRun) (h : t = .running due) (now : Count) :
    t.lapse now = if due ≤ now then .elapsed else .running due := by
  rw [h]
  rfl

/-- The record of a failed attempt (R41). -/
def State.failedAttemptRecord (s : State) (i : Fin 8) : SetRec :=
  s.sets[i].failAttempt (s.par MAX_ATTEMPTS) (max (sec (s.par RETRY_DELAY)) s.cfg.roster[i].downLength) s.clk

section Expiries

variable {dt due : Nat} (hrun : s.power = .running) (hdue : due ≤ s.clk + dt)
include hrun hdue

theorem exec_lostTimerExpiry (ht : s.sets[i].lostTimer = some due) :
    exec (.lostTimerExpiry i dt) s = .next (((s.elapse dt).lostExpiry i).finish (s.elapse dt)) :=
  congrArg Host.Outcome.next ((event_of_running hrun dt _).trans
    (congrArg (fun t : State => t.finish (s.elapse dt)) (if_pos (due_of_le (s := s.elapse dt) ht hdue))))

/-- The lost timer of a set that it leaves in its state (R44, R45). -/
theorem lostTimer_expires_standing (h : SequencerListens s) (ht : s.sets[i].lostTimer = some due)
    (hkeeps : KeepsDirective s.sets[i] r) (hx : (s.elapse dt).lostExpiry i = (s.elapse dt).putSet i r) :
    ∃ u t, exec (.lostTimerExpiry i dt) s = .next t ∧ OneSetMoves (s.elapse dt) u i ∧ SequencerLooks u t ∧ u.sets[i] = r := by
  have hexec := exec_lostTimerExpiry hrun hdue ht
  generalize (s.elapse dt).lostExpiry i = x at hexec hx
  have hput : SetPut (s.elapse dt) i r x := ⟨hkeeps, .inl hx⟩
  refine ⟨_, _, hexec, hput.moves, setEvent_looks h rfl hput.frame, ?_⟩
  show x.sets[i] = r
  rw [hx, putSet_self]

theorem lostTimer_expires_leaving (h : SequencerListens s) (ht : s.sets[i].lostTimer = some due)
    (honline : s.sets[i].state ≠ .online) (hfailed : s.sets[i].state ≠ .failed) (hun : s.sets[i].state ≠ .unavailable) :
    ∃ u t, exec (.lostTimerExpiry i dt) s = .next t
      ∧ SetExpired s (s.elapse dt) i { s.sets[i] with lostTimer := none }.goUnavailable u t :=
  ⟨_, _, exec_lostTimerExpiry hrun hdue ht, setExpired_of_update (r := { s.sets[i] with lostTimer := none }.goUnavailable) h
    ⟨rfl, rfl⟩ (lostExpiry_of_leaves (s := s.elapse dt) honline hfailed hun)⟩

theorem startTimer_expires (h : SequencerListens s) (hst : s.sets[i].state = .starting) (ht : s.sets[i].startTimer = some due) :
    ∃ u t, exec (.startTimerExpiry i dt) s = .next t
      ∧ SetExpired s (s.elapse dt) i ((s.elapse dt).failedAttemptRecord i) u t :=
  ⟨_, _, congrArg Host.Outcome.next ((event_of_running hrun dt _).trans
    (congrArg (fun t : State => t.finish (s.elapse dt)) (if_pos ⟨hst, due_of_le (s := s.elapse dt) ht hdue⟩))),
    setExpired_of_update h (failAttempt_fields s.sets[i] _ _ _).1 (updateSet_put (s.elapse dt) i _)⟩

theorem stopTimer_expires (h : SequencerListens s) (hst : s.sets[i].state = .stopping) (ht : s.sets[i].stopTimer = some due) :
    ∃ u t, exec (.stopTimerExpiry i dt) s = .next t ∧ SetExpired s (s.elapse dt) i (s.sets[i].goFailed .failToStop) u t :=
  ⟨_, _, congrArg Host.Outcome.next ((event_of_running hrun dt _).trans
    (congrArg (fun t : State => t.finish (s.elapse dt)) (if_pos ⟨hst, due_of_le (s := s.elapse dt) ht hdue⟩))),
    setExpired_of_update h ⟨rfl, rfl⟩ (updateSet_put (s.elapse dt) i _)⟩

theorem minimumDown_expires (h : SequencerListens s) (hst : s.sets[i].state = .resting) (ht : s.sets[i].minDown = some due) :
    ∃ u t, exec (.minimumDownExpiry i dt) s = .next t ∧ SetExpired s (s.elapse dt) i s.sets[i].goStopped u t :=
  ⟨_, _, congrArg Host.Outcome.next ((event_of_running hrun dt _).trans
    (congrArg (fun t : State => t.finish (s.elapse dt)) (if_pos ⟨hst, due_of_le (s := s.elapse dt) ht hdue⟩))),
    setExpired_of_update h ⟨rfl, rfl⟩ (updateSet_put (s.elapse dt) i _)⟩

/-- A due dead-bus start timer ends its set in FAILED, whatever the sequencer then does (R62). -/
theorem deadBusTimer_expires (hno : NoAutoStart s) (hmark : s.sets[i].mark = true) (ht : s.sets[i].deadBusTimer = some due) :
    ∃ x, SetsFrame (s.elapse dt) x ∧ exec (.deadBusStartTimerExpiry i dt) s = .next (x.finish (s.elapse dt))
      ∧ ¬ TriggerRuns x ∧ StaysFailed (s.sets[i].goFailed .bsStartFailed) i (x.finish (s.elapse dt)) := by
  have hexec : exec (.deadBusStartTimerExpiry i dt) s
      = .next (((s.elapse dt).updateSet i fun r => r.goFailed .bsStartFailed).finish (s.elapse dt)) :=
    congrArg Host.Outcome.next ((event_of_running hrun dt _).trans
      (congrArg (fun t : State => t.finish (s.elapse dt)) (if_pos ⟨hmark, due_of_le (s := s.elapse dt) ht hdue⟩)))
  have hsets := updateSet_setsFrame (s.elapse dt) i fun r => r.goFailed .bsStartFailed
  have hfailed : StaysFailed (s.sets[i].goFailed .bsStartFailed) i ((s.elapse dt).updateSet i fun r => r.goFailed .bsStartFailed) := by
    refine ⟨put_redirect_record (s.elapse dt) i (s.sets[i].goFailed .bsStartFailed), fun hconf => ?_⟩
    rw [hsets.cfg] at hconf
    rw [hsets.mode]
    exact congrArg SetRec.directive (put_redirect_self (base := s.elapse dt) hconf (s.sets[i].goFailed .bsStartFailed))
  generalize (s.elapse dt).updateSet i (fun r => r.goFailed .bsStartFailed) = x at *
  have hno : ¬ TriggerRuns x := by
    refine not_triggerRuns fun hmode hauto => ?_
    rw [hsets.mode] at hmode
    rw [hsets.cfg] at hauto
    rw [hsets.meter]
    exact noAutoStart_elapse hno dt hmode hauto
  exact ⟨x, hsets, hexec, hno, hfailed.finish rfl rfl hno _⟩

end Expiries

/-- Settles O44. -/
theorem setTimersExpire : Obligations.SetTimersExpire := by
  intro s i dt due
  refine ⟨fun hrun h hdue => ?_, fun hrun => ⟨fun ht => ?_, fun hno hmark ht hdue => ?_⟩⟩
  · intro r
    refine ⟨fun ht => ?_, fun hst ht => ?_, fun hst ht => ?_, fun hst ht => ?_⟩
    · by_cases honline : r.state = .online
      · obtain ⟨u, t, hexec, hmoves, hlooks, hself⟩ := lostTimer_expires_standing (r := { r with lostTimer := none, stale := true })
          hrun hdue h ht ⟨rfl, rfl⟩ (lostExpiry_of_online (s := s.elapse dt) honline)
        exact ⟨u, t, hexec, hmoves, hlooks, fun _ => hself, fun hne => by rw [honline] at hne; exact hne.elim nofun nofun,
          fun hne => absurd honline hne⟩
      · by_cases hstays : r.state = .failed ∨ r.state = .unavailable
        · obtain ⟨u, t, hexec, hmoves, hlooks, hself⟩ := lostTimer_expires_standing (r := { r with lostTimer := none })
            hrun hdue h ht ⟨rfl, rfl⟩ (lostExpiry_of_stands (s := s.elapse dt) hstays)
          exact ⟨u, t, hexec, hmoves, hlooks, fun hon => absurd hon honline, fun _ => hself,
            fun _ hfailed hun => (hstays.elim hfailed hun).elim⟩
        · obtain ⟨hfailed, hun⟩ := not_or.mp hstays
          obtain ⟨u, t, hexec, hx⟩ := lostTimer_expires_leaving hrun hdue h ht honline hfailed hun
          exact ⟨u, t, hexec, hx.moves, hx.looks, fun hon => absurd hon honline, fun hs => absurd hs hstays,
            fun _ _ _ => ⟨hx.record, hx.directive⟩⟩
    · obtain ⟨u, t, hexec, hx⟩ := startTimer_expires hrun hdue h hst ht
      have hstate := failAttempt_state (s.elapse dt) i
      obtain ⟨-, hattempts, hstart, hmark, hcause, hdown⟩ := failAttempt_fields s.sets[i] (s.par MAX_ATTEMPTS)
        (max (sec (s.par RETRY_DELAY)) s.cfg.roster[i].downLength) (s.clk + dt)
      have hdirective := hx.directive
      have hrecord := hx.record
      have hrec : (s.elapse dt).failedAttemptRecord i = s.sets[i].failAttempt (s.par MAX_ATTEMPTS)
        (max (sec (s.par RETRY_DELAY)) s.cfg.roster[i].downLength) (s.clk + dt) := rfl
      rw [hrec] at hdirective hrecord
      rw [hmark] at hdirective
      refine ⟨u, t, hexec, hx.moves, hx.looks, ?_⟩
      have hstateu : u.sets[i].state = _ := congrArg SetRec.state hrecord
      refine ⟨hstateu.trans hstate, (congrArg SetRec.attempts hrecord).trans hattempts,
        (congrArg SetRec.startTimer hrecord).trans hstart,
        fun hf => (congrArg SetRec.cause hrecord).trans (hcause (hstateu.symm.trans hf)), fun hrest => ?_,
        fun hconf => (hdirective hconf).trans (congrArg (wantedDirective s.mode · false) hstateu.symm)⟩
      rw [← retryLength_eq]
      exact (congrArg SetRec.minDown hrecord).trans (hdown (hstateu.symm.trans hrest))
    · obtain ⟨u, t, hexec, hx⟩ := stopTimer_expires hrun hdue h hst ht
      refine ⟨u, t, hexec, hx.moves, hx.looks, ?_, ?_, ?_, ?_, hx.directive⟩ <;> rw [hx.record] <;> rfl
    · obtain ⟨u, t, hexec, hx⟩ := minimumDown_expires hrun hdue h hst ht
      refine ⟨u, t, hexec, hx.moves, hx.looks, ?_, ?_, ?_, ?_, hx.directive⟩ <;> rw [hx.record] <;> rfl
  · refine congrArg Host.Outcome.next ((quiet_of_running hrun dt _).trans ?_)
    exact congrArg (fun m => (s.elapse dt).putSet i { s.sets[i] with minRun := m }) (lapse_eq _ ht _)
  · obtain ⟨x, hsets, hexec, hno, ⟨d, n, hrecord⟩, hdirective⟩ := deadBusTimer_expires hrun hdue hno hmark ht
    have hisland : IslandEventFrame (s.elapse dt) (x.finish (s.elapse dt)) := by
      refine island_trans (b := x) ?_ (finish_island x _)
      unfold SetsFrame at hsets
      rw [hsets]
      rfl
    have hframe := finish_frame (before := s.elapse dt) hno
    generalize x.finish (s.elapse dt) = t at hexec hisland hframe hrecord hdirective
    unfold SetsFrame at hsets
    have hcfg : t.cfg = s.cfg := by rw [hframe, hsets]; rfl
    refine ⟨t, hexec, hisland, ?_, ?_, ?_, ?_, ?_, ?_, ?_, ?_, ?_, fun hconf => hdirective (hcfg ▸ hconf)⟩
    case refine_5 | refine_6 | refine_7 | refine_8 | refine_9 => rw [hrecord]; rfl
    all_goals
      rw [hframe, hsets]
      rfl

end Sys2Proof.Machine
end

section
/-! Clear Set Fault and BSABORT (R64, R152). -/

namespace Sys2Proof.Machine

variable {s t u x base before : State} {i k : Fin 8} {r : SetRec} {rx : Rx}

/-! ## Clear Set Fault (R64) -/

theorem setOf_of_ge {index : Byte} (h : 8 ≤ index.toNat) : setOf index = none := dif_neg (Nat.not_lt.mpr h)

theorem setOf_of_eq {index : Byte} (h : i.val = index.toNat) : setOf index = some i := by
  unfold setOf
  rw [dif_pos (h ▸ i.isLt)]
  exact congrArg some (Fin.ext h.symm)

theorem exec_clearSetFault {index : Byte} (h : Hears s rx) (hs : FromSupervisor rx) (hi : i.val = index.toNat) :
    exec (.clearSetFault rx index) s = .next ((s.elapse rx.dt).clearSetFault rx i) := by
  refine congrArg Host.Outcome.next ((requestEvent_ungated h hs).trans ?_)
  rw [setOf_of_eq hi]

theorem rederived_state (r : SetRec) (slot : Option SetSlot) (now : Count) : (r.rederived slot now).state =
    match slot with
    | some slot => if slot.state = .off then .stopped else if slot.state = .onBus then .online else .unknown
    | none => .unknown := by
  unfold SetRec.rederived
  cases slot with
  | none => rfl
  | some slot =>
    dsimp only
    cases slot.state <;> rfl

/-- A set derived again starts from a clean record (R64). -/
theorem rederived_fields (r : SetRec) (slot : Option SetSlot) (now : Count) : let r' := r.rederived slot now
    KeepsDirective r r' ∧ r'.attempts = 0 ∧ r'.cause = .none ∧ r'.lostTimer = some (now + 100000000)
      ∧ r'.minRun = if r'.state = .online then .elapsed else .absent := by
  unfold SetRec.rederived
  cases slot with
  | none => exact ⟨⟨rfl, rfl⟩, rfl, rfl, rfl, rfl⟩
  | some slot =>
    dsimp only
    cases slot.state <;> exact ⟨⟨rfl, rfl⟩, rfl, rfl, rfl, rfl⟩

theorem clearSetFault_of_failed (hconf : 0 < s.cfg.roster[i].rating) (h : s.sets[i].state = .failed) :
    s.clearSetFault rx i = ((s.rederiveSet i).answer rx 0x09 .accepted [byte (s.rederiveSet i).sets[i].state.code]).finish s := by
  have hset : ¬ s.setConfigured i = false := by rw [(setConfigured_iff s i).mpr hconf]; nofun
  exact (if_neg hset).trans (if_pos h)

/-- Settles O47. -/
theorem clearSetFaultRederivesFromTheSlot : Obligations.ClearSetFaultRederivesFromTheSlot := by
  intro s rx index h hs
  refine ⟨fun hbad => ?_, fun i hi hconf hst => ?_, fun i hi hconf hst hlistens => ?_⟩
  · obtain hbad | ⟨i, hi, hempty⟩ := hbad
    · refine congrArg Host.Outcome.next ((requestEvent_ungated h hs).trans ?_)
      rw [setOf_of_ge hbad]
      rfl
    · have hunset : s.setConfigured i = false := by
        rw [← Bool.not_eq_true, setConfigured_iff, hempty]
        exact Nat.lt_irrefl 0
      exact (exec_clearSetFault h hs hi).trans (congrArg _ (if_pos hunset))
  · have hset : ¬ s.setConfigured i = false := by rw [(setConfigured_iff s i).mpr hconf]; nofun
    exact (exec_clearSetFault h hs hi).trans (congrArg _ ((if_neg hset).trans (if_neg hst)))
  · let v := s.elapse rx.dt
    have hexec := exec_clearSetFault h hs hi
    rw [clearSetFault_of_failed (s := v) hconf hst] at hexec
    have hframe : SetsFrame v (v.rederiveSet i) := updateSet_setsFrame v i _
    have hself : (v.rederiveSet i).sets[i] = (s.sets[i].rederived s.setSlots[i] v.clk).directed
        (wantedDirective s.mode (s.sets[i].rederived s.setSlots[i] v.clk).state false) := by
      have := put_redirect_self (base := v) hconf (s.sets[i].rederived s.setSlots[i] v.clk)
      rwa [SetRec.rederived_mark] at this
    have hother (j : Fin 8) (hj : j ≠ i) : (v.rederiveSet i).sets[j] = s.sets[j] := updateSet_sets_ne v hj _
    obtain ⟨-, hattempts, hcause, hlost, hrun⟩ := rederived_fields s.sets[i] s.setSlots[i] v.clk
    have hstate := rederived_state s.sets[i] s.setSlots[i] v.clk
    generalize v.rederiveSet i = y at *
    generalize hx : y.answer rx 0x09 .accepted [byte y.sets[i].state.code] = x at hexec
    have hxframe : SetsFrame v x := by
      rw [← hx]
      exact hframe.trans (t := y) rfl
    have hsets : x.settled.sets = y.sets := by rw [← hx]; rfl
    refine ⟨x.settled, _, hexec, setEvent_looks hlistens rfl hxframe, ?_, fun j hj => ?_, ?_⟩
    · unfold SetsFrame at hxframe
      rw [hxframe]
      rfl
    · rw [hsets]
      exact hother j hj
    · rw [hsets, hself]
      refine ⟨hstate, hattempts, hcause, hlost, hrun, rfl, ?_⟩
      have hmem : Frame.reply rx.src.toNat 0x09 .accepted [byte y.sets[i].state.code] ∈ x.txQueue := by
        rw [← hx]
        exact self_mem_enqueue y.txQueue _
      rw [hself] at hmem
      exact hmem

/-! ## BSABORT (R152) -/

theorem clearMark_reportsOnBus (s : State) (k i : Fin 8) : (s.clearMark k).reportsOnBus i = s.reportsOnBus i :=
  reportsOnBus_of_frame (clearMark_setsFrame s k) i

/-- Clearing every mark clears the one of set `i` from the record that stands. -/
theorem clearMarks_sets (s : State) (i : Fin 8) : ∃ u, SetsFrame s u ∧ u.sets[i] = s.sets[i]
    ∧ s.clearMarks.sets[i] = (u.clearMark i).sets[i] := by
  have hfold : ∀ (l : List (Fin 8)) (s : State), l.Nodup → (i ∉ l → (l.foldl State.clearMark s).sets[i] = s.sets[i])
      ∧ (i ∈ l → ∃ u, SetsFrame s u ∧ u.sets[i] = s.sets[i] ∧ (l.foldl State.clearMark s).sets[i] = (u.clearMark i).sets[i]) := by
    intro l
    induction l with
    | nil => exact fun s _ => ⟨fun _ => rfl, nofun⟩
    | cons k l ih =>
      intro s hl
      obtain ⟨hk, hl⟩ := List.nodup_cons.mp hl
      obtain ⟨hout, hin⟩ := ih (s.clearMark k) hl
      have hframe := clearMark_setsFrame s k
      refine ⟨fun h => ?_, fun h => ?_⟩
      · obtain ⟨hne, hrest⟩ := not_or.mp (mt List.mem_cons.mpr h)
        exact (hout hrest).trans (clearMark_sets_ne hne)
      · by_cases hki : i = k
        · subst hki
          exact ⟨s, .refl s, rfl, hout hk⟩
        · obtain ⟨u, hu, hself, hend⟩ := hin (List.mem_of_ne_of_mem hki h)
          exact ⟨u, hframe.trans hu, hself.trans (clearMark_sets_ne hki), hend⟩
  exact (hfold _ s indices_nodup).2 (mem_indices i)

/-- A mark that is cleared leaves its set ONLINE when its report says so, and otherwise under an ordinary start (R62). -/
theorem clearMark_outcome (hmark : s.sets[i].mark = true) :
    (s.reportsOnBus i = true → (s.clearMark i).sets[i].state = .online)
      ∧ (s.reportsOnBus i = false → (s.clearMark i).sets[i].state = s.sets[i].state
        ∧ (s.clearMark i).sets[i].startTimer = s.sets[i].deadBusTimer) := by
  have hreport := reportsOnBus_of_frame (updateSet_setsFrame s i SetRec.unmark) i
  refine ⟨fun hbus => ?_, fun hbus => ?_⟩
  · have hclear : s.clearMark i = (s.updateSet i SetRec.unmark).setOnline i := (if_pos hmark).trans (if_pos (hreport.trans hbus))
    rw [hclear]
    exact updateSet_state _ i _
  · obtain ⟨d, n, hrecord⟩ := put_redirect_record s i s.sets[i].unmark
    rw [clearMark_of_offBus hmark hbus, updateSet_put, hrecord]
    exact ⟨rfl, rfl⟩

/-- A marked set at the end of a sequence in OBSERVE (R62, R152). -/
theorem endInObserve_outcome (hmode : s.mode = .blackstart) (failed : Bool) (hmark : s.sets[i].mark = true)
    (hst : s.sets[i].state = .starting) :
    (s.reportsOnBus i = true → (s.endInObserve failed).sets[i].state = .online)
      ∧ (s.reportsOnBus i = false → (s.endInObserve failed).sets[i].state = .starting
        ∧ (s.endInObserve failed).sets[i].startTimer = s.sets[i].deadBusTimer) := by
  have hleft := redirectAll_setsFrame (s.leftSequence failed)
  obtain ⟨u, hu, hself, hend⟩ := clearMarks_sets (s.leftSequence failed).redirectAll i
  have hreport : u.reportsOnBus i = s.reportsOnBus i := reportsOnBus_of_frame (s := s.leftSequence failed) (hleft.trans hu) i
  have hrecord : u.sets[i].mark = true ∧ u.sets[i].state = .starting ∧ u.sets[i].deadBusTimer = s.sets[i].deadBusTimer := by
    rw [hself, redirectAll_sets, State.derivedSet]
    split <;> exact ⟨hmark, hst, rfl⟩
  obtain ⟨hm, hstarting, htimer⟩ := hrecord
  rw [endInObserve_eq hmode, hend, ← hreport, ← hstarting, ← htimer]
  exact clearMark_outcome hm

theorem bsabortEdge_of_rise {level : Bool} (hrise : level = true) (hlevel : s.seq.abortLevel = false) (hphase : s.seq.phase ≠ .none) :
    s.bsabortEdge level = { s with seq := { s.seq with abortLevel := true } }.endInObserve s.seq.failed := by
  subst hrise
  exact if_pos ⟨rfl, hlevel, hphase⟩

theorem bsabortEdge_of_other {level : Bool} (h : level = false ∨ s.seq.phase = .none) :
    s.bsabortEdge level = { s with seq := { s.seq with abortLevel := level } } :=
  if_neg fun ⟨hrise, _, hphase⟩ => h.elim (fun hfall => nomatch hfall.symm.trans hrise) hphase

theorem settled_endsAs (h : x.feederStates = s.feederStates) : EndsAs s x x.settled := by
  unfold EndsAs
  rw [if_pos h, if_pos h]
  rfl

/-- Settles O42. -/
theorem bsabortRisingEdgeEndsTheSequence : Obligations.BsabortRisingEdgeEndsTheSequence := by
  intro s level dt pinned
  have hexec (hrun : s.power = .running) (hpin : s.pins.bsabort = !level) :
      exec (.bsabortEdge level dt) s = .next ((pinned.bsabortEdge level).finish pinned) :=
    congrArg Host.Outcome.next (pinChange_of_running hrun (by rw [hpin]; cases level <;> rfl))
  refine ⟨fun hrun hpin hlevel hrise hmode hphase => ?_, fun hrun hpin hphase h => ?_, fun hrun hpin hfall hlistens => ?_, fun hrun => ?_,
    fun hsame => ?_⟩
  · let noted : State := { pinned with seq := { s.seq with abortLevel := true } }
    have hexec : exec (.bsabortEdge level dt) s = .next ((noted.endInObserve s.seq.failed).finish pinned) :=
      (hexec hrun (by rw [hpin, hrise]; rfl)).trans
        (congrArg (fun t : State => Host.Outcome.next (t.finish pinned)) (bsabortEdge_of_rise (s := pinned) hrise hlevel hphase))
    have hframe : SetsFrame (noted.leftSequence s.seq.failed) (noted.endInObserve s.seq.failed) := endInObserve_setsFrame (s := noted) hmode _
    have hdirectives : DirectivesFollowStates (noted.endInObserve s.seq.failed) := endInObserve_directives (s := noted) hmode _
    have hisland : IslandEventFrame pinned ((noted.endInObserve s.seq.failed).finish pinned) :=
      island_trans (b := noted) rfl (island_trans (endInObserve_island noted _) (finish_island _ pinned))
    have hmarks (i : Fin 8) : (noted.endInObserve s.seq.failed).sets[i].mark = false := clearMarks_mark _ i
    have houtcome (i : Fin 8) := endInObserve_outcome (s := noted) (i := i) hmode s.seq.failed
    generalize noted.endInObserve s.seq.failed = x at *
    have hends : EndsAs pinned x (x.finish pinned) :=
      finish_endsAs (not_triggerRuns_of_mode (by rw [hframe.mode]; nofun)) (by rw [hframe.seq]; rfl)
    generalize x.finish pinned = t at *
    have hmodex : x.mode = .observe := hframe.mode
    have hcfgx : x.cfg = s.cfg := hframe.cfg
    have htsets : t.sets = x.sets := by rw [hends]
    have ht : t = { noted.leftSequence s.seq.failed with
        sets := t.sets, txQueue := t.txQueue, reportCount := t.reportCount, alertPin := t.alertPin } := by
      unfold SetsFrame at hframe
      unfold EndsAs at hends
      rw [hends, hframe]
      rfl
    refine ⟨t, hexec, hisland, ?_, ?_, ?_, ?_, ?_, ?_, ?_, ?_, fun i => ?_, fun i hi => ?_, fun i hmark hst => ?_⟩
    case refine_9 => rw [htsets]; exact hmarks i
    case refine_10 =>
      rw [htsets, hdirectives i (hcfgx ▸ hi), hmodex]
      rfl
    case refine_11 => rw [htsets]; exact houtcome i hmark hst
    all_goals
      rw [ht]
      rfl
  · rw [hexec hrun hpin, bsabortEdge_of_other (s := pinned) (.inr hphase)]
    let noted : State := { pinned with seq := { s.seq with abortLevel := level } }
    have hno : ¬ TriggerRuns noted := by
      obtain hrise | hno := h
      · rintro ⟨-, -, hconditions⟩
        have habort : level = false := hconditions.2.2.1
        exact nomatch habort.symm.trans hrise
      · exact not_triggerRuns (by exact noAutoStart_elapse hno dt)
    exact ⟨_, rfl, finish_endsAs (s := noted) hno hphase⟩
  · rw [hexec hrun (by rw [hpin, hfall]; rfl), bsabortEdge_of_other (s := pinned) (.inl hfall)]
    let noted : State := { pinned with seq := { s.seq with abortLevel := level } }
    obtain ⟨hno, hprepare⟩ := listens_of_frame (t := noted) hlistens rfl rfl rfl (Meter.elapse_state s.meter dt) rfl
    exact ⟨noted.settled, _, rfl, settled_endsAs rfl, finish_looks hno hprepare rfl⟩
  · refine congrArg Host.Outcome.next (pinChange_idle hrun fun hc => ?_)
    rw [← bne_eq_false_iff_eq.mp hc]
  · exact congrArg Host.Outcome.next (pinChange_of_same (bne_eq_false_iff_eq.mpr hsame))

end Sys2Proof.Machine
end

section
/-! The meter events without a frequency, and what the Black-Start Sequencer leaves of the stages (R4 to R9, R76, R106). -/

namespace Sys2Proof.Machine

variable {s t u x base before : State} {i k : Fin 8} {r : SetRec} {rx : Rx}

/-! ## What the sequencer leaves of the stages and the limits -/

/-- The meter, the stages with SHED_EXHAUSTED, the restore delay and the plants' limits stand. -/
structure StagesKept (s t : State) : Prop where
  meter : t.meter = s.meter
  notedMeter : t.notedMeter = s.notedMeter
  stages : t.stages = s.stages
  exhausted : t.exhausted = s.exhausted
  restoreDelay : t.restoreDelay = s.restoreDelay
  lim : ∀ p : Fin 4, t.plants[p].lim = s.plants[p].lim

namespace StagesKept

theorem refl (s : State) : StagesKept s s := ⟨rfl, rfl, rfl, rfl, rfl, fun _ => rfl⟩

theorem trans (h : StagesKept s t) (h' : StagesKept t u) : StagesKept s u where
  meter := h'.meter.trans h.meter
  notedMeter := h'.notedMeter.trans h.notedMeter
  stages := h'.stages.trans h.stages
  exhausted := h'.exhausted.trans h.exhausted
  restoreDelay := h'.restoreDelay.trans h.restoreDelay
  lim := fun p => (h'.lim p).trans (h.lim p)

theorem ite {c : Prop} [Decidable c] {a b : State} (ha : StagesKept s a) (hb : StagesKept s b) :
    StagesKept s (if c then a else b) := by
  split <;> assumption

theorem of_looks (h : LooksFrame s t) : StagesKept s t := by
  have hframe := h.frame
  refine ⟨?_, ?_, ?_, ?_, ?_, fun p => ?_⟩ <;> rw [hframe]

theorem setMode (s : State) (m : Mode) : StagesKept s (s.setMode m) := by
  have hframe := setMode_frame s m
  generalize s.setMode m = t at hframe
  refine ⟨?_, ?_, ?_, ?_, ?_, fun p => ?_⟩ <;> rw [hframe]

end StagesKept

/-- The forced-zero order leaves the limits alone. -/
theorem forceZero_lim (s : State) (p : Fin 4) : s.forceZero.plants[p].lim = s.plants[p].lim := by
  let zeroed : State := { s with
    forcedZero := true, freshStart := false, pvReached := false, aggU := 0
    plants := tabulate fun (p : Fin 4) =>
      if s.plantConfigured p then
        { s.plants[p] with allotment := 0, allotCause := .blackstart, sent := 0, sentCause := .blackstart }
      else s.plants[p] }
  have hsent : s.forceZero.plants[p] = _ :=
    sendAll_plants (s.configuredPlants.filter fun p => decide (0 < s.plants[p].lastQueued)) zeroed p
  have hzeroed : zeroed.plants[p].lim = s.plants[p].lim := by
    rw [Fin.getElem_fin, getElem_tabulate]
    split <;> rfl
  rw [hsent, ← hzeroed]
  split <;> rfl

theorem prepareOrders_kept (s : State) : StagesKept s s.prepareOrders := by
  have hframe := (prepareOrders_given s).frame
  have hopened : OpenedAll s.rebuildQueue s.rebuildQueue.ladder s.rebuildQueue.openAll := openAll_opened rfl nofun
  have hlim (p : Fin 4) : s.prepareOrders.plants[p].lim = s.plants[p].lim := by
    have hstopped := (stopAll_stopped s.rebuildQueue.openAll.forceZero).frame
    have hplants : s.prepareOrders.plants = s.rebuildQueue.openAll.forceZero.plants := (congrArg State.plants hstopped :)
    have hbefore : s.rebuildQueue.openAll.plants = s.plants := (congrArg State.plants hopened.frame :)
    rw [hplants, forceZero_lim, hbefore]
  generalize s.prepareOrders = t at hframe hlim
  refine ⟨?_, ?_, ?_, ?_, ?_, hlim⟩ <;> rw [hframe]

theorem beginSequence_kept (s : State) : StagesKept s s.beginSequence := by
  have h := StagesKept.setMode { s with seq := { s.seq with attempts := 1, trigger := none } } .blackstart
  have htriggered : StagesKept s s.triggered := ⟨h.meter, h.notedMeter, h.stages, h.exhausted, h.restoreDelay, h.lim⟩
  exact htriggered.trans (prepareOrders_kept _)

theorem lossOfBus_kept (s : State) : StagesKept s s.lossOfBus := by
  let counted : State := { s with seq := { s.seq with attempts := s.seq.attempts + 1 } }
  have hcounted : StagesKept s counted := ⟨rfl, rfl, rfl, rfl, rfl, fun _ => rfl⟩
  exact .ite (hcounted.trans (.of_looks (.endInObserve counted true)))
    (.trans (t := { counted with seq := counted.seq.preparing }) ⟨rfl, rfl, rfl, rfl, rfl, fun _ => rfl⟩ (prepareOrders_kept _))

theorem sequencerMeter_kept (s : State) (ev : MeterEvent) : StagesKept s (s.sequencerMeter ev) :=
  .ite (lossOfBus_kept s) (.refl s)

theorem triggerCheck_kept (s : State) : StagesKept s s.triggerCheck := by
  unfold State.triggerCheck
  refine .ite ?_ ⟨rfl, rfl, rfl, rfl, rfl, fun _ => rfl⟩
  split
  · exact .refl s
  · exact .ite (beginSequence_kept s) ⟨rfl, rfl, rfl, rfl, rfl, fun _ => rfl⟩

theorem finish_kept (s before : State) : StagesKept s (s.finish before) := by
  have hreact : StagesKept s s.sequencerReact :=
    (triggerCheck_kept s).trans ((StagesKept.of_looks (.prepareCheck _)).trans
      ((StagesKept.of_looks (.firstSetCheck _)).trans (.of_looks (.addSetsCheck _))))
  refine hreact.trans ?_
  unfold State.finish
  generalize s.sequencerReact = y
  rw [reportChanges_eq]
  exact ⟨rfl, rfl, rfl, rfl, rfl, fun _ => rfl⟩

/-! ## The frequency is withdrawn (R76, R106) -/

theorem stagesWithdrawn_of_kept {m : Meter} (hbase : base = { s with meter := base.meter, clk := base.clk })
    (h : StagesKept (base.withdrawn m) t)
    (hfeeders : s.seq.phase = .none → (s.mode = .dispatch → s.cfg.params[AUTO_BS] ≠ 1) →
      t.feeders = s.feeders ∧ t.queue = s.queue ∧ t.settle = s.settle ∧ t.hold = s.hold) : StagesWithdrawn s t := by
  refine ⟨fun k => ?_, h.exhausted.trans ?_, fun p => (h.lim p).trans ?_, h.restoreDelay.trans (by rw [hbase]; rfl), hfeeders⟩
  · rw [h.stages, hbase]
    exact getElem_tabulate _ _ _
  · rw [hbase]
    rfl
  · rw [Fin.getElem_fin]
    exact congrArg PlantRec.lim (getElem_tabulate _ _ _)

/-- No feeder moves at the end of an event with no sequence running and none that can begin. -/
theorem finish_feeders_stand (hno : ¬ TriggerRuns x) (h : x.feeders = s.feeders ∧ x.queue = s.queue ∧ x.settle = s.settle ∧ x.hold = s.hold) :
    (x.finish before).feeders = s.feeders ∧ (x.finish before).queue = s.queue ∧ (x.finish before).settle = s.settle
      ∧ (x.finish before).hold = s.hold := by
  obtain ⟨hfeeders, hqueue, hsettle, hhold, -⟩ := finish_feeder_fields (before := before) hno
  exact ⟨hfeeders.trans h.1, hqueue.trans h.2.1, hsettle.trans h.2.2.1, hhold.trans h.2.2.2⟩

/-- A meter event without a frequency, at the end of its event. -/
theorem publishMeter_withdraws {dt : Nat} {m : Meter} (hm : m.freq = none) :
    let t := ((s.elapse dt).publishMeter m).finish (s.elapse dt)
    t.meter = m ∧ t.notedMeter = m.state ∧ StagesWithdrawn s t := by
  have hpub := publishMeter_of_no_freq (s := s.elapse dt) hm
  have hkept : StagesKept ((s.elapse dt).withdrawn m) (((s.elapse dt).publishMeter m).finish (s.elapse dt)) := by
    rw [hpub]
    exact (sequencerMeter_kept _ _).trans (finish_kept _ _)
  refine ⟨hkept.meter, hkept.notedMeter, stagesWithdrawn_of_kept (base := s.elapse dt) rfl hkept fun hphase hauto => ?_⟩
  have hidle : ((s.elapse dt).withdrawn m).sequencerMeter ⟨m.state, m.freq, m.rocof, (s.elapse dt).clk⟩ = (s.elapse dt).withdrawn m :=
    sequencerMeter_of_not (.inr (by show ¬ (s.seq.phase = _ ∨ s.seq.phase = _ ∨ s.seq.phase = _); rw [hphase]; decide))
  rw [hpub, hidle]
  refine finish_feeders_stand (fun hruns => ?_) ⟨rfl, rfl, rfl, rfl⟩
  exact hauto hruns.1 hruns.2.1

/-! ## The expiries of the meter (R8, R9) -/

theorem exec_lossExpiry {dt : Nat} (hrun : s.power = .running) : exec (.lossExpiry dt) s =
    .next ((if (s.meter.elapse dt).lossDue = true then (s.elapse dt).publishMeter (s.meter.elapse dt).lose else s.elapse dt).finish
      (s.elapse dt)) := congrArg Host.Outcome.next (event_of_running hrun dt _)

theorem exec_deadExpiry_cases {dt : Nat} (hrun : s.power = .running) : exec (.deadExpiry dt) s =
    .next ((if (s.meter.elapse dt).deadDue = true then (s.elapse dt).publishMeter (s.meter.elapse dt).die else s.elapse dt).finish
      (s.elapse dt)) := congrArg Host.Outcome.next (event_of_running hrun dt _)

theorem exec_startUpWait {dt : Nat} (hrun : s.power = .running) : exec (.startUpWait dt) s =
    .next ((if (s.meter.elapse dt).waitDue (s.clk + dt) = true then (s.elapse dt).publishMeter (s.meter.elapse dt).dieWaiting
      else s.elapse dt).finish (s.elapse dt)) := congrArg Host.Outcome.next (event_of_running hrun dt _)

theorem publishMeter_island (s : State) (m : Meter) : IslandEventFrame s (s.publishMeter m) :=
  island_after (meterEvent_island { s with meter := m } _) rfl

theorem publishMeter_finish_island (s before : State) (m : Meter) : IslandEventFrame s ((s.publishMeter m).finish before) :=
  island_trans (publishMeter_island s m) (finish_island _ before)

/-- An expiry of the meter that is not due leaves the meter to the time that passes. -/
theorem not_due_meter {dt : Nat} {due : Prop} [Decidable due] {x : State} (h : ¬ due) :
    ((if due then x else s.elapse dt).finish (s.elapse dt)).meter = s.meter.elapse dt := by
  rw [if_neg h]
  exact (finish_kept _ _).meter

theorem elapse_of_lost {m : Meter} {dt : Nat} (h : m.state = .lost) :
    m.elapse dt = { m with elapsed := (m.elapse dt).elapsed } := by
  unfold Meter.elapse
  rw [h]

/-- Settles O18. -/
theorem meterExpiriesWithdrawFrequency : Obligations.MeterExpiriesWithdrawFrequency := by
  intro s dt e w hrun hm
  have hfreq (h : s.meter.state ≠ .valid) : (s.meter.elapse dt).freq = none := by
    rw [Meter.elapse_freq]
    exact Option.not_isSome_iff_eq_none.mp fun hf => h (hm.1.mp hf)
  refine ⟨fun hst he hdue => ?_, fun hst he hdue => ?_, fun hst hw hdue => ?_, fun he => ⟨fun hnot => ?_, fun hnot => ?_⟩, fun hw hnot => ?_⟩
  · have hloss : (s.meter.elapse dt).lossDue = true := Meter.lossDue_iff.mpr ⟨by rwa [Meter.elapse_state], e, he, hdue⟩
    obtain ⟨hmeter, hnoted, hstages⟩ := publishMeter_withdraws (s := s) (dt := dt) (m := (s.meter.elapse dt).lose) rfl
    refine ⟨_, (exec_lossExpiry hrun).trans (by rw [if_pos hloss]), publishMeter_finish_island _ _ _, hmeter.trans ?_, hnoted, hstages⟩
    unfold Meter.lose
    rw [he, Meter.elapse_waitFrom]
  · have hdead : (s.meter.elapse dt).deadDue = true := Meter.deadDue_iff.mpr ⟨by rwa [Meter.elapse_state], e, he, hdue⟩
    obtain ⟨hmeter, hnoted, hstages⟩ := publishMeter_withdraws (s := s) (dt := dt) (m := (s.meter.elapse dt).die)
      (hfreq (by rw [hst]; nofun))
    refine ⟨_, (exec_deadExpiry_cases hrun).trans (by rw [if_pos hdead]), publishMeter_finish_island _ _ _, hmeter.trans ?_, hnoted, hstages⟩
    rw [elapse_of_lost hst]
    rfl
  · have hwait : (s.meter.elapse dt).waitDue (s.clk + dt) = true :=
      Meter.waitDue_iff.mpr ⟨by rwa [Meter.elapse_state], w, by rwa [Meter.elapse_waitFrom], hdue⟩
    obtain ⟨hmeter, hnoted, hstages⟩ := publishMeter_withdraws (s := s) (dt := dt) (m := (s.meter.elapse dt).dieWaiting)
      (hfreq (by rw [hst]; nofun))
    refine ⟨_, (exec_startUpWait hrun).trans (by rw [if_pos hwait]), publishMeter_finish_island _ _ _, hmeter.trans ?_, hnoted, hstages⟩
    unfold Meter.dieWaiting Meter.elapse
    rw [hst]
  · refine ⟨_, exec_lossExpiry hrun, not_due_meter fun hloss => ?_⟩
    obtain ⟨-, e', he', hlt⟩ := Meter.lossDue_iff.mp hloss
    obtain rfl := Option.some.inj (he.symm.trans he')
    exact Nat.not_le.mpr hlt hnot
  · refine ⟨_, exec_deadExpiry_cases hrun, not_due_meter fun hdead => ?_⟩
    obtain ⟨-, e', he', hlt⟩ := Meter.deadDue_iff.mp hdead
    obtain rfl := Option.some.inj (he.symm.trans he')
    exact Nat.not_le.mpr hlt hnot
  · refine ⟨_, exec_startUpWait hrun, not_due_meter fun hwait => ?_⟩
    obtain ⟨-, w', hw', hlt⟩ := Meter.waitDue_iff.mp hwait
    rw [Meter.elapse_waitFrom] at hw'
    obtain rfl := Option.some.inj (hw.symm.trans hw')
    exact Nat.not_le.mpr hlt hnot

end Sys2Proof.Machine
end

section
/-! A rising edge on GTICK (R4 to R7, R10 to R12). -/

namespace Sys2Proof.Machine

variable {s t u x base before : State}

/-! ## The meter record of a period (R6, R10 to R12) -/

theorem pushBounded_eq {n : Nat} (hn : 0 < n) (xs : List Nat) (x : Nat) :
    pushBounded n xs x = xs.drop (xs.length + 1 - n) ++ [x] := List.drop_append_of_le_length (by omega)

theorem pushBounded_of_room {n : Nat} {xs : List Nat} (h : xs.length < n) (x : Nat) : pushBounded n xs x = xs ++ [x] := by
  rw [pushBounded_eq (by omega), Nat.sub_eq_zero_of_le h, List.drop_zero]

theorem pushBounded_of_full {n : Nat} (hn : 0 < n) {xs : List Nat} (h : xs.length = n) (x : Nat) :
    pushBounded n xs x = xs.tail ++ [x] := by
  rw [pushBounded_eq hn, h, Nat.add_sub_cancel_left, List.drop_one]

theorem lastFourSum_eq (periods : List Nat) : lastFourSum periods = (periods.reverse.take 4).sum := by
  rw [lastFourSum, List.take_reverse, List.sum_reverse]

/-- Passing time changes E alone. -/
theorem Meter.elapse_eq (m : Meter) (dt : Nat) : m.elapse dt = { m with elapsed := (m.elapse dt).elapsed } := by
  obtain ⟨st⟩ := m
  cases st <;> rfl

/-- A period does not depend on the E it ends. -/
theorem period_of_elapse (m : Meter) (dt e : Nat) : (m.elapse dt).period e = m.period e := by
  rw [Meter.elapse_eq]
  rfl

/-- The record and the period history of a period. -/
def Meter.counted (m : Meter) (e : Count) : Meter := { m with periods := pushBounded 10 m.periods e, elapsed := some 0 }

/-- A period that only counts up acquisition. -/
theorem period_of_counting {m : Meter} {e : Count} (hst : m.state = .acquiring) (hcount : m.acqCount + 1 < 4) :
    m.period e = ({ m.counted e with acqCount := m.acqCount + 1 }, false) := (if_pos hst).trans (if_pos hcount)

/-- The meter a period that gives a value works it out from. -/
def Meter.valued (m : Meter) (e : Count) : Meter :=
  if m.state = .acquiring then { m.counted e with acqCount := m.acqCount + 1 } else m.counted e

theorem period_of_valuing {m : Meter} {e : Count} (h : m.state ≠ .acquiring ∨ 4 ≤ m.acqCount + 1) :
    m.period e = ((m.valued e).value, true) := by
  unfold Meter.valued
  by_cases hst : m.state = .acquiring
  · rw [if_pos hst]
    exact (if_pos hst).trans (if_neg (Nat.not_lt.mpr (h.resolve_left (not_not_intro hst))))
  · rw [if_neg hst]
    exact if_neg hst

theorem valued_fields (m : Meter) (e : Count) : (m.valued e).periods = pushBounded 10 m.periods e ∧ (m.valued e).elapsed = some 0
    ∧ (m.valued e).freqs = m.freqs ∧ (m.state = .acquiring → (m.valued e).acqCount = m.acqCount + 1) := by
  unfold Meter.valued
  by_cases hst : m.state = .acquiring
  · rw [if_pos hst]
    exact ⟨rfl, rfl, rfl, fun _ => rfl⟩
  · rw [if_neg hst]
    exact ⟨rfl, rfl, rfl, fun h => absurd h hst⟩

/-- The frequency value, the frequency history and ROCOF (R11, R12). -/
theorem value_fields (m : Meter) : m.value.state = .valid
    ∧ m.value.freq = some (frequencyOf (m.periods.reverse.take 4).sum)
    ∧ (m.freqs.length < 11 → m.value.freqs = m.freqs ++ m.value.freq.toList)
    ∧ (m.freqs.length = 11 → m.value.freqs = m.freqs.tail ++ m.value.freq.toList)
    ∧ (m.value.freqs.length ≠ 11 → m.value.rocof = none)
    ∧ (m.value.freqs.length = 11 → m.value.rocof = some (max (-20000) (min 20000
        (Int.tdiv (((m.value.freqs.getLastD 0 : Nat) - (m.value.freqs.headD 0 : Nat) : Int) * 10 ^ 7)
          (m.periods.sum : Nat))))) := by
  have hfreq : m.value.freq = some (frequencyOf (lastFourSum m.periods)) := rfl
  have hfreqs : m.value.freqs = pushBounded 11 m.freqs (frequencyOf (lastFourSum m.periods)) := rfl
  have hlast : m.value.freqs.getLastD 0 = frequencyOf (lastFourSum m.periods) := by
    rw [hfreqs, pushBounded_eq (by decide), List.getLastD_concat]
  refine ⟨rfl, by rw [hfreq, lastFourSum_eq], fun h => ?_, fun h => ?_, fun h => if_neg h, fun h => (if_pos h).trans ?_⟩
  · rw [hfreqs, hfreq]
    exact pushBounded_of_room h _
  · rw [hfreqs, hfreq]
    exact pushBounded_of_full (by decide) h _
  · rw [hlast]
    rfl

/-! ## Rising edges -/

theorem risingEdge_island (s : State) : IslandEventFrame s s.risingEdge := by
  rw [risingEdge_eq]
  split
  · refine island_ite (island_refl s) (island_ite (island_ite (publishMeter_island s _) rfl) ?_)
    exact island_trans (publishMeter_island s _) (publishMeter_island _ _)
  · exact publishMeter_island s _

theorem exec_risingEdge {dt : Nat} (hrun : s.power = .running) :
    exec (.gtickRisingEdge dt) s = .next ((s.elapse dt).risingEdge.finish (s.elapse dt)) :=
  congrArg Host.Outcome.next (event_of_running hrun dt _)

/-- Two withdrawals are one. -/
theorem withdrawn_withdrawn (s : State) (m m' : Meter) : (s.withdrawn m).withdrawn m' = s.withdrawn m' := by
  have hstage (k : Fin 8) : (s.withdrawn m).stages[k] = if s.stages[k].state = .timing then .idle else s.stages[k] :=
    getElem_tabulate _ _ _
  have hnot (k : Fin 8) : (s.withdrawn m).stages[k].state ≠ .timing := by
    rw [hstage]
    split
    · nofun
    next h => exact h
  have hstages : ((s.withdrawn m).withdrawn m').stages = (s.withdrawn m').stages := by
    refine Vector.ext fun k hk => ?_
    have hself : ((s.withdrawn m).withdrawn m').stages[(⟨k, hk⟩ : Fin 8)] = (s.withdrawn m).stages[(⟨k, hk⟩ : Fin 8)] :=
      (getElem_tabulate _ _ _).trans (if_neg (hnot ⟨k, hk⟩))
    exact hself
  have hexhausted : ((s.withdrawn m).withdrawn m').exhausted = (s.withdrawn m').exhausted :=
    if_neg fun ⟨⟨k, hk⟩, _⟩ => hnot k hk
  have hplants : ((s.withdrawn m).withdrawn m').plants = (s.withdrawn m').plants := by
    refine Vector.ext fun p hp => ?_
    have honce (u : State) (m : Meter) : (u.withdrawn m).plants[(⟨p, hp⟩ : Fin 4)] = { u.plants[(⟨p, hp⟩ : Fin 4)] with lim := none } :=
      getElem_tabulate _ _ _
    have htwice : ((s.withdrawn m).withdrawn m').plants[(⟨p, hp⟩ : Fin 4)] = (s.withdrawn m').plants[(⟨p, hp⟩ : Fin 4)] := by
      rw [honce, honce, honce]
    exact htwice
  have hrest : (s.withdrawn m).withdrawn m' = { s.withdrawn m' with
      stages := ((s.withdrawn m).withdrawn m').stages, exhausted := ((s.withdrawn m).withdrawn m').exhausted
      plants := ((s.withdrawn m).withdrawn m').plants } := rfl
  rw [hrest, hstages, hexhausted, hplants]

/-- A meter event that carries no frequency and is not DEAD ends in the withdrawal. -/
theorem publishMeter_of_lit {m : Meter} (hm : m.freq = none) (hdead : m.state ≠ .dead) : s.publishMeter m = s.withdrawn m :=
  (publishMeter_of_no_freq hm).trans (sequencerMeter_of_not (.inl hdead))

/-- A late edge withdraws the frequency once (R7). -/
theorem late_edge (s : State) (m : Meter) : (s.publishMeter m.lose).publishMeter m.lose.reference = s.publishMeter m.lose.reference := by
  rw [publishMeter_of_lit (m := m.lose) rfl nofun, publishMeter_of_lit (m := m.lose.reference) rfl nofun,
    publishMeter_of_lit (m := m.lose.reference) rfl nofun, withdrawn_withdrawn]

theorem not_triggerRuns_of_lit (h : s.meter.state ≠ .dead) : ¬ TriggerRuns s := fun hr => h hr.2.2.1

/-- An edge that is no meter event leaves stages, feeders and plants alone. -/
theorem quietEdge_stands {dt : Nat} {m : Meter} (hdead : m.state ≠ .dead) :
    let t := State.finish { s.elapse dt with meter := m } (s.elapse dt)
    t.meter = m ∧ StagesStand s t := by
  have hframe := finish_frame (s := { s.elapse dt with meter := m }) (before := s.elapse dt) (not_triggerRuns_of_lit hdead)
  generalize State.finish { s.elapse dt with meter := m } (s.elapse dt) = t at hframe
  dsimp only
  rw [hframe]
  exact ⟨rfl, rfl, rfl, rfl, rfl, rfl⟩

/-- Settles O16. -/
theorem risingEdgeMovesMeterRecord : Obligations.RisingEdgeMovesMeterRecord := by
  intro s dt hrun
  let v := s.elapse dt
  have hst : v.meter.state = s.meter.state := Meter.elapse_state s.meter dt
  refine ⟨_, exec_risingEdge hrun, island_trans (risingEdge_island v) (finish_island _ v), fun h => ?_, fun h e he => ⟨fun hglitch => ?_,
    fun hlate => ?_, fun hlo hhi => ?_⟩⟩
  · have hnone : v.meter.ending = none := by
      refine Meter.ending_eq_none.mpr fun ⟨h', _⟩ => ?_
      rw [hst] at h'
      obtain h | h | h := h <;> obtain h' | h' := h' <;> exact nomatch h.symm.trans h'
    have hedge : v.risingEdge = v.publishMeter v.meter.reference := by rw [risingEdge_eq, hnone]
    obtain ⟨hmeter, -, hstages⟩ := publishMeter_withdraws (s := s) (dt := dt) (m := v.meter.reference) rfl
    rw [← hedge] at hmeter hstages
    exact ⟨hmeter, hstages⟩
  all_goals
    have hlit : v.meter.state ≠ .dead := by
      rw [hst]
      obtain h | h := h <;> rw [h] <;> nofun
    have hsome : v.meter.ending = some e := Meter.ending_eq_some.mpr ⟨by rwa [hst], he⟩
    have hedge := risingEdge_eq v
    rw [hsome] at hedge
    dsimp only at hedge
  · have hglitch : e < tPMIN := hglitch
    rw [if_pos hglitch] at hedge
    rw [hedge]
    exact quietEdge_stands (s := s) (dt := dt) hlit
  · have hnot : ¬ e < tPMIN := Nat.not_lt.mpr (Nat.le_trans (by decide : 142858 ≤ 250000) (Nat.le_of_lt hlate))
    have hlate : ¬ e ≤ tPMAX := Nat.not_le.mpr hlate
    rw [if_neg hnot, if_neg hlate, late_edge] at hedge
    obtain ⟨hmeter, -, hstages⟩ := publishMeter_withdraws (s := s) (dt := dt) (m := v.meter.lose.reference) rfl
    rw [← hedge] at hmeter hstages
    exact ⟨hmeter, hstages⟩
  · have hlo : ¬ e < tPMIN := Nat.not_lt.mpr hlo
    have hhi : e ≤ tPMAX := hhi
    have hsame : v.meter.period e = s.meter.period e := period_of_elapse s.meter dt e
    rw [if_neg hlo, if_pos hhi, hsame] at hedge
    have hroom (h : s.meter.periods.length < 10) := pushBounded_of_room h e
    have hfull (h : s.meter.periods.length = 10) := pushBounded_of_full (by decide) h e
    by_cases hvalue : s.meter.state ≠ .acquiring ∨ 4 ≤ s.meter.acqCount + 1
    · rw [period_of_valuing hvalue] at hedge
      obtain ⟨hperiods, helapsed, hfreqs, hcount⟩ := valued_fields s.meter e
      obtain ⟨hvalid, hfreq, hfew, hmany, hnorocof, hrocof⟩ := value_fields (s.meter.valued e)
      have hmeter : (v.risingEdge.finish v).meter = (s.meter.valued e).value := by
        rw [(finish_kept _ v).meter, hedge]
        exact (publishMeter_keeps v _).meter
      generalize v.risingEdge.finish v = t at hmeter
      rw [hfreqs] at hfew hmany
      rw [hmeter]
      refine ⟨helapsed, fun h => hperiods.trans (hroom h), fun h => hperiods.trans (hfull h), hcount, fun hst hlt => ?_,
        fun _ => ⟨hvalid, hfreq, hfew, hmany, hnorocof, hrocof⟩⟩
      exact (hvalue.elim (fun hne => hne hst) fun hge => Nat.not_lt.mpr hge hlt).elim
    · obtain ⟨hst, hcount⟩ := not_or.mp hvalue
      have hst := not_not.mp hst
      have hcount := Nat.not_le.mp hcount
      rw [period_of_counting hst hcount] at hedge
      obtain ⟨hmeter, hstands⟩ := quietEdge_stands (s := s) (dt := dt)
        (m := { s.meter.counted e with acqCount := s.meter.acqCount + 1 }) (by show s.meter.state ≠ _; rw [hst]; nofun)
      have hedge : v.risingEdge = { v with meter := { s.meter.counted e with acqCount := s.meter.acqCount + 1 } } := hedge
      rw [← hedge] at hmeter hstands
      generalize v.risingEdge.finish v = t at hmeter hstands
      rw [hmeter]
      refine ⟨rfl, hroom, hfull, fun _ => rfl, fun _ _ => ⟨rfl, hstands⟩, fun h => ?_⟩
      rw [hst] at h
      exact (h.elim (fun h => nomatch h) fun h => Nat.not_le.mpr hcount h).elim

end Sys2Proof.Machine
end

section
/-! A frequency value at the Shed Ladder and at the Curtailment Unit (R75 to R77, R80, R103 to R107). -/

namespace Sys2Proof.Machine

variable {s t u x before : State} {f : Nat} {p : Fin 4}

/-! ## Limits and sent ceilings at a frequency value (R75 to R77, R80) -/

/-- A plant's record after a limit has lowered its sent ceiling, with the margin of an extra frame. -/
def PlantRec.lowered (r : PlantRec) (margin : Nat) : PlantRec :=
  match r.lim with
  | some lim => if lim < r.sent then
      { r with sent := lim, sentCause := r.causeNow, lastQueued := if lim + margin ≤ r.lastQueued then lim else r.lastQueued }
    else r
  | none => r

/-- The unit's work on a frequency value. -/
def State.curtailAt (s : State) (f : Nat) : State := (s.limitPlants f).configuredPlants.foldl State.lowerCeiling (s.limitPlants f)

/-- A plant's sent ceiling becomes its limit. -/
def State.lowerTo (s : State) (p : Fin 4) (lim : Nat) : State :=
  { s with plants := s.plants.set p { s.plants[p] with sent := lim, sentCause := s.plants[p].causeNow } }

/-- The three things that can become of a sent ceiling at a frequency value. -/
theorem lowerCeiling_cases (s : State) (p : Fin 4) :
    (s.lowerCeiling p = s ∧ ∀ lim, s.plants[p].lim = some lim → ¬ lim < s.plants[p].sent)
    ∨ ∃ lim, s.plants[p].lim = some lim ∧ lim < s.plants[p].sent
      ∧ if lim + extraMargin s.cfg.pv[p].rating ≤ s.plants[p].lastQueued then s.lowerCeiling p = (s.lowerTo p lim).sendCeiling p
        else s.lowerCeiling p = s.lowerTo p lim := by
  unfold State.lowerCeiling
  dsimp only
  split
  next lim hlim =>
    by_cases hlower : lim < s.plants[p].sent
    · refine .inr ⟨lim, hlim, hlower, ?_⟩
      by_cases hmargin : lim + extraMargin s.cfg.pv[p].rating ≤ s.plants[p].lastQueued
      · rw [if_pos hmargin]
        exact (if_pos hlower).trans (if_pos hmargin)
      · rw [if_neg hmargin]
        exact (if_pos hlower).trans (if_neg hmargin)
    · refine .inl ⟨if_neg hlower, fun lim' h => ?_⟩
      rwa [← Option.some.inj (hlim.symm.trans h)]
  next hlim => exact .inl ⟨rfl, fun lim h => absurd (hlim.symm.trans h) nofun⟩

theorem lowerTo_self (s : State) (p : Fin 4) (lim : Nat) :
    (s.lowerTo p lim).plants[p] = { s.plants[p] with sent := lim, sentCause := s.plants[p].causeNow } := Vector.getElem_set_self _

theorem lowerTo_ne {k : Fin 4} (h : k ≠ p) (lim : Nat) : (s.lowerTo k lim).plants[p] = s.plants[p] :=
  Vector.getElem_set_ne k.isLt p.isLt fun hk => h (Fin.ext hk)

theorem lowerCeiling_frame (s : State) (k : Fin 4) : PlantsFrame s (s.lowerCeiling k) := by
  obtain ⟨h, -⟩ | ⟨lim, -, -, h⟩ := lowerCeiling_cases s k
  · rw [h]
    rfl
  · split at h <;> rw [h] <;> rfl

/-- A frame of another kind waits through the frames of the plants. -/
theorem lowerCeiling_rest (s : State) (k : Fin 4) : RestWaits s (s.lowerCeiling k) := by
  obtain ⟨h, -⟩ | ⟨lim, -, -, h⟩ := lowerCeiling_cases s k
  · rw [h]
    exact fun _ _ _ => rfl
  · have hlowered : RestWaits s (s.lowerTo k lim) := fun _ _ _ => rfl
    split at h <;> rw [h]
    · exact hlowered.trans (.sendCeiling _ k)
    · exact hlowered

theorem lowerCeiling_ne {k : Fin 4} (h : k ≠ p) : (s.lowerCeiling k).plants[p] = s.plants[p]
    ∧ ∀ frame : Frame, frame.key = .pvCeiling p → frame ∈ s.txQueue → frame ∈ (s.lowerCeiling k).txQueue := by
  obtain ⟨hstep, -⟩ | ⟨lim, -, -, hstep⟩ := lowerCeiling_cases s k
  · rw [hstep]
    exact ⟨rfl, fun _ _ hmem => hmem⟩
  · split at hstep <;> rw [hstep]
    · refine ⟨(sendCeiling_plants _ k p).trans ((if_neg h).trans (lowerTo_ne h lim)), fun frame hkey hmem => ?_⟩
      exact mem_enqueue.mpr (.inr ⟨hmem, fun hk => h (Key.pvCeiling.inj (hk.symm.trans hkey))⟩)
    · exact ⟨lowerTo_ne h lim, fun _ _ hmem => hmem⟩

theorem lowerCeiling_self (s : State) (p : Fin 4) :
    (s.lowerCeiling p).plants[p] = s.plants[p].lowered (extraMargin s.cfg.pv[p].rating)
    ∧ ∀ lim, s.plants[p].lim = some lim → lim < s.plants[p].sent →
        lim + extraMargin s.cfg.pv[p].rating ≤ s.plants[p].lastQueued →
        .pvCeiling p s.cfg.pv[p].address lim s.plants[p].causeNow ∈ (s.lowerCeiling p).txQueue := by
  obtain ⟨hstep, hnot⟩ | ⟨lim, hlim, hlower, hstep⟩ := lowerCeiling_cases s p
  · refine ⟨?_, fun lim hlim hlower => absurd hlower (hnot lim hlim)⟩
    rw [hstep, PlantRec.lowered]
    split
    next lim hlim => rw [if_neg (hnot lim hlim)]
    · rfl
  · have hrecord : s.plants[p].lowered (extraMargin s.cfg.pv[p].rating) = { s.plants[p] with
        sent := lim, sentCause := s.plants[p].causeNow
        lastQueued := if lim + extraMargin s.cfg.pv[p].rating ≤ s.plants[p].lastQueued then lim else s.plants[p].lastQueued } := by
      rw [PlantRec.lowered]
      split
      next lim' hlim' =>
        obtain rfl := Option.some.inj (hlim.symm.trans hlim')
        exact if_pos hlower
      next hlim' => exact absurd (hlim.symm.trans hlim') nofun
    rw [hrecord]
    split at hstep
    next hmargin =>
      rw [hstep, sendCeiling_plants, if_pos rfl, lowerTo_self, if_pos hmargin]
      refine ⟨rfl, fun lim' hlim' _ _ => ?_⟩
      obtain rfl := Option.some.inj (hlim.symm.trans hlim')
      have hmem := self_mem_enqueue (s.lowerTo p lim).txQueue ((s.lowerTo p lim).ceilingFrame p)
      rw [sendCeiling_txQueue]
      rwa [State.ceilingFrame, lowerTo_self] at hmem ⊢
    next hmargin =>
      rw [hstep, lowerTo_self, if_neg hmargin]
      refine ⟨rfl, fun lim' hlim' _ h => absurd ?_ hmargin⟩
      rwa [Option.some.inj (hlim.symm.trans hlim')] at *

theorem lowerAll_of_not_mem {l : List (Fin 4)} (hp : p ∉ l) (s : State) :
    (l.foldl State.lowerCeiling s).plants[p] = s.plants[p]
    ∧ ∀ frame : Frame, frame.key = .pvCeiling p → frame ∈ s.txQueue → frame ∈ (l.foldl State.lowerCeiling s).txQueue := by
  induction l generalizing s with
  | nil => exact ⟨rfl, fun _ _ hmem => hmem⟩
  | cons k l ih =>
    obtain ⟨hne, hnot⟩ := List.ne_and_not_mem_of_not_mem_cons hp
    obtain ⟨hplant, hframes⟩ := lowerCeiling_ne (s := s) hne.symm
    obtain ⟨hplants, hall⟩ := ih hnot (s.lowerCeiling k)
    exact ⟨hplants.trans hplant, fun frame hkey hmem => hall frame hkey (hframes frame hkey hmem)⟩

/-- What the ceilings lowered at a frequency value are. -/
theorem lowerAll_of_mem {l : List (Fin 4)} (hnodup : l.Nodup) (hp : p ∈ l) (s : State) :
    (l.foldl State.lowerCeiling s).plants[p] = s.plants[p].lowered (extraMargin s.cfg.pv[p].rating)
    ∧ ∀ lim, s.plants[p].lim = some lim → lim < s.plants[p].sent →
        lim + extraMargin s.cfg.pv[p].rating ≤ s.plants[p].lastQueued →
        .pvCeiling p s.cfg.pv[p].address lim s.plants[p].causeNow ∈ (l.foldl State.lowerCeiling s).txQueue := by
  obtain ⟨a, b, rfl⟩ := List.append_of_mem hp
  obtain ⟨-, hb, hab⟩ := List.nodup_append.mp hnodup
  have hbefore : p ∉ a := fun ha => hab p ha p List.mem_cons_self rfl
  have hafter : p ∉ b := (List.nodup_cons.mp hb).1
  rw [List.foldl_append, List.foldl_cons]
  have hplant := (lowerAll_of_not_mem hbefore s).1
  have hframe : PlantsFrame s (a.foldl State.lowerCeiling s) := .foldl lowerCeiling_frame a s
  have hcfg : (a.foldl State.lowerCeiling s).cfg = s.cfg := by rw [hframe]
  generalize a.foldl State.lowerCeiling s = u at hplant hcfg
  obtain ⟨hplants, hframes⟩ := lowerAll_of_not_mem hafter (u.lowerCeiling p)
  obtain ⟨hself, hmem⟩ := lowerCeiling_self u p
  rw [hplant, hcfg] at hself hmem
  exact ⟨hplants.trans hself, fun lim hlim hlower hmargin => hframes _ rfl (hmem lim hlim hlower hmargin)⟩

theorem configuredPlants_nodup (s : State) : s.configuredPlants.Nodup := indices_nodup.filter _

theorem limitPlants_plants (h : 0 < s.cfg.pv[p].rating) : (s.limitPlants f).plants[p] =
    if s.overStart < f then
      { s.plants[p] with
        ref := some (s.plants[p].ref.getD (s.latchValue p))
        lim := some (limitAt (s.plants[p].ref.getD (s.latchValue p)) (s.par OF_GRAD) (f - s.overStart)) }
    else { s.plants[p] with ref := none, lim := none } := by
  rw [State.limitPlants, Fin.getElem_fin, getElem_tabulate, if_pos ((s.plantConfigured_iff p).mpr h)]

theorem curtailAt_frame (s : State) (f : Nat) : PlantsFrame s (s.curtailAt f) :=
  .trans (t := s.limitPlants f) rfl (.foldl lowerCeiling_frame _ _)

/-- Ceilings at a frequency value: the record and the extra frame of each configured plant. -/
theorem curtailAt_plants (h : 0 < s.cfg.pv[p].rating) :
    (s.curtailAt f).plants[p] = (s.limitPlants f).plants[p].lowered (extraMargin s.cfg.pv[p].rating)
    ∧ ∀ lim, (s.limitPlants f).plants[p].lim = some lim → lim < (s.limitPlants f).plants[p].sent →
        lim + extraMargin s.cfg.pv[p].rating ≤ (s.limitPlants f).plants[p].lastQueued →
        .pvCeiling p s.cfg.pv[p].address lim (s.limitPlants f).plants[p].causeNow ∈ (s.curtailAt f).txQueue :=
  lowerAll_of_mem (configuredPlants_nodup _)
    ((State.mem_configuredPlants (s.limitPlants f)).mpr ((State.plantConfigured_iff (s.limitPlants f) p).mpr h)) _

theorem curtailAt_rest (s : State) (f : Nat) : RestWaits s (s.curtailAt f) :=
  .trans (t := s.limitPlants f) (fun _ _ _ => rfl) (.foldl lowerCeiling_rest _ _)

/-! ## The stages at a frequency value (R103 to R107) -/

theorem combinedAction_frame (s : State) (firing : List (Fin 8)) : s.combinedAction firing = { s with
    feeders := (s.combinedAction firing).feeders, queue := (s.combinedAction firing).queue, hold := (s.combinedAction firing).hold
    settle := (s.combinedAction firing).settle, exhausted := (s.combinedAction firing).exhausted } := by
  cases firing with
  | nil => rfl
  | cons lowest rest =>
    rw [combinedAction_eq]
    dsimp only
    rw [revertAll_frame]

/-- The stages' records, the restore delay and SHED_EXHAUSTED as a frequency value leaves them to the stages that fire. -/
def State.evaluated (s : State) (f : Nat) (time : Count) (rocof : Option Int) : State :=
  let moves := s.stageMoves f time rocof
  let s1 := { s with stages := tabulate fun k => moves[k].next }
  let s2 := if (indices 8).any fun k => moves[k].resets then s1.handStageReset time else s1
  s2.clearExhaustedIfIdle ((indices 8).any fun k => moves[k].returns)

/-- The stages that fire at a frequency value. -/
def State.firingAt (s : State) (f : Nat) (time : Count) (rocof : Option Int) : List (Fin 8) :=
  (indices 8).filter fun k => (s.stageMoves f time rocof)[k].fires

theorem evaluateStages_eq (s : State) (f : Nat) (time : Count) (rocof : Option Int) :
    s.evaluateStages f time rocof = (s.evaluated f time rocof).combinedAction (s.firingAt f time rocof) := rfl

theorem stageMoves_get (s : State) (f : Nat) (time : Count) (rocof : Option Int) (k : Fin 8) :
    (s.stageMoves f time rocof)[k] = s.cfg.stages[k].move s.stages[k] s.fn f time rocof := getElem_tabulate _ _ _

/-- What one stage's move says of its old and its new state. -/
structure MoveAgrees (old : StageRec) (m : StageMove) : Prop where
  fires : m.fires = true ↔ old.state ≠ .fired ∧ m.next.state = .fired
  resets : m.resets = true ↔ old.state = .fired ∧ m.next.state = .idle
  returns : m.next.state = .idle → (m.returns = true ↔ old.state ≠ .idle)

theorem test_agrees {e : StageEntry} {old : StageRec} {start time : Count} {rocof : Option Int} (h : old.state ≠ .fired) :
    MoveAgrees old (e.test start time rocof) := by
  unfold StageEntry.test
  split
  · exact ⟨iff_of_true rfl ⟨h, rfl⟩, iff_of_false nofun fun hreset => h hreset.1, nofun⟩
  · exact ⟨iff_of_false nofun (fun hfire => nomatch hfire.2), iff_of_false nofun fun hreset => h hreset.1, nofun⟩

theorem stays_agrees (r : StageRec) : MoveAgrees r ⟨r, false, false, false⟩ where
  fires := iff_of_false nofun fun h => h.1 h.2
  resets := iff_of_false nofun fun h => nomatch h.1.symm.trans h.2
  returns := fun h => iff_of_false nofun fun hne => hne h

theorem move_agrees (e : StageEntry) (r : StageRec) (fn f : Nat) (time : Count) (rocof : Option Int) :
    MoveAgrees r (e.move r fn f time rocof) := by
  unfold StageEntry.move
  split
  · split
    next h =>
      split
      · exact test_agrees (by rw [h]; nofun)
      · exact stays_agrees r
    next h =>
      split
      · exact test_agrees (by rw [h]; nofun)
      · exact ⟨iff_of_false nofun (fun hfire => nomatch hfire.2), iff_of_false nofun (by rw [h]; nofun),
          fun _ => iff_of_true rfl (by rw [h]; nofun)⟩
    next h =>
      split
      · exact ⟨iff_of_false nofun (fun hfire => nomatch hfire.2), iff_of_true rfl ⟨h, rfl⟩, fun _ => iff_of_true rfl (by rw [h]; nofun)⟩
      · exact stays_agrees r
  · exact stays_agrees r

theorem fires_iff {e : StageEntry} {start time : Count} {rocof : Option Int} :
    e.fires start time rocof = true ↔ stageFires e start time rocof := by
  unfold StageEntry.fires stageFires
  cases rocof with
  | none => simp
  | some r => simp

/-- A stage under test fires or times on (R103). -/
theorem test_next (e : StageEntry) (start time : Count) (rocof : Option Int) :
    (stageFires e start time rocof → (e.test start time rocof).next = ⟨.fired, none⟩)
    ∧ (¬ stageFires e start time rocof → (e.test start time rocof).next = ⟨.timing, some start⟩) := by
  unfold StageEntry.test
  rw [← fires_iff]
  exact ⟨fun h => by rw [if_pos h], fun h => by rw [if_neg h]⟩

theorem move_of_enabled {e : StageEntry} {r : StageRec} {fn f : Nat} {time : Count} {rocof : Option Int} (h : e.enabled = true) :
    e.move r fn f time rocof = match r.state with
      | .idle => if f + e.offset ≤ fn then e.test time time rocof else ⟨r, false, false, false⟩
      | .timing => if f + e.offset ≤ fn then e.test (r.start.getD time) time rocof else ⟨.idle, false, false, true⟩
      | .fired => if fn + 200 ≤ f + e.offset then ⟨.idle, false, true, true⟩ else ⟨r, false, false, false⟩ := if_pos h

theorem move_movesTo (e : StageEntry) (r : StageRec) (fn f : Nat) (time : Count) (rocof : Option Int) :
    StageMovesTo e r fn f time rocof (e.move r fn f time rocof).next := by
  refine ⟨fun h => ?_, fun henabled => ?_⟩
  · rw [StageEntry.move, if_neg (by rw [h]; nofun)]
  · have hbelow : (f : Int) ≤ (fn : Int) - (e.offset : Int) ↔ f + e.offset ≤ fn := by omega
    rw [move_of_enabled henabled]
    refine ⟨fun h hf => ?_, fun h hf => ?_, fun h hf => ?_, fun start h hs hf => ?_, fun h hf => ?_, fun h hf => ?_⟩ <;> rw [h] <;> dsimp only
    · rw [if_pos (hbelow.mp hf)]
      exact test_next e time time rocof
    · rw [if_neg (mt hbelow.mpr (Int.not_le.mpr hf))]
    · rw [if_neg (mt hbelow.mpr (Int.not_le.mpr hf))]
      rfl
    · rw [if_pos (hbelow.mp hf), hs]
      exact test_next e start time rocof
    · rw [if_pos (by omega)]
      rfl
    · rw [if_neg (by omega)]

/-- The state the stages that fire find. -/
theorem evaluated_eq (s : State) (f : Nat) (time : Count) (rocof : Option Int) (stages : Vector StageRec 8)
    (hstages : (tabulate fun k => (s.stageMoves f time rocof)[k].next) = stages) : s.evaluated f time rocof = { s with
      stages := stages
      restoreDelay := if ∃ k : Fin 8, s.stages[k].state = .fired ∧ stages[k].state = .idle
        then some (time + 10000000 * s.cfg.params[RESTORE_DELAY]) else s.restoreDelay
      exhausted := if (∃ k : Fin 8, s.stages[k].state ≠ .idle) ∧ ∀ k : Fin 8, stages[k].state = .idle then false
        else s.exhausted } := by
  have hnext (k : Fin 8) : stages[k] = (s.stageMoves f time rocof)[k].next := by
    rw [← hstages]
    exact getElem_tabulate _ _ _
  have hagrees (k : Fin 8) : MoveAgrees s.stages[k] (s.stageMoves f time rocof)[k] := by
    rw [stageMoves_get]
    exact move_agrees _ _ _ _ _ _
  have hresets : ((indices 8).any fun k => (s.stageMoves f time rocof)[k].resets) = true
      ↔ ∃ k : Fin 8, s.stages[k].state = .fired ∧ stages[k].state = .idle := by
    simp only [List.any_eq_true, mem_indices, true_and, hnext]
    exact exists_congr fun k => (hagrees k).resets
  have hreturns (hidle : ∀ k : Fin 8, stages[k].state = .idle) :
      ((indices 8).any fun k => (s.stageMoves f time rocof)[k].returns) = true ↔ ∃ k : Fin 8, s.stages[k].state ≠ .idle := by
    simp only [List.any_eq_true, mem_indices, true_and]
    exact exists_congr fun k => (hagrees k).returns (hnext k ▸ hidle k)
  unfold State.evaluated State.clearExhaustedIfIdle
  dsimp only
  rw [hstages]
  generalize ((indices 8).any fun k => (s.stageMoves f time rocof)[k].resets) = anyReset at hresets
  generalize ((indices 8).any fun k => (s.stageMoves f time rocof)[k].returns) = anyReturn at hreturns
  have hdelay : (if anyReset = true then State.handStageReset { s with stages := stages } time else { s with stages := stages })
      = { s with
          stages := stages
          restoreDelay := if ∃ k : Fin 8, s.stages[k].state = .fired ∧ stages[k].state = .idle
            then some (time + 10000000 * s.cfg.params[RESTORE_DELAY]) else s.restoreDelay } := by
    by_cases h : anyReset = true
    · rw [if_pos h, if_pos (hresets.mp h), State.handStageReset, sec_eq]
      rfl
    · rw [if_neg h, if_neg (mt hresets.mpr h)]
  rw [hdelay]
  by_cases hidle : ∀ k : Fin 8, stages[k].state = .idle
  · have hiff := (and_congr_left fun _ => hreturns hidle).trans (and_congr_right fun _ => stagesIdle_iff { s with stages := stages })
    by_cases h : (∃ k : Fin 8, s.stages[k].state ≠ .idle) ∧ ∀ k : Fin 8, stages[k].state = .idle
    · rw [if_pos h]
      exact if_pos (hiff.mpr h)
    · rw [if_neg h]
      exact if_neg (mt hiff.mp h)
  · have hnot : ¬ ((∃ k : Fin 8, s.stages[k].state ≠ .idle) ∧ ∀ k : Fin 8, stages[k].state = .idle) := fun h => hidle h.2
    rw [if_neg hnot]
    exact if_neg fun h => hidle ((stagesIdle_iff _).mp h.2)

theorem evaluateStages_frame (s : State) (f : Nat) (time : Count) (rocof : Option Int) : s.evaluateStages f time rocof = { s with
    stages := (s.evaluated f time rocof).stages, restoreDelay := (s.evaluated f time rocof).restoreDelay
    feeders := (s.evaluateStages f time rocof).feeders, queue := (s.evaluateStages f time rocof).queue
    hold := (s.evaluateStages f time rocof).hold, settle := (s.evaluateStages f time rocof).settle
    exhausted := (s.evaluateStages f time rocof).exhausted } := by
  rw [evaluateStages_eq, combinedAction_frame, evaluated_eq s f time rocof _ rfl]

/-! ## The rising edge that gives a value (R6, R13) -/

/-- The state at the stages: the meter's new record is noted. -/
def State.withValue (s : State) (m : Meter) : State := { s with meter := m, notedMeter := m.state }

/-- A meter event with a frequency: the stages first, the plants then. -/
theorem publishMeter_of_freq {m : Meter} (hf : m.freq = some f) (hvalid : m.state = .valid) : s.publishMeter m =
    ((s.withValue m).evaluateStages f s.clk m.rocof).curtailAt f := by
  unfold State.publishMeter State.meterEvent
  rw [sequencerMeter_of_not (.inl (by rw [hvalid]; nofun))]
  unfold State.ladderMeter State.curtailmentMeter
  rw [hf]
  rfl

theorem risingEdge_of_value {dt e : Nat} (h : GivesValue s dt e) : ∃ m f, m.state = .valid ∧ m.freq = some f
    ∧ exec (.gtickRisingEdge dt) s =
      .next (((((s.elapse dt).withValue m).evaluateStages f (s.clk + dt) m.rocof).curtailAt f).finish (s.elapse dt)) := by
  obtain ⟨hrun, he, hlo, hhi, hstate⟩ := h
  let v := s.elapse dt
  have hst : v.meter.state = s.meter.state := Meter.elapse_state s.meter dt
  have hsome : v.meter.ending = some e := Meter.ending_eq_some.mpr ⟨by rw [hst]; exact hstate.symm.imp_left And.left, he⟩
  have hedge := risingEdge_eq v
  have hlo : ¬ e < tPMIN := Nat.not_lt.mpr hlo
  have hhi : e ≤ tPMAX := hhi
  have hsame : v.meter.period e = s.meter.period e := period_of_elapse s.meter dt e
  have hvalue : s.meter.state ≠ .acquiring ∨ 4 ≤ s.meter.acqCount + 1 :=
    hstate.imp (fun h => by rw [h]; nofun) fun h => Nat.succ_le_succ h.2
  rw [hsome] at hedge
  dsimp only at hedge
  rw [if_neg hlo, if_pos hhi, hsame, period_of_valuing hvalue] at hedge
  obtain ⟨hvalid, hfreq, -⟩ := value_fields (s.meter.valued e)
  have hpub : v.risingEdge = _ := hedge.trans (publishMeter_of_freq (s := v) hfreq hvalid)
  exact ⟨_, _, hvalid, hfreq, (exec_risingEdge hrun).trans (congrArg (fun x : State => Host.Outcome.next (x.finish v)) hpub)⟩

/-- The end of an event keeps a waiting frame that is neither a SET_DIRECTIVE nor a feeder report. -/
theorem finish_frame_mem (h : ¬ TriggerRuns s) {frame : Frame} (hd : ∀ i, frame.key ≠ .setDirective i)
    (hr : frame.key ≠ .feederReport) (hmem : frame ∈ s.txQueue) : frame ∈ (s.finish before).txQueue := by
  have hlooks := (LooksFrame.sequencerReact h).others.frame_mem hd hmem
  rw [State.finish, State.refreshAlert_txQueue, reportChanges_eq]
  dsimp only
  split
  · exact hlooks
  · exact mem_enqueue.mpr (.inr ⟨hlooks, fun hk => hr hk⟩)

/-- What an event with the meter VALID makes of the plants stands at its end. -/
theorem valueEdge_ends {e : Nat} {dt : Nat} (h : GivesValue s dt e) : ∃ t m f, ∃ w : State, exec (.gtickRisingEdge dt) s = .next t
    ∧ m.state = .valid ∧ m.freq = some f
    ∧ w = ((s.elapse dt).withValue m).evaluateStages f (s.clk + dt) m.rocof
    ∧ ¬ TriggerRuns (w.curtailAt f) ∧ t = (w.curtailAt f).finish (s.elapse dt) := by
  obtain ⟨m, f, hvalid, hf, hexec⟩ := risingEdge_of_value h
  have hmeter : ((((s.elapse dt).withValue m).evaluateStages f (s.clk + dt) m.rocof).curtailAt f).meter.state = .valid := by
    rw [curtailAt_frame, evaluateStages_frame]
    exact hvalid
  exact ⟨_, m, f, _, hexec, hvalid, hf, rfl, not_triggerRuns_of_lit (by rw [hmeter]; nofun), rfl⟩

/-! ## The limits of the plants -/

theorem lowered_of_below {r : PlantRec} {lim margin : Nat} (hlim : r.lim = some lim) (h : lim < r.sent) : r.lowered margin =
    { r with sent := lim, sentCause := r.causeNow
             lastQueued := if lim + margin ≤ r.lastQueued then lim else r.lastQueued } := by
  unfold PlantRec.lowered
  split
  next lim' hlim' =>
    obtain rfl := Option.some.inj (hlim.symm.trans hlim')
    exact if_pos h
  next hlim' => exact absurd (hlim.symm.trans hlim') nofun

theorem lowered_of_not {r : PlantRec} {margin : Nat} (h : ∀ lim, r.lim = some lim → r.sent ≤ lim) : r.lowered margin = r := by
  unfold PlantRec.lowered
  split
  next lim hlim => exact if_neg (Nat.not_lt.mpr (h lim hlim))
  · rfl

/-- A record with a limit, after it is lowered (R77, R80). -/
theorem lowered_fields {r : PlantRec} {lim margin : Nat} (hlim : r.lim = some lim) :
    (r.lowered margin).ref = r.ref ∧ (r.lowered margin).lim = some lim ∧ (r.lowered margin).sent = min r.sent lim
    ∧ (lim < r.sent → (r.lowered margin).sentCause = r.causeNow ∧ r.causeNow = if lim < r.allotment then .fastOf else r.allotCause)
    ∧ (r.sent ≤ lim → (r.lowered margin).sentCause = r.sentCause)
    ∧ (lim < r.sent → lim + margin ≤ r.lastQueued → (r.lowered margin).lastQueued = lim) := by
  by_cases h : lim < r.sent
  · rw [lowered_of_below hlim h]
    refine ⟨rfl, hlim, (min_eq_right (Nat.le_of_lt h)).symm, fun _ => ⟨rfl, ?_⟩, fun hnot => absurd h (Nat.not_lt.mpr hnot),
      fun _ hmargin => if_pos hmargin⟩
    simp only [PlantRec.causeNow, hlim]
  · have hle := Nat.not_lt.mp h
    rw [lowered_of_not fun lim' hlim' => by rwa [← Option.some.inj (hlim.symm.trans hlim')]]
    exact ⟨rfl, hlim, (min_eq_left hle).symm, fun hlt => absurd hlt h, fun _ => rfl, fun hlt => absurd hlt h⟩

theorem valueEdge_fields {dt : Nat} {m : Meter} {w : State}
    (hw : w = ((s.elapse dt).withValue m).evaluateStages f (s.clk + dt) m.rocof) : w.cfg = s.cfg ∧ w.fn = s.fn ∧ w.plants = s.plants
      ∧ w.pvSlots = s.pvSlots ∧ w.txQueue = s.txQueue ∧ w.meter = m ∧ w.reportCount = s.reportCount ∧ w.clk = s.clk + dt := by
  rw [hw, evaluateStages_frame]
  exact ⟨rfl, rfl, rfl, rfl, rfl, rfl, rfl, rfl⟩

/-- Settles O20. -/
theorem frequencyValueLimitsEveryPlant : Obligations.FrequencyValueLimitsEveryPlant := by
  intro s dt e h
  obtain ⟨t, m, f, w, hexec, hvalid, hf, hw, hno, ht⟩ := valueEdge_ends h
  obtain ⟨hcfg, hfn, hplants, hslots, -, hmeter, -, -⟩ := valueEdge_fields hw
  have hframe := finish_frame (before := s.elapse dt) hno
  have hwaits (frame : Frame) (hd : ∀ i, frame.key ≠ .setDirective i) (hr : frame.key ≠ .feederReport)
    (hmem : frame ∈ (w.curtailAt f).txQueue) := finish_frame_mem (before := s.elapse dt) hno hd hr hmem
  rw [← ht] at hframe hwaits
  have hplant (p : Fin 4) : t.plants[p] = (w.curtailAt f).plants[p] := by rw [hframe]
  have hmeter : t.meter = m := by rw [hframe, curtailAt_frame]; exact hmeter
  refine ⟨t, f, hexec, hmeter ▸ hf, fun p hp => ?_⟩
  obtain ⟨hlowered, hmem⟩ := curtailAt_plants (s := w) (f := f) (p := p) (by rwa [hcfg])
  have hlimited := limitPlants_plants (s := w) (f := f) (p := p) (by rwa [hcfg])
  have hstart : w.overStart = s.fn + s.cfg.params[OF_START] := by rw [State.overStart, State.par, hcfg, hfn]
  have hlatch : w.latchValue p = s.latchValue p := by rw [State.latchValue, hslots, hcfg]; rfl
  have hgrad : w.par OF_GRAD = s.cfg.params[OF_GRAD] := by rw [State.par, hcfg]
  rw [hstart, hlatch, hgrad, hplants] at hlimited
  rw [hplant, hlowered]
  rw [hcfg] at hmem ⊢
  refine ⟨fun habove => ?_, fun hbelow => ?_⟩
  · rw [if_pos habove] at hlimited
    generalize (w.limitPlants f).plants[p] = r at hlimited hmem
    have hlim := congrArg PlantRec.lim hlimited
    obtain ⟨href, hlimit, hsent, hcause, hcauseKept, hqueued⟩ := lowered_fields (margin := extraMargin s.cfg.pv[p].rating) hlim
    subst hlimited
    refine ⟨_, _, href, hlimit, fun old hold => ?_, fun hnone slot hslot => ?_, fun hnone hslot => ?_, rfl, hsent, fun hlower => ?_,
      hcauseKept, fun hlower hmargin => ⟨hqueued hlower hmargin, ?_⟩⟩
    · rw [hold]
      rfl
    · rw [hnone, Option.getD_none, State.latchValue, hslot]
    · rw [hnone, Option.getD_none, State.latchValue, hslot]
    · exact (hcause hlower).1.trans (hcause hlower).2
    · rw [(hcause hlower).1]
      exact hwaits _ (by nofun) (by nofun) (hmem _ hlim hlower hmargin)
  · rw [if_neg (Nat.not_lt.mpr hbelow)] at hlimited
    rw [hlimited]
    exact lowered_of_not nofun

end Sys2Proof.Machine
end

section
/-! The stages at a frequency value, and the shed action of those that fire (R99, R101 to R107, R114, R128). -/

namespace Sys2Proof.Machine

variable {s t u x before : State} {f : Nat}

/-- Settles O19. -/
theorem frequencyValueMovesEveryStage : Obligations.FrequencyValueMovesEveryStage := by
  intro s dt e h
  obtain ⟨t, m, f, w, hexec, hvalid, hf, hw, hno, ht⟩ := valueEdge_ends h
  let found := (s.elapse dt).withValue m
  obtain ⟨-, -, -, -, htx, hmeter, hcount, -⟩ := valueEdge_fields hw
  have hplants := curtailAt_frame w f
  have hrest := (curtailAt_rest w f).reports
  have hkept := finish_kept (w.curtailAt f) (s.elapse dt)
  have hfields := finish_feeder_fields (before := s.elapse dt) hno
  have hreports : ReportsStand (s.elapse dt) (w.curtailAt f) :=
    ⟨(congrArg State.reportCount hplants :).trans hcount, hrest.trans (by rw [htx]; rfl)⟩
  have hfollows := finish_reports hno hreports
  rw [← ht] at hkept hfields hfollows
  have hmeter : t.meter = m := hkept.meter.trans ((congrArg State.meter hplants :).trans hmeter)
  have hw' : w = (found.evaluated f (s.clk + dt) m.rocof).combinedAction (found.firingAt f (s.clk + dt) m.rocof) := hw
  have hstages : (tabulate fun k => (found.stageMoves f (s.clk + dt) m.rocof)[k].next) = t.stages := by
    rw [hkept.stages, (congrArg State.stages hplants :), hw', combinedAction_frame, evaluated_eq _ _ _ _ _ rfl]
  have hstage (k : Fin 8) : t.stages[k] = (found.stageMoves f (s.clk + dt) m.rocof)[k].next := by
    rw [← hstages]
    exact getElem_tabulate _ _ _
  refine ⟨t, f, found.firingAt f (s.clk + dt) m.rocof, hexec, hmeter ▸ hf, fun k => ?_, pairwise_lt_filter_indices _, fun k => ?_, ?_,
    hfollows⟩
  · rw [hstage, stageMoves_get, hmeter]
    exact move_movesTo _ _ _ _ _ _
  · rw [State.firingAt, List.mem_filter, hstage, stageMoves_get]
    exact (and_iff_right (mem_indices k)).trans (move_agrees _ _ _ _ _ _).fires
  · intro allIdle u v
    have hu : u = found.evaluated f (s.clk + dt) m.rocof := by
      rw [evaluated_eq _ _ _ _ _ hstages]
      simp only [u, hmeter, ← hvalid]
      rfl
    have hv : w = v := by rw [hw', ← hu]
    obtain ⟨hfeeders, hqueue, hsettle, hhold, hexhausted⟩ := hfields
    have hfeeders : t.feeders = v.feeders := hfeeders.trans ((congrArg State.feeders hplants :).trans (by rw [hv]))
    have hqueue : t.queue = v.queue := hqueue.trans ((congrArg State.queue hplants :).trans (by rw [hv]))
    have hsettle : t.settle = v.settle := hsettle.trans ((congrArg State.settle hplants :).trans (by rw [hv]))
    have hhold : t.hold = v.hold := hhold.trans ((congrArg State.hold hplants :).trans (by rw [hv]))
    have hdelay : v.restoreDelay = u.restoreDelay := (congrArg State.restoreDelay (combinedAction_frame u _) :)
    refine ⟨hfeeders, hqueue, hsettle, hhold, hexhausted.trans ((congrArg State.exhausted hplants :).trans (by rw [hv])),
      hkept.restoreDelay.trans ((congrArg State.restoreDelay hplants :).trans (by rw [hv, hdelay])), fun hnil => ?_⟩
    have hv : v = u := by
      unfold v
      rw [hnil]
      rfl
    rw [hv] at hfeeders hqueue hsettle hhold
    exact ⟨hfeeders, hqueue, hsettle, hhold⟩

end Sys2Proof.Machine
end

section
/-! Resume Dispatch and Enter Observe (R48, R49, R140, R158, R159, R163). -/

namespace Sys2Proof.Machine

variable {s t u x v before : State} {m : Mode} {rx : Rx} {i : Fin 8}

/-! ## The frames of a derivation of every directive (R49) -/

/-- A set's SET_DIRECTIVE with the directive and the sequence of a record. -/
def State.directedFrame (s : State) (i : Fin 8) (r : SetRec) : Frame :=
  .setDirective i s.cfg.roster[i].address r.directive r.dirSeq

theorem redirect_keeps_frame {j : Fin 8} (h : j ≠ i) {frame : Frame} (hkey : frame.key = .setDirective i)
    (hmem : frame ∈ s.txQueue) : frame ∈ (s.redirect j).txQueue := by
  obtain hsame | ⟨-, -, hsent⟩ := redirect_cases s j
  · rwa [hsame]
  · rw [hsent]
    exact mem_enqueue.mpr (.inr ⟨hmem, fun hk => h (Key.setDirective.inj (hk.symm.trans hkey))⟩)

theorem redirect_frame_mem (h : (s.derivedSet i).directive ≠ s.sets[i].directive) :
    s.directedFrame i (s.derivedSet i) ∈ (s.redirect i).txQueue := by
  by_cases hstands : 0 < s.cfg.roster[i].rating → s.wanted i = s.sets[i].directive
  · rw [derivedSet_of_stands s hstands] at h
    exact absurd rfl h
  · rw [Classical.not_imp] at hstands
    rw [redirect_of_changes s hstands.1 hstands.2]
    exact self_mem_enqueue s.txQueue _

theorem redirects_keep_frame {l : List (Fin 8)} (h : i ∉ l) {frame : Frame} (hkey : frame.key = .setDirective i) :
    ∀ s : State, frame ∈ s.txQueue → frame ∈ (l.foldl State.redirect s).txQueue := by
  induction l with
  | nil => exact fun _ hmem => hmem
  | cons j l ih =>
    obtain ⟨hne, hnot⟩ := List.ne_and_not_mem_of_not_mem_cons h
    exact fun s hmem => ih hnot _ (redirect_keeps_frame hne.symm hkey hmem)

theorem redirects_frame_mem {l : List (Fin 8)} (hnodup : l.Nodup) (hi : i ∈ l)
    (h : (s.derivedSet i).directive ≠ s.sets[i].directive) :
    s.directedFrame i (s.derivedSet i) ∈ (l.foldl State.redirect s).txQueue := by
  obtain ⟨a, b, rfl⟩ := List.append_of_mem hi
  obtain ⟨ha, hb, hab⟩ := List.nodup_append.mp hnodup
  have hbefore : i ∉ a := fun hmem => hab i hmem i List.mem_cons_self rfl
  rw [List.foldl_append, List.foldl_cons]
  refine redirects_keep_frame (List.nodup_cons.mp hb).1 rfl _ ?_
  have hsame := (foldl_redirect_sets s ha i).trans (if_neg hbefore)
  have hframe : SetsFrame s (a.foldl State.redirect s) := .foldl redirect_setsFrame a s
  generalize a.foldl State.redirect s = u at hsame hframe
  have hderived : u.derivedSet i = s.derivedSet i := by
    unfold State.derivedSet State.wanted
    rw [hsame, hframe.cfg, hframe.mode]
  have hsent := redirect_frame_mem (s := u) (i := i) (by rwa [hderived, hsame])
  rwa [hderived, State.directedFrame, hframe.cfg] at hsent

/-- The sets' records and the frames after every directive has been derived for a mode. -/
def DirectivesDerived (s : State) (m : Mode) (t : State) : Prop := ∀ i : Fin 8,
  t.sets[i] = { s.sets[i] with
    directive := t.sets[i].directive
    dirSeq := s.sets[i].dirSeq + if t.sets[i].directive = s.sets[i].directive then 0 else 1 }
  ∧ (0 < s.cfg.roster[i].rating → t.sets[i].directive = wantedDirective m s.sets[i].state s.sets[i].mark)
  ∧ (t.sets[i].directive ≠ s.sets[i].directive →
      .setDirective i s.cfg.roster[i].address t.sets[i].directive t.sets[i].dirSeq ∈ t.txQueue)

theorem redirectAll_derived (s : State) : DirectivesDerived s s.mode s.redirectAll := by
  intro i
  have hset := redirectAll_sets s i
  have hmem (h : (s.derivedSet i).directive ≠ s.sets[i].directive) :
      s.directedFrame i (s.derivedSet i) ∈ s.redirectAll.txQueue := redirects_frame_mem indices_nodup (mem_indices i) h
  rw [hset]
  refine ⟨?_, fun hconf => ?_, hmem⟩
  · unfold State.derivedSet
    split
    · rfl
    · simp
  · rw [State.derivedSet, if_pos hconf]
    rfl

/-! ## A mode change (R159) -/

/-- A mode change, answered. -/
structure ModeMoved (s : State) (m : Mode) (x : State) : Prop where
  frame : x = { s with
    mode := m, shortfall := none, surplus := none, reserveShed := none, sets := x.sets, txQueue := x.txQueue
    seq := { s.seq with trigger := if m = .dispatch then s.seq.trigger else none } }
  derived : DirectivesDerived s m x

theorem setMode_moved (h : s.mode ≠ m) : ModeMoved s m (s.setMode m) := by
  rw [setMode_of_ne h]
  exact ⟨redirectAll_setsFrame _, redirectAll_derived _⟩

theorem ModeMoved.answer (h : ModeMoved s m t) (code : BitVec 5) (result : Result) (data : List Byte) :
    ModeMoved s m (t.answer rx code result data) := by
  refine ⟨?_, fun i => ?_⟩
  · conv_lhs => rw [h.frame]
    rfl
  · obtain ⟨hset, hwanted, hmem⟩ := h.derived i
    exact ⟨hset, hwanted, fun hne => mem_enqueue.mpr (.inr ⟨hmem hne, nofun⟩)⟩

theorem DirectivesDerived.of_same (h : DirectivesDerived s m t) (hsets : u.sets = t.sets) (htx : u.txQueue = t.txQueue) :
    DirectivesDerived s m u := by
  intro i
  rw [hsets, htx]
  exact h i

/-- An event at whose end the sequencer moves only its own record and no feeder has changed its state. -/
theorem finish_of_seq {q : Sequencer} (h : s.sequencerReact = { s with seq := q }) (hf : s.feederStates = before.feederStates) :
    s.finish before = { s with seq := q, alertPin := (s.finish before).alertSet.any } := by
  have hreport : ({ s with seq := q } : State).reportChanges before = { s with seq := q } := if_pos hf
  unfold State.finish State.refreshAlert
  rw [h, hreport]
  rfl

/-- The end of an event that has changed the mode, at which the sequencer moves only its own record. -/
theorem modeChange_ends {q : Sequencer} (h : ModeMoved s m x) (hf : s.feederStates = before.feederStates)
    (hreact : x.sequencerReact = { x with seq := q }) :
    x.finish before = { s with
      mode := m, shortfall := none, surplus := none, reserveShed := none, sets := (x.finish before).sets
      txQueue := (x.finish before).txQueue, seq := q, alertPin := (x.finish before).alertSet.any }
    ∧ DirectivesDerived s m (x.finish before) ∧ (x.finish before).txQueue = x.txQueue := by
  have hframe := h.frame
  have hends := finish_of_seq (before := before) hreact (by rw [hframe]; exact hf)
  generalize x.finish before = t at hends
  have hsets : t.sets = x.sets := (congrArg State.sets hends :)
  have htx : t.txQueue = x.txQueue := (congrArg State.txQueue hends :)
  refine ⟨?_, h.derived.of_same hsets htx, htx⟩
  rw [hsets, htx]
  refine hends.trans ?_
  generalize t.alertSet.any = alert
  rw [hframe]

/-! ## Enter Observe and Resume Dispatch (R163) -/

theorem exec_enterObserve (h : Hears s rx) (hs : FromSupervisor rx) (hmode : s.mode ≠ .blackstart) :
    exec (.enterObserve rx) s = .next ((s.elapse rx.dt).enterObserve rx) :=
  congrArg Host.Outcome.next (requestEvent_of_supervisor h hs
    (refusal_none_of (g := { seqActive := true }) rfl (fun _ => hmode) nofun nofun nofun))

theorem exec_resumeDispatch (h : Hears s rx) (hs : FromSupervisor rx) (hmode : s.mode ≠ .blackstart) :
    exec (.resumeDispatch rx) s = .next ((s.elapse rx.dt).resumeDispatch rx) :=
  congrArg Host.Outcome.next (requestEvent_of_supervisor h hs
    (refusal_none_of (g := { seqActive := true }) rfl (fun _ => hmode) nofun nofun nofun))

theorem enterObserve_of_ne (h : s.mode ≠ .observe) :
    s.enterObserve rx = ((s.setMode .observe).answer rx 0x02 .accepted [0]).finish s := by
  have hbytes : (s.setMode .observe).modeBytes = [0] := by rw [State.modeBytes, setMode_mode]; rfl
  rw [State.enterObserve, if_neg h, ← hbytes]
  rfl

/-- An accepted Resume Dispatch, with DISPATCH in its reply. -/
def State.resumed (s : State) (rx : Rx) : State := s.toDispatch.answer rx 0x01 .accepted [1]

theorem toDispatch_mode (s : State) : s.toDispatch.mode = .dispatch := setMode_mode _ _

theorem anyConfigured_iff (s : State) : ((indices 8).any s.setConfigured = true) ↔ ∃ i : Fin 8, 0 < s.cfg.roster[i].rating := by
  simp only [List.any_eq_true, mem_indices, true_and, setConfigured_iff]

theorem resumeDispatch_of_free (hmode : s.mode = .observe) (hwindow : s.window = none) :
    s.resumeDispatch rx = if (indices 8).any s.setConfigured = false then s.answer rx 0x01 .wrongMode []
      else (s.resumed rx).finish s := by
  refine (if_neg (by rw [hmode]; nofun)).trans ((if_neg (by rw [hwindow]; nofun)).trans ?_)
  have hbytes : s.toDispatch.modeBytes = [1] := by rw [State.modeBytes, toDispatch_mode]; rfl
  rw [State.resumed, ← hbytes]
  rfl

theorem resumed_moved (hmode : s.mode = .observe) : ModeMoved { s with seq := { s.seq with failed := false } } .dispatch (s.resumed rx) := by
  have hne : s.mode ≠ .dispatch := by rw [hmode]; nofun
  have hmoved : ModeMoved { s with seq := { s.seq with failed := false } } .dispatch s.toDispatch := setMode_moved hne
  exact hmoved.answer 0x01 .accepted [1]

theorem resumed_mode (s : State) (rx : Rx) : (s.resumed rx).mode = .dispatch := toDispatch_mode s

theorem wrongMode_of_empty (hmode : s.mode = .observe) (hwindow : s.window = none)
    (hempty : ∀ i : Fin 8, s.cfg.roster[i].rating = 0) : s.resumeDispatch rx = s.answer rx 0x01 .wrongMode [] := by
  rw [resumeDispatch_of_free hmode hwindow, if_pos]
  rw [← Bool.not_eq_true, anyConfigured_iff]
  rintro ⟨i, hi⟩
  exact Nat.ne_of_gt hi (hempty i)

theorem resumeDispatch_of_some (hmode : s.mode = .observe) (hwindow : s.window = none)
    (hsome : ∃ i : Fin 8, 0 < s.cfg.roster[i].rating) : s.resumeDispatch rx = (s.resumed rx).finish s := by
  rw [resumeDispatch_of_free hmode hwindow, if_neg]
  rw [(anyConfigured_iff s).mpr hsome]
  nofun

theorem resumeDispatch_no_effect (h : s.mode = .dispatch) : s.resumeDispatch rx = s.answer rx 0x01 .acceptedNoEffect [1] := by
  rw [State.resumeDispatch, if_pos h, State.modeBytes, h]
  rfl

theorem enterObserve_no_effect (h : s.mode = .observe) : s.enterObserve rx = s.answer rx 0x02 .acceptedNoEffect [0] := by
  rw [State.enterObserve, if_pos h, State.modeBytes, h]
  rfl

theorem resumeDispatch_busy (hmode : s.mode = .observe) (hwindow : s.window ≠ none) :
    s.resumeDispatch rx = s.answer rx 0x01 .busy [] :=
  (if_neg (by rw [hmode]; nofun)).trans (if_pos (Option.isSome_iff_ne_none.mpr hwindow))

/-- With no sequence running and no cause for the trigger timer, the sequencer's record stands but for that timer. -/
theorem modeChange_ends_quiet (h : ModeMoved s m x) (hf : s.feederStates = before.feederStates) (hno : ¬ TriggerRuns x)
    (hphase : s.seq.phase = .none) :
    x.finish before = { s with
      mode := m, shortfall := none, surplus := none, reserveShed := none, sets := (x.finish before).sets
      txQueue := (x.finish before).txQueue, seq := { s.seq with trigger := none }, alertPin := (x.finish before).alertSet.any }
    ∧ DirectivesDerived s m (x.finish before) ∧ (x.finish before).txQueue = x.txQueue := by
  have hseq : x.seq = { s.seq with trigger := if m = .dispatch then s.seq.trigger else none } := (congrArg State.seq h.frame :)
  have hreact := sequencerReact_of_no_sequence hno (by rw [hseq]; exact hphase)
  rw [hseq] at hreact
  exact modeChange_ends h hf hreact

/-- A mode change leaves the black-start conditions alone. -/
theorem ModeMoved.conditions (h : ModeMoved s m x) : BlackStartConditions x ↔ BlackStartConditions s := by
  have hstate (i : Fin 8) : x.sets[i].state = s.sets[i].state := by rw [(h.derived i).1]
  have hframe := h.frame
  have hcfg : x.cfg = s.cfg := by rw [hframe]
  have hmeter : x.meter = s.meter := by rw [hframe]
  have habort : x.seq.abortLevel = s.seq.abortLevel := by rw [hframe]
  have hstore : x.storeBad = s.storeBad := by rw [hframe]
  unfold BlackStartConditions NoSetOnline SomeCapableSet
  simp only [hstate, hcfg, hmeter, habort, hstore]

theorem resumed_stands (s : State) (rx : Rx) : IslandStands s (s.resumed rx) := by
  have h := setMode_stands { s with seq := { s.seq with failed := false } } .dispatch
  have hreports := answer_reports s.toDispatch rx 0x01 .accepted [1]
  exact ⟨h.cfg, h.clk, h.feeders, h.queue, h.states, .trans ⟨h.reports.count, h.reports.frames⟩ hreports⟩

/-- A reply that waits stands through the beginning of a sequence and the end of its event. -/
theorem begun_keeps_reply {code : BitVec 5} {result : Result} {data : List Byte} (h : ReplyWaits x rx code result data) :
    ReplyWaits (x.beginSequence.finish before) rx code result data := by
  have htriggered : RestWaits x x.triggered := .of_others (.trans (t := { x with seq := { x.seq with attempts := 1, trigger := none } })
    (fun _ _ => rfl) (.trans (.setMode _ .blackstart) fun _ _ => rfl))
  have horders := htriggered.trans (beginSequence_given x).others
  exact finish_reply_mem (not_triggerRuns_of_mode (by rw [beginSequence_mode]; nofun)) (horders.reply_mem h)

/-- A Resume Dispatch on a dead island with AUTO_BS on (R140). -/
theorem resumed_ends (hmode : s.mode = .observe) (hphase : s.seq.phase = .none) (ht : s.seq.trigger = none)
    (hauto : s.cfg.params[AUTO_BS] = 1) (hconditions : BlackStartConditions s) :
    (0 < s.cfg.params[BS_DELAY] → ∃ t, (s.resumed rx).finish s = t
      ∧ t = { s with
          mode := .dispatch, shortfall := none, surplus := none, reserveShed := none, sets := t.sets
          txQueue := t.txQueue, alertPin := t.alertSet.any
          seq := { s.seq with trigger := some (s.clk + 10000000 * s.cfg.params[BS_DELAY]), failed := false } }
      ∧ DirectivesDerived s .dispatch t ∧ ReplyWaits t rx 0x01 .accepted [1])
    ∧ (s.cfg.params[BS_DELAY] = 0 → SomeFeederOpens s → ∃ t, (s.resumed rx).finish s = t
      ∧ IslandEventFrame s t ∧ PrepareOrdersGiven s t s.clk
      ∧ t.seq.attempts = 1 ∧ t.seq.failed = false ∧ ReplyWaits t rx 0x01 .accepted [1]) := by
  have hmoved := resumed_moved (rx := rx) hmode
  have hstands := resumed_stands s rx
  have hreply : ReplyWaits (s.resumed rx) rx 0x01 .accepted [1] := self_mem_enqueue s.toDispatch.txQueue _
  generalize s.resumed rx = x at *
  have hframe := hmoved.frame
  have hisland : IslandEventFrame s x := by rw [hframe]; rfl
  have hseq : x.seq = { s.seq with failed := false } := by rw [hframe]; rfl
  have hruns : TriggerRuns x := ⟨by rw [hframe], by rw [hframe]; exact hauto, hmoved.conditions.mpr hconditions⟩
  have htx : x.seq.trigger = none := by rw [hseq]; exact ht
  refine ⟨fun hdelay => ⟨_, rfl, ?_⟩, fun hdelay hopens => ⟨_, rfl, ?_⟩⟩
  · have hreact := sequencerReact_of_start hruns htx (by rw [hstands.cfg]; exact Nat.ne_of_gt hdelay) (by rw [hseq]; exact hphase)
    have hvalue : x.clk + 10000000 * x.cfg.params[BS_DELAY] = s.clk + 10000000 * s.cfg.params[BS_DELAY] := by
      rw [hstands.clk, hstands.cfg]
    rw [hseq, hvalue] at hreact
    obtain ⟨hends, hderived, hqueue⟩ := modeChange_ends (before := s) hmoved rfl hreact
    exact ⟨hends, hderived, by rw [ReplyWaits, hqueue]; exact hreply⟩
  · obtain ⟨hgiven, hattempts, hfailed⟩ := begun_alone_ends hstands hopens
    rw [finish_of_begin hruns htx (by rw [hstands.cfg]; exact hdelay)]
    exact ⟨island_trans hisland (island_trans (beginSequence_island x) (finish_island _ s)), hgiven, hattempts,
      hfailed.trans (by rw [hseq]), begun_keeps_reply hreply⟩

/-- Settles O53. -/
theorem resumeAndObserveMoveTheMode : Obligations.ResumeAndObserveMoveTheMode := by
  intro s rx h hs derived
  let v := s.elapse rx.dt
  refine ⟨fun hmode hphase => ?_, fun hmode => ?_, fun hmode hphase hwindow hsome hauto => ?_,
    fun hmode hphase ht hwindow hauto hconditions => ?_, fun hmode => ?_, fun hmode hwindow => ?_, fun hmode hwindow hempty => ?_⟩
  · have hmoved : ModeMoved v .observe ((v.setMode .observe).answer rx 0x02 .accepted [0]) :=
      (setMode_moved (s := v) (by show s.mode ≠ _; rw [hmode]; nofun)).answer _ _ _
    have hexec : exec (.enterObserve rx) s = .next (((v.setMode .observe).answer rx 0x02 .accepted [0]).finish v) := by
      rw [exec_enterObserve h hs (by rw [hmode]; nofun), enterObserve_of_ne (s := v) (by show s.mode ≠ _; rw [hmode]; nofun)]
    have hreply := self_mem_enqueue (v.setMode .observe).txQueue (.reply rx.src.toNat 0x02 .accepted [0])
    have hobserve : ((v.setMode .observe).answer rx 0x02 .accepted [0]).mode = .observe := setMode_mode v .observe
    have hreply : Frame.reply rx.src.toNat 0x02 .accepted [0] ∈ ((v.setMode .observe).answer rx 0x02 .accepted [0]).txQueue := hreply
    generalize (v.setMode .observe).answer rx 0x02 .accepted [0] = x at *
    obtain ⟨hframe, hderived, htx⟩ := modeChange_ends_quiet hmoved rfl (not_triggerRuns_of_mode (by rw [hobserve]; nofun)) hphase
    rw [← htx] at hreply
    exact ⟨_, hexec, hframe, hderived, hreply⟩
  · rw [exec_enterObserve h hs (by rw [hmode]; nofun), enterObserve_no_effect (s := s.elapse rx.dt) hmode]
    rfl
  · have hexec : exec (.resumeDispatch rx) s = .next ((v.resumed rx).finish v) := by
      rw [exec_resumeDispatch h hs (by rw [hmode]; nofun), resumeDispatch_of_some (s := v) hmode hwindow hsome]
    have hmoved := resumed_moved (s := v) (rx := rx) hmode
    have hreply : ReplyWaits (v.resumed rx) rx 0x01 .accepted [1] := self_mem_enqueue v.toDispatch.txQueue _
    generalize v.resumed rx = x at *
    have hno : ¬ TriggerRuns x := fun ⟨_, hon, hdead, _⟩ => by
      rw [hmoved.frame] at hon hdead
      exact hauto hon ((Meter.elapse_state s.meter rx.dt).symm.trans hdead)
    obtain ⟨hframe, hderived, htx⟩ := modeChange_ends_quiet (before := v) hmoved rfl hno hphase
    exact ⟨_, hexec, hframe, hderived, by rw [ReplyWaits, htx]; exact hreply⟩
  · have hconf : ∃ i : Fin 8, 0 < s.cfg.roster[i].rating := by
      obtain ⟨-, -, -, -, i, hi⟩ := hconditions
      exact ⟨i, hi.1⟩
    rw [exec_resumeDispatch h hs (by rw [hmode]; nofun), resumeDispatch_of_some (s := v) hmode hwindow hconf]
    obtain ⟨hstart, hbegin⟩ := resumed_ends (s := v) (rx := rx) hmode hphase ht hauto ((blackStartConditions_elapse s rx.dt).mpr hconditions)
    refine ⟨fun hdelay => ?_, fun hdelay hopens => ?_⟩
    · obtain ⟨t, hexec, ht⟩ := hstart hdelay
      exact ⟨t, congrArg Host.Outcome.next hexec, ht⟩
    · obtain ⟨t, hexec, ht⟩ := hbegin hdelay hopens
      exact ⟨t, congrArg Host.Outcome.next hexec, ht⟩
  · rw [exec_resumeDispatch h hs (by rw [hmode]; nofun), resumeDispatch_no_effect (s := s.elapse rx.dt) hmode]
    rfl
  · rw [exec_resumeDispatch h hs (by rw [hmode]; nofun), resumeDispatch_busy (s := s.elapse rx.dt) hmode hwindow]
    rfl
  · rw [exec_resumeDispatch h hs (by rw [hmode]; nofun), wrongMode_of_empty (s := s.elapse rx.dt) hmode hwindow hempty]
    rfl

end Sys2Proof.Machine
end

section
/-! Set Parameter (R19, R140, R176). -/

namespace Sys2Proof.Machine

variable {s t u x v before : State} {rx : Rx} {p : Param}

/-! ## What a write changes -/

/-- The settings after a value is stored: a NEXT_INTERVAL parameter's value waits (R19, R176). -/
def State.liveAfter (s : State) (p : Param) (stored : Nat) : Settings :=
  if paramRows[p].reflection = .nextInterval then s.cfg else { s.cfg with params := s.cfg.params.set p stored }

/-- The pending values after a value is stored. -/
def State.pendingAfter (s : State) (p : Param) (stored : Nat) : Vector (Option Nat) 28 :=
  if paramRows[p].reflection = .nextInterval then s.paramPending.set p (some stored) else s.paramPending

theorem putParameter_eq (s : State) (p : Param) (stored : Nat) : s.putParameter p stored =
    { s with cfg := s.liveAfter p stored, paramPending := s.pendingAfter p stored } := by
  unfold State.putParameter State.liveAfter State.pendingAfter
  split
  next h => rw [h, if_pos rfl, if_pos rfl]
  all_goals
    next h => rw [h, if_neg nofun, if_neg nofun]

/-- The device after a write and its reply, before the event ends. -/
def State.written (s : State) (rx : Rx) (p : Param) (value : Nat) : State :=
  ((s.putParameter p (storedValue p value)).answer rx 0x0B (if storedValue p value = value then .accepted else .acceptedClamped)
    (byte p.val :: s.paramBytes p (storedValue p value))).spendParam p (storedValue p value)

theorem spendParam_frame (s : State) (p : Param) (stored : Nat) : s.spendParam p stored =
    { s with freeCount := (s.spendParam p stored).freeCount } := by
  unfold State.spendParam
  split <;> rfl

theorem storedValue_eq (p : Param) (value : Nat) : storedValue p value = max paramRows[p].lo (min paramRows[p].hi value) := by
  rw [storedValue, clampTo, Nat.min_comm]

/-- A value that is stored as it was given lies in its range. -/
theorem storedValue_eq_iff (p : Param) (value : Nat) :
    storedValue p value = value ↔ paramRows[p].lo ≤ value ∧ value ≤ paramRows[p].hi := by
  obtain ⟨hlo, hhi⟩ := storedValue_range p value
  refine ⟨fun h => by rw [h] at hlo hhi; exact ⟨hlo, hhi⟩, fun ⟨hlo, hhi⟩ => ?_⟩
  rw [storedValue_eq, Nat.min_eq_right hhi, Nat.max_eq_right hlo]

theorem written_eq (s : State) (rx : Rx) (p : Param) (value : Nat) : s.written rx p value = { s with
    cfg := s.liveAfter p (storedValue p value), paramPending := s.pendingAfter p (storedValue p value)
    freeCount := (s.written rx p value).freeCount
    txQueue := withReply s rx 0x0B
      (if paramRows[p].lo ≤ value ∧ value ≤ paramRows[p].hi then .accepted else .acceptedClamped)
      (byte p.val :: s.paramBytes p (storedValue p value)) } := by
  have hresult : (if storedValue p value = value then Result.accepted else .acceptedClamped) =
      if paramRows[p].lo ≤ value ∧ value ≤ paramRows[p].hi then .accepted else .acceptedClamped :=
    if_congr (storedValue_eq_iff p value) rfl rfl
  unfold State.written
  rw [spendParam_frame, putParameter_eq, hresult]
  rfl

theorem setParameter_eq (s : State) (rx : Rx) (p : Param) (value : Nat) :
    s.setParameter rx p value = (s.written rx p value).finish s := rfl

theorem exec_setParameter {number : Byte} {value : BitVec 16} (h : Hears s rx) (hs : FromSupervisor rx)
    (hlock : ¬ (s.cfg.lockFlag = true ∧ s.cfglockLevel = true)) (hp : paramOf number = some p) : exec (.setParameter rx number value) s =
      .next (((s.elapse rx.dt).written rx p value.toNat).finish (s.elapse rx.dt)) := by
  refine congrArg Host.Outcome.next ((requestEvent_of_supervisor h hs
    (refusal_none_of (g := { lock := true }) rfl nofun (fun _ => hlock) nofun nofun)).trans ?_)
  rw [hp]
  exact setParameter_eq _ rx p value.toNat

theorem exec_setParameter_unknown {number : Byte} {value : BitVec 16} (h : Hears s rx) (hs : FromSupervisor rx)
    (hlock : ¬ (s.cfg.lockFlag = true ∧ s.cfglockLevel = true)) (hp : paramOf number = none) : exec (.setParameter rx number value) s =
      .next ((s.elapse rx.dt).answer rx 0x0B .invalid []) := by
  refine congrArg Host.Outcome.next ((requestEvent_of_supervisor h hs
    (refusal_none_of (g := { lock := true }) rfl nofun (fun _ => hlock) nofun nofun)).trans ?_)
  rw [hp]

/-! ## The orders of a sequence that begins after a write -/

/-- The orders act on what a write does not change. -/
theorem PrepareOrdersGiven.of_same {now : Nat} (h : PrepareOrdersGiven x t now) (hr : ReportsStand s x)
    (hfeederTable : x.cfg.feeders = s.cfg.feeders) (hroster : x.cfg.roster = s.cfg.roster) (hpv : x.cfg.pv = s.cfg.pv)
    (hfeeders : x.feeders = s.feeders) (hqueue : x.queue = s.queue) (hsets : x.sets = s.sets) : PrepareOrdersGiven s t now := by
  have hafter (i : Fin 16) : afterOpenAll x i now = afterOpenAll s i now := by
    unfold afterOpenAll
    rw [hfeederTable, hfeeders]
  have hreport : FeederReportFollows x t ↔ FeederReportFollows s t := by
    unfold FeederReportFollows State.feederStates
    rw [hfeeders, hr.count, hr.frames]
  unfold PrepareOrdersGiven at *
  simp only [hafter, hfeederTable, hroster, hpv, hfeeders, hqueue, hsets, hreport] at h
  exact h

theorem liveAfter_tables (s : State) (p : Param) (stored : Nat) : (s.liveAfter p stored).feeders = s.cfg.feeders
    ∧ (s.liveAfter p stored).roster = s.cfg.roster ∧ (s.liveAfter p stored).pv = s.cfg.pv := by
  unfold State.liveAfter
  split <;> exact ⟨rfl, rfl, rfl⟩

/-- An event at whose end the sequencer moves only its own record ends as settled, with that record. -/
theorem finish_settled {q : Sequencer} (h : s.sequencerReact = { s with seq := q }) (hf : s.feederStates = before.feederStates)
    (hfailed : q.failed = s.seq.failed) : s.finish before = { s.settled with seq := q } := by
  have hends := finish_of_seq h hf
  have halert : (s.finish before).alertSet = s.alertSet := by
    refine (congrArg State.alertSet hends :).trans ?_
    unfold State.alertSet
    dsimp only
    rw [hfailed]
  rw [halert] at hends
  exact hends

/-- What a write makes of the trigger timer in DISPATCH with AUTO_BS on (R140). -/
theorem written_ends (hmode : x.mode = .dispatch) (hphase : x.seq.phase = .none) (hauto : x.cfg.params[AUTO_BS] = 1)
    (hf : x.feederStates = before.feederStates) :
    (¬ BlackStartConditions x → x.finish before = x.settled)
    ∧ (BlackStartConditions x → x.seq.trigger ≠ none → x.finish before = { x.settled with seq := x.seq })
    ∧ (BlackStartConditions x → x.seq.trigger = none → 0 < x.cfg.params[BS_DELAY] → x.finish before =
        { x.settled with seq := { x.seq with trigger := some (x.clk + 10000000 * x.cfg.params[BS_DELAY]) } }) := by
  refine ⟨fun hnot => ?_, fun hconditions htrigger => ?_, fun hconditions htrigger hdelay => ?_⟩
  · exact finish_settled (sequencerReact_of_no_sequence (fun h => hnot h.2.2) hphase) hf rfl
  · obtain ⟨ends, hends⟩ := Option.ne_none_iff_exists'.mp htrigger
    have hreact : x.sequencerReact = { x with seq := x.seq } := by
      rw [State.sequencerReact, triggerCheck_of_running ⟨hmode, hauto, hconditions⟩ hends, looks_of_phase_none hphase]
    exact finish_settled hreact hf rfl
  · exact finish_settled (sequencerReact_of_start ⟨hmode, hauto, hconditions⟩ htrigger (Nat.ne_of_gt hdelay) hphase) hf rfl

theorem finish_before (h : t.feederStates = before.feederStates) : x.finish t = x.finish before := by
  unfold State.finish State.reportChanges
  rw [h]

/-- A write that begins the sequence (R140). -/
theorem written_begins (hmode : x.mode = .dispatch) (hauto : x.cfg.params[AUTO_BS] = 1)
    (hconditions : BlackStartConditions x) (htrigger : x.seq.trigger = none) (hdelay : x.cfg.params[BS_DELAY] = 0)
    (hopens : SomeFeederOpens x) (hf : x.feederStates = before.feederStates) :
    IslandEventFrame x.settled (x.finish before) ∧ PrepareOrdersGiven x (x.finish before) x.clk ∧ (x.finish before).seq.attempts = 1
      ∧ (x.finish before).seq.failed = x.seq.failed
      ∧ ∀ code result data, ReplyWaits x rx code result data → ReplyWaits (x.finish before) rx code result data := by
  obtain ⟨hgiven, hattempts, hfailed⟩ := begun_alone_ends (.refl x) hopens
  rw [← finish_before hf, finish_of_begin ⟨hmode, hauto, hconditions⟩ htrigger hdelay]
  have hisland : IslandEventFrame x (x.beginSequence.finish x) := island_trans (beginSequence_island x) (finish_island _ x)
  exact ⟨island_trans (b := x) rfl hisland, hgiven, hattempts, hfailed, fun _ _ _ h => begun_keeps_reply h⟩

/-- Settles O56. -/
theorem setParameterStoresTheClampedValue : Obligations.SetParameterStoresTheClampedValue := by
  intro s rx number value h hs hlock
  refine ⟨fun hunknown => ?_, fun p hp => ?_⟩
  · exact exec_setParameter_unknown h hs hlock (paramOf_eq_none hunknown)
  · intro stored result waits live
    let v := s.elapse rx.dt
    have hexec := exec_setParameter (value := value) h hs hlock (paramOf_eq_some hp)
    have hframe := written_eq v rx p value.toNat
    have hstored : storedValue p value.toNat = stored := storedValue_eq p _
    have hlive : v.liveAfter p stored = live := rfl
    rw [hstored, hlive] at hframe
    generalize v.written rx p value.toNat = x at hexec hframe
    have hcfg : x.cfg = live := (congrArg State.cfg hframe :)
    have hmeter : x.meter.state = s.meter.state :=
      (congrArg (fun u : State => u.meter.state) hframe :).trans (Meter.elapse_state s.meter rx.dt)
    have hmode : x.mode = s.mode := (congrArg State.mode hframe :)
    have hseq : x.seq = s.seq := (congrArg State.seq hframe :)
    have hclk : x.clk = s.clk + rx.dt := (congrArg State.clk hframe :)
    have hfeeders : x.feeders = s.feeders := (congrArg State.feeders hframe :)
    have hsets : x.sets = s.sets := (congrArg State.sets hframe :)
    have hstore : x.storeBad = s.storeBad := (congrArg State.storeBad hframe :)
    have hstates : x.feederStates = v.feederStates := by unfold State.feederStates; rw [hfeeders]; rfl
    obtain ⟨hfeederTable, hroster, hpv⟩ := liveAfter_tables v p stored
    rw [hlive, ← hcfg] at hfeederTable hroster hpv
    have hconditions : BlackStartConditions x ↔ BlackStartConditions s := by
      unfold BlackStartConditions NoSetOnline SomeCapableSet
      rw [hmeter, hsets, hstore, hseq, hroster]
      rfl
    have hreply : ReplyWaits x rx 0x0B result (byte p.val :: v.paramBytes p stored) := by
      rw [ReplyWaits, (congrArg State.txQueue hframe :)]
      exact self_mem_enqueue _ _
    have hreports : ReportsStand s x := by
      refine ⟨by rw [hframe]; rfl, ?_⟩
      rw [(congrArg State.txQueue hframe :)]
      exact enqueue_filter_ne (by nofun) s.txQueue
    refine ⟨x.settled, v.paramBytes p stored, ?_, fun hwide => ?_, fun hnarrow hfits => ?_, fun hlistens => ?_,
      fun hdispatch hphase hauto => ?_⟩
    · rw [hframe]
      rfl
    · exact (paramBytes_of_fits (.inl hwide)).trans (if_pos hwide)
    · exact (paramBytes_of_fits (.inr hfits)).trans (if_neg (by rw [hnarrow]; nofun))
    · obtain ⟨hno, hprepare⟩ := listens_of_frame (t := x) hlistens hmode (by rw [hseq]) (by rw [hcfg]) hmeter hfeeders
      exact ⟨_, hexec, finish_looks hno hprepare hfeeders⟩
    · have hdispatch : x.mode = .dispatch := hmode.trans hdispatch
      rw [← hcfg] at hauto ⊢
      obtain ⟨hnot, hrunning, hstart⟩ := written_ends hdispatch (by rw [hseq]; exact hphase) hauto hstates
      rw [hconditions] at hnot
      rw [hconditions, hseq] at hrunning
      rw [hconditions, hseq, hclk] at hstart
      refine ⟨fun h => hexec.trans (congrArg Host.Outcome.next (hnot h)), fun h ht => hexec.trans (congrArg Host.Outcome.next (hrunning h ht)),
        fun h ht hdelay => hexec.trans (congrArg Host.Outcome.next (hstart h ht hdelay)), fun h ht hdelay hopens => ⟨_, hexec, ?_⟩⟩
      have hopens : SomeFeederOpens x := by
        unfold SomeFeederOpens
        rwa [hfeeders, hfeederTable]
      obtain ⟨hisland, hgiven, hattempts, hfailed, hwaits⟩ :=
        written_begins (rx := rx) hdispatch hauto (hconditions.mpr h) (by rw [hseq]; exact ht) hdelay hopens hstates
      rw [hseq] at hfailed
      rw [hclk] at hgiven
      exact ⟨hisland, hgiven.of_same hreports hfeederTable hroster hpv hfeeders (congrArg State.queue hframe :) hsets, hattempts,
        hfailed, hwaits _ _ _ hreply⟩

end Sys2Proof.Machine
end

section
/-! Soft Reset and Cycle Reset (R66, R116, R137, R165, R167). -/

namespace Sys2Proof.Machine

variable {s t u x before : State} {rx : Rx} {i : Fin 16}

/-! ## The feeders (R116) -/

theorem holdOpen_frame (s : State) (i : Fin 16) : s.holdOpen i =
    { s with feeders := (s.holdOpen i).feeders, queue := (s.holdOpen i).queue } := by
  unfold State.holdOpen
  split <;> rfl

/-- A feeder's record after Soft Reset. -/
def FeederRec.heldOpen (r : FeederRec) : FeederRec :=
  if r.state = .openShed then ⟨.openHeld, r.cause, none, r.origin, true⟩ else r

theorem heldOpen_heldOpen (r : FeederRec) : r.heldOpen.heldOpen = r.heldOpen := by
  unfold FeederRec.heldOpen
  by_cases h : r.state = .openShed
  · rw [if_pos h]
    rfl
  · rw [if_neg h, if_neg h]

theorem holdOpen_feeders (s : State) (i j : Fin 16) : (s.holdOpen i).feeders[j] =
    if i = j then s.feeders[j].heldOpen else s.feeders[j] := by
  by_cases h : s.feeders[i].state = .openShed
  · rw [State.holdOpen, if_pos h]
    refine (feeders_set_get s i j _).trans ?_
    split
    next hij =>
      subst hij
      exact (if_pos h).symm
    · rfl
  · rw [State.holdOpen, if_neg h]
    split
    next hij =>
      subst hij
      exact (if_neg h).symm
    · rfl

theorem holdAll_frame (l : List (Fin 16)) : ∀ s : State, l.foldl State.holdOpen s =
    { s with feeders := (l.foldl State.holdOpen s).feeders, queue := (l.foldl State.holdOpen s).queue } := by
  induction l with
  | nil => exact fun _ => rfl
  | cons i l ih =>
    intro s
    rw [List.foldl_cons, ih, holdOpen_frame]

theorem holdAll_feeders (l : List (Fin 16)) (j : Fin 16) : ∀ s : State, (l.foldl State.holdOpen s).feeders[j] =
    if j ∈ l then s.feeders[j].heldOpen else s.feeders[j] := by
  induction l with
  | nil => exact fun _ => rfl
  | cons i l ih =>
    intro s
    rw [List.foldl_cons, ih, holdOpen_feeders]
    by_cases hij : i = j
    · rw [if_pos hij, if_pos (List.mem_cons.mpr (.inl hij.symm)), heldOpen_heldOpen, ite_self]
    · rw [if_neg hij]
      refine if_congr ?_ rfl rfl
      rw [List.mem_cons, or_iff_right (Ne.symm hij)]

theorem softResetLadder_eq (s : State) : s.softResetLadder = { s with
    feeders := s.softResetLadder.feeders, queue := s.softResetLadder.queue, stages := .replicate 8 .idle, exhausted := false
    reserveShed := none, reportCount := 0 } := by
  have hframe := holdAll_frame (indices 16) s
  unfold State.softResetLadder
  generalize (indices 16).foldl State.holdOpen s = t at hframe
  rw [hframe]

theorem softResetLadder_feeders (s : State) (i : Fin 16) : s.softResetLadder.feeders[i] = s.feeders[i].heldOpen := by
  have hall := (holdAll_feeders (indices 16) i s).trans (if_pos (mem_indices i))
  unfold State.softResetLadder
  generalize (indices 16).foldl State.holdOpen s = t at hall
  exact hall

/-! ## The reset order at every block (R165) -/

/-- The device after the order, before the report and the reply are queued. -/
def State.resetBlocks (s : State) : State := s.softResetMode.softResetLadder.softResetRestoration

theorem resetBlocks_eq (s : State) : s.resetBlocks = { s with
    mode := .observe, window := none, cycle := 0, sets := s.resetBlocks.sets, shortfall := none, surplus := none
    freshStart := true, pvReached := false, stages := .replicate 8 ⟨.idle, none⟩, feeders := s.resetBlocks.feeders
    exhausted := false, reserveShed := none, reportCount := 0, queue := s.resetBlocks.queue, settle := .stopped
    restoreDelay := none, blocked := none, hold := ⟨.none, none, none, none⟩, ordering := false
    seq := { s.seq with trigger := none } } := by
  have hladder := softResetLadder_eq s.softResetMode
  unfold State.resetBlocks
  generalize s.softResetMode.softResetLadder = t at hladder
  rw [hladder]
  rfl

theorem resetBlocks_feeders (s : State) (i : Fin 16) : s.resetBlocks.feeders[i] = s.feeders[i].heldOpen := by
  have hladder := softResetLadder_feeders s.softResetMode i
  unfold State.resetBlocks
  generalize s.softResetMode.softResetLadder = t at hladder
  exact hladder

theorem resetBlocks_sets (s : State) (i : Fin 8) : s.resetBlocks.sets[i] = s.sets[i].softReset (s.setConfigured i) s.clk := by
  have hframe := softResetLadder_eq s.softResetMode
  have hmode := softResetMode_sets s i
  unfold State.resetBlocks
  generalize s.softResetMode.softResetLadder = t at hframe
  have hsets : t.sets = s.softResetMode.sets := (congrArg State.sets hframe :)
  show t.sets[i] = _
  rw [hsets, hmode]

theorem resetBlocks_keeps (hmode : s.mode ≠ .blackstart) : Keeps s s.resetBlocks :=
  (softResetMode_keeps hmode).trans ((softResetLadder_keeps _).trans (softResetRestoration_keeps _))

/-- A Restoration Queue that holds exactly the OPEN_SHED feeders is empty after the order. -/
theorem resetBlocks_queue (hmode : s.mode ≠ .blackstart) (h : QueueHoldsShedFeeders s) : s.resetBlocks.queue = [] := by
  obtain ⟨-, hmem, -⟩ := (resetBlocks_keeps hmode).queue h
  refine List.eq_nil_iff_forall_not_mem.mpr fun i hi => ?_
  have hshed := (hmem i).mp hi
  rw [resetBlocks_feeders, FeederRec.heldOpen] at hshed
  split at hshed
  · exact nomatch hshed
  next hnot => exact hnot hshed

/-- The two frames that wait after Soft Reset, in the order of the model (log 26). -/
def State.resetFrames (s : State) (rx : Rx) : List Frame :=
  [.feederReport (partsOf s.runs) 0, .reply rx.src.toNat 0x13 .accepted []]

theorem queueReport_answered (s : State) (rx : Rx) : (State.queueReport { s with txQueue := [] }).answer rx 0x13 .accepted [] =
    { s with txQueue := s.resetFrames rx, reportCount := 0 } := rfl

theorem softReset_answered (s : State) (rx : Rx) : s.softReset.answer rx 0x13 .accepted [] =
    { s.resetBlocks with txQueue := s.resetBlocks.resetFrames rx, reportCount := 0 } :=
  queueReport_answered s.resetBlocks rx

theorem resetFrames_again (s : State) (rx : Rx) :
    enqueue (s.resetFrames rx) (.feederReport (partsOf s.runs) 0) = s.resetFrames rx := rfl

/-- The end of an accepted Soft Reset: a feeder report for feeders that moved takes the place of the one that waits. -/
theorem softReset_ends (hphase : s.seq.phase = .none) : (s.softReset.answer rx 0x13 .accepted []).finish s =
    { s.resetBlocks with
      txQueue := s.resetBlocks.resetFrames rx, reportCount := 0
      alertPin := ((s.softReset.answer rx 0x13 .accepted []).finish s).alertSet.any } := by
  have hblocks := resetBlocks_eq s
  rw [softReset_answered]
  generalize s.resetBlocks = x at hblocks
  have hmode : x.mode = .observe := (congrArg State.mode hblocks :)
  have hseq : x.seq = { s.seq with trigger := none } := (congrArg State.seq hblocks :)
  let y : State := { x with txQueue := x.resetFrames rx, reportCount := 0 }
  have hends : EndsAs s y (y.finish s) := by
    refine finish_endsAs (not_triggerRuns_of_mode ?_) ?_
    · show x.mode ≠ _
      rw [hmode]
      nofun
    · show x.seq.phase = _
      rw [hseq]
      exact hphase
  have hq : { x.seq with trigger := none } = x.seq := by rw [hseq]
  have htx : (if y.feederStates = s.feederStates then y.txQueue else enqueue y.txQueue (.feederReport (partsOf y.runs) 0))
      = x.resetFrames rx := by
    split
    · rfl
    · exact resetFrames_again x rx
  have hcount : (if y.feederStates = s.feederStates then y.reportCount else 0) = 0 := ite_self 0
  unfold EndsAs at hends
  rw [htx, hcount] at hends
  have hends : y.finish s = { x with
      seq := { x.seq with trigger := none }, txQueue := x.resetFrames rx, reportCount := 0, alertPin := y.alertSet.any } := hends
  have halert : (y.finish s).alertSet = y.alertSet := (congrArg State.alertSet hends :)
  rw [hq, ← halert] at hends
  exact hends

theorem softReset_failed {r : SetRec} (h : r.state = .failed) (now : Count) : r.softReset true now =
    { r with directive := .hold, dirSeq := 0, lostTimer := some (now + tLOST) } := by
  rw [SetRec.softReset, if_pos h]
  rfl

theorem softReset_unknown {r : SetRec} (h : r.state ≠ .failed) (now : Count) : r.softReset true now =
    ⟨.unknown, .none, 0, .hold, 0, none, none, .absent, none, none, some (now + tLOST), false, false⟩ := by
  rw [SetRec.softReset, if_neg h]
  rfl

theorem exec_softReset (h : Hears s rx) (hs : FromSupervisor rx) (hmode : s.mode ≠ .blackstart)
    (hlock : ¬ (s.cfg.lockFlag = true ∧ s.cfglockLevel = true)) : exec (.softReset rx) s =
      .next (((s.elapse rx.dt).softReset.answer rx 0x13 .accepted []).finish (s.elapse rx.dt)) :=
  congrArg Host.Outcome.next (requestEvent_of_supervisor h hs
    (refusal_none_of (g := { seqActive := true, lock := true }) rfl (fun _ => hmode) (fun _ => hlock) nofun nofun))

/-- Settles O55. -/
theorem softAndCycleResetTakeTheirBlocks : Obligations.SoftAndCycleResetTakeTheirBlocks := by
  intro s rx h hs
  refine ⟨fun hmode hphase hlock => ?_, ?_⟩
  · let v := s.elapse rx.dt
    have hexec := exec_softReset h hs hmode hlock
    have hends := softReset_ends (s := v) (rx := rx) hphase
    have hblocks := resetBlocks_eq v
    have hfeeders := resetBlocks_feeders v
    have hsets := resetBlocks_sets v
    have hqueue := resetBlocks_queue (s := v) hmode
    generalize (v.softReset.answer rx 0x13 .accepted []).finish v = t at hexec hends
    generalize v.resetBlocks = x at hends hblocks hfeeders hsets hqueue
    have hruns : t.runs = x.runs := (congrArg State.runs hends :)
    have htq : t.queue = x.queue := (congrArg State.queue hends :)
    have htf : t.feeders = x.feeders := (congrArg State.feeders hends :)
    have hts : t.sets = x.sets := (congrArg State.sets hends :)
    refine ⟨t, hexec, ?_, fun hholds => htq.trans (hqueue hholds), fun i => ?_, fun i hi => ?_⟩
    · rw [hruns, htq, htf, hts]
      refine hends.trans ?_
      generalize t.alertSet.any = alert
      unfold State.resetFrames
      generalize x.runs = runs
      rw [hblocks]
      rfl
    · rw [htf, hfeeders]
      rfl
    · rw [hts, hsets, (setConfigured_iff v i).mpr hi]
      by_cases hst : v.sets[i].state = .failed
      · rw [softReset_failed hst]
        exact ⟨rfl, rfl, rfl, fun _ => rfl, fun hnot => absurd hst hnot⟩
      · rw [softReset_unknown hst]
        exact ⟨rfl, rfl, rfl, fun hfailed => absurd hfailed hst, fun _ => rfl⟩
  · exact congrArg Host.Outcome.next (requestEvent_ungated h hs)

end Sys2Proof.Machine
end

section
/-! What the waiting status, directive and ceiling frames say stays true to the records, from a publication to the end of its
event (R31, R32, R49, R50, R79). -/

namespace Sys2Proof.Machine

variable {s t u x before : State} {rec : BalanceRecord}

/-- Plant `p` has a waiting PV_CEILING with its last queued ceiling. -/
def CeilingWaits (s : State) (p : Fin 4) : Prop :=
  ∃ cause, .pvCeiling p s.cfg.pv[p].address s.plants[p].lastQueued cause ∈ s.txQueue

/-- Status frames that wait in `s` wait in `t`, and a set's directive and a plant's last queued ceiling that a waiting frame
shows in `s` is shown in `t`. -/
structure ShowsOn (s t : State) : Prop where
  statuses : ∀ f ∈ s.txQueue, f.key = .statusA ∨ f.key = .statusB → f ∈ t.txQueue
  directives : ∀ i : Fin 8, s.directiveFrame i ∈ s.txQueue → t.directiveFrame i ∈ t.txQueue
  ceilings : ∀ p : Fin 4, CeilingWaits s p → CeilingWaits t p

namespace ShowsOn

theorem trans (h : ShowsOn s t) (h' : ShowsOn t u) : ShowsOn s u where
  statuses := fun f hf hk => h'.statuses f (h.statuses f hf hk) hk
  directives := fun i hi => h'.directives i (h.directives i hi)
  ceilings := fun p hp => h'.ceilings p (h.ceilings p hp)

/-- The frames, and what they show, are the same. -/
theorem same (htx : t.txQueue = s.txQueue) (hcfg : t.cfg = s.cfg)
    (hsets : ∀ i : Fin 8, t.sets[i].directive = s.sets[i].directive ∧ t.sets[i].dirSeq = s.sets[i].dirSeq)
    (hplants : ∀ p : Fin 4, t.plants[p].lastQueued = s.plants[p].lastQueued) : ShowsOn s t where
  statuses := fun f hf _ => htx ▸ hf
  directives := fun i hi => by
    obtain ⟨hd, hs⟩ := hsets i
    rwa [State.directiveFrame, hcfg, hd, hs, htx]
  ceilings := fun p hp => by rwa [CeilingWaits, hcfg, hplants, htx]

/-- Neither runtime records, nor plants, nor settings, nor frames differ. -/
theorem other (htx : t.txQueue = s.txQueue) (hcfg : t.cfg = s.cfg) (hsets : t.sets = s.sets) (hplants : t.plants = s.plants) :
    ShowsOn s t := same htx hcfg (fun i => by rw [hsets]; exact ⟨rfl, rfl⟩) fun p => by rw [hplants]

theorem refl (s : State) : ShowsOn s s := other rfl rfl rfl rfl

theorem ite {c : Prop} [Decidable c] {a b : State} (ha : ShowsOn s a) (hb : ShowsOn s b) : ShowsOn s (if c then a else b) := by
  split <;> assumption

theorem foldl {α : Type} {f : State → α → State} (h : ∀ s a, ShowsOn s (f s a)) (l : List α) (s : State) :
    ShowsOn s (l.foldl f s) := by
  induction l generalizing s with
  | nil => exact refl s
  | cons a l ih => exact (h s a).trans (ih _)

/-- A frame of another kind is queued. -/
theorem send (s : State) {f : Frame} (hd : ∀ i, f.key ≠ .setDirective i) (hc : ∀ p, f.key ≠ .pvCeiling p)
    (ha : f.key ≠ .statusA) (hb : f.key ≠ .statusB) : ShowsOn s (s.send f) where
  statuses := fun _ hg hk => mem_enqueue.mpr (.inr ⟨hg, fun h => hk.elim (fun hk => ha (h.symm.trans hk)) fun hk => hb (h.symm.trans hk)⟩)
  directives := fun i hi => mem_enqueue.mpr (.inr ⟨hi, fun h => hd i h.symm⟩)
  ceilings := fun p ⟨cause, hp⟩ => ⟨cause, mem_enqueue.mpr (.inr ⟨hp, fun h => hc p h.symm⟩)⟩

/-- A set's new record, and the frame that shows it. -/
theorem sendDirective (s : State) (k : Fin 8) (r : SetRec) :
    ShowsOn s (State.sendDirective { s with sets := s.sets.set k r } k) := by
  have hget (i : Fin 8) : (s.sets.set k r)[i] = if k = i then r else s.sets[i] := by
    simp only [Fin.getElem_fin, Vector.getElem_set, Fin.ext_iff]
  refine ⟨fun g hg hk => mem_enqueue.mpr (.inr ⟨hg, fun h => ?_⟩), fun i hi => ?_, fun p ⟨cause, hp⟩ => ⟨cause, mem_enqueue.mpr (.inr ⟨hp, nofun⟩)⟩⟩
  · exact hk.elim (fun hk => nomatch h.symm.trans hk) fun hk => nomatch h.symm.trans hk
  · by_cases hik : k = i
    · subst hik
      exact self_mem_enqueue s.txQueue _
    · refine mem_enqueue.mpr (.inr ⟨?_, fun h => hik (Key.setDirective.inj h).symm⟩)
      have hrec : (s.sets.set k r)[i] = s.sets[i] := (hget i).trans (if_neg hik)
      show Frame.setDirective i s.cfg.roster[i].address (s.sets.set k r)[i].directive (s.sets.set k r)[i].dirSeq ∈ s.txQueue
      rwa [hrec]

/-- A plant's frame is queued, with its last queued ceiling. -/
theorem sendCeiling (s : State) (k : Fin 4) : ShowsOn s (s.sendCeiling k) := by
  refine ⟨fun g hg hk => mem_enqueue.mpr (.inr ⟨hg, fun h => ?_⟩), fun i hi => mem_enqueue.mpr (.inr ⟨hi, nofun⟩), fun p ⟨cause, hp⟩ => ?_⟩
  · exact hk.elim (fun hk => nomatch h.symm.trans hk) fun hk => nomatch h.symm.trans hk
  · unfold CeilingWaits
    rw [sendCeiling_plants]
    by_cases hkp : k = p
    · subst hkp
      rw [if_pos rfl]
      exact ⟨_, self_mem_enqueue s.txQueue _⟩
    · rw [if_neg hkp]
      exact ⟨cause, mem_enqueue.mpr (.inr ⟨hp, fun h => hkp (Key.pvCeiling.inj h).symm⟩)⟩

/-! ## Runtime records -/

theorem redirect (s : State) (i : Fin 8) : ShowsOn s (s.redirect i) := .ite (sendDirective s i _) (refl s)

/-- A move of a record that keeps the directive and its sequence. -/
theorem updateSet (s : State) (i : Fin 8) {f : SetRec → SetRec} (hf : ∀ r, (f r).directive = r.directive ∧ (f r).dirSeq = r.dirSeq) :
    ShowsOn s (s.updateSet i f) := by
  refine .trans (t := { s with sets := modifyAt s.sets i f }) (same rfl rfl (fun j => ?_) fun _ => rfl) (redirect _ i)
  have hget : (modifyAt s.sets i f)[j] = if i = j then f s.sets[i] else s.sets[j] := modifyAt_get _ _ _ _
  show (modifyAt s.sets i f)[j].directive = _ ∧ (modifyAt s.sets i f)[j].dirSeq = _
  rw [hget]
  split
  next h =>
    subst h
    exact hf _
  · exact ⟨rfl, rfl⟩

theorem redirectAll (s : State) : ShowsOn s s.redirectAll := .foldl redirect _ s

theorem setOnline (s : State) (i : Fin 8) : ShowsOn s (s.setOnline i) := updateSet s i fun _ => ⟨rfl, rfl⟩

theorem startSet (s : State) (i : Fin 8) : ShowsOn s (s.startSet i) := updateSet s i fun _ => ⟨rfl, rfl⟩

theorem clearMark (s : State) (i : Fin 8) : ShowsOn s (s.clearMark i) :=
  have hunmarked : ShowsOn s (s.updateSet i SetRec.unmark) := updateSet s i fun _ => ⟨rfl, rfl⟩
  .ite (.ite (hunmarked.trans (setOnline _ i)) hunmarked) (refl s)

theorem clearMarks (s : State) : ShowsOn s s.clearMarks := .foldl clearMark _ s

theorem goResting_shown (r : SetRec) (length now : Count) :
    (r.goResting length now).directive = r.directive ∧ (r.goResting length now).dirSeq = r.dirSeq := ⟨rfl, rfl⟩

theorem setLeftBus (s : State) (i : Fin 8) : ShowsOn s (s.setLeftBus i) :=
  updateSet s i (f := fun r => r.goResting s.cfg.roster[i].downLength s.clk) fun r => goResting_shown r _ _

theorem stopOne (s : State) (i : Fin 8) : ShowsOn s (s.stopOne i) := by
  unfold State.stopOne
  split
  · exact updateSet s i fun _ => ⟨rfl, rfl⟩
  · exact setLeftBus s i
  all_goals exact refl s

theorem stopAll (s : State) : ShowsOn s s.stopAll :=
  .trans (t := { s with shortfall := none, surplus := none }) (other rfl rfl rfl rfl) (.foldl stopOne _ _)

theorem sendDirectives (s : State) : ShowsOn s s.sendDirectives := by
  refine .foldl (fun s i => ?_) _ s
  have hsame : s.sets.set i s.sets[i] = s.sets := Vector.set_getElem_self _
  have hsent := sendDirective s i s.sets[i]
  rwa [hsame] at hsent

/-! ## The Commitment Unit's task -/

theorem makeStart {t : State} (h : s.makeStart = some t) : ShowsOn s t := by
  have hcleared : ShowsOn s { s with shortfall := none } := other rfl rfl rfl rfl
  unfold State.makeStart at h
  split at h
  · obtain rfl := Option.some.inj h
    exact hcleared.trans (updateSet _ _ fun _ => ⟨rfl, rfl⟩)
  · split at h
    · obtain rfl := Option.some.inj h
      exact hcleared.trans (startSet _ _)
    · exact nomatch h

theorem startRule (s : State) (rec : BalanceRecord) : ShowsOn s (s.startRule rec).1 := by
  unfold State.startRule
  dsimp only
  split
  · split
    · split
      next h => exact .trans (other rfl rfl rfl rfl) (makeStart h)
      · exact other rfl rfl rfl rfl
    · exact other rfl rfl rfl rfl
  · exact other rfl rfl rfl rfl

theorem stopRule (s : State) (rec : BalanceRecord) : ShowsOn s (s.stopRule rec) := by
  obtain ⟨timer, h⟩ | ⟨c, -, -, h⟩ := stopRule_cases s rec <;> rw [h]
  · exact other rfl rfl rfl rfl
  · exact .trans (t := { s with surplus := none }) (other rfl rfl rfl rfl)
      (updateSet _ c (f := fun r => r.goStopping s.cfg.roster[c] s.clk) fun _ => ⟨rfl, rfl⟩)

theorem bothParts (s : State) (rec : BalanceRecord) : ShowsOn s (s.bothParts rec) := by
  have hstart : ShowsOn s (s.startPart rec).1 := by
    unfold State.startPart
    split
    · exact startRule s rec
    · exact other rfl rfl rfl rfl
  exact .ite (hstart.trans (stopRule _ rec)) (hstart.trans (other rfl rfl rfl rfl))

theorem commitmentTask (s : State) (rec : BalanceRecord) : ShowsOn s (s.commitmentTask rec) :=
  (bothParts s rec).trans (sendDirectives _)

end ShowsOn

end Sys2Proof.Machine
end

section
/-! A tBAL expiry: the record, its frames and the work of the blocks (R18, R19, R22, R29 to R32, R50, R79). -/

namespace Sys2Proof.Machine

variable {s t u x before : State} {rec : BalanceRecord}

namespace ShowsOn

/-! ## The Curtailment Unit's task -/

theorem sendCeilings (s : State) : ShowsOn s s.sendCeilings := .foldl sendCeiling _ s

/-- Only plant records differ, and no last queued ceiling. -/
theorem plants (h : t = { s with plants := t.plants, aggU := t.aggU, freshStart := t.freshStart })
    (hlast : ∀ p : Fin 4, t.plants[p].lastQueued = s.plants[p].lastQueued) : ShowsOn s t :=
  same (by rw [h]) (by rw [h]) (fun i => by rw [h]; exact ⟨rfl, rfl⟩) hlast

theorem formCeilings (s : State) : ShowsOn s s.formCeilings := by
  refine plants rfl fun p => ?_
  rw [State.formCeilings, Fin.getElem_fin, getElem_tabulate]
  split <;> rfl

theorem setAllotments (s : State) (f : Fin 4 → Nat) : ShowsOn s (s.setAllotments f) := by
  refine plants rfl fun p => ?_
  rw [State.setAllotments, Fin.getElem_fin, getElem_tabulate]
  split <;> rfl

theorem computeCeilings (s : State) (rec : BalanceRecord) : ShowsOn s (s.computeCeilings rec) :=
  .trans (t := { s with aggU := _, freshStart := false }) (other rfl rfl rfl rfl) ((setAllotments _ _).trans (formCeilings _))

end ShowsOn

/-- The work of the Curtailment Unit ends with the frames of all plants. -/
theorem curtailmentWork_sends (s : State) (rec : BalanceRecord) : ∃ u reached, ShowsOn s u ∧ u.cfg = s.cfg
    ∧ s.curtailmentWork rec = { u.sendCeilings with pvReached := reached } := by
  unfold State.curtailmentWork
  split
  · exact ⟨s.computeCeilings rec, _, .computeCeilings s rec, rfl, rfl⟩
  · exact ⟨s.formCeilings, _, .formCeilings s, rfl, rfl⟩
  · split
    · exact ⟨s.computeCeilings rec, _, .computeCeilings s rec, rfl, rfl⟩
    · exact ⟨s, _, .refl s, rfl, rfl⟩

theorem curtailmentWork_shows (s : State) (rec : BalanceRecord) : ShowsOn s (s.curtailmentWork rec) := by
  obtain ⟨u, reached, hu, -, h⟩ := curtailmentWork_sends s rec
  rw [h]
  exact hu.trans (.trans (t := u.sendCeilings) (.sendCeilings u) (.other rfl rfl rfl rfl))

theorem curtailmentWork_ceilings {p : Fin 4} (hp : 0 < s.cfg.pv[p].rating) : CeilingWaits (s.curtailmentWork rec) p := by
  obtain ⟨u, reached, -, hcfg, h⟩ := curtailmentWork_sends s rec
  obtain ⟨hlast, -, hmem⟩ := sendCeilings_queued (s := u) (u := u) (p := p) (by rwa [hcfg]) rfl rfl
  have hframe : u.sendCeilings.cfg = u.cfg := (congrArg State.cfg (sendAll_frame u.configuredPlants u) :)
  rw [← hlast, ← hframe] at hmem
  rw [h]
  exact ⟨_, hmem⟩

namespace ShowsOn

theorem setMode (s : State) (m : Mode) : ShowsOn s (s.setMode m) :=
  .ite (refl s) (.trans (t := { s with
    mode := m, shortfall := none, surplus := none, reserveShed := none
    seq := { s.seq with trigger := if m = .dispatch then s.seq.trigger else none } }) (other rfl rfl rfl rfl) (redirectAll _))

theorem completeBlackStart (s : State) : ShowsOn s s.completeBlackStart :=
  .trans (t := { s with seq := s.seq.ended false }) (other rfl rfl rfl rfl) (setMode _ .dispatch)

theorem curtailmentTask (s : State) (rec : BalanceRecord) : ShowsOn s (s.curtailmentTask rec) :=
  .ite ((curtailmentWork_shows s rec).trans (completeBlackStart _)) (curtailmentWork_shows s rec)

/-! ## The Ladder's task, the examination and the look at RESTORE -/

theorem queueReport (s : State) : ShowsOn s s.queueReport :=
  .trans (t := s.send (.feederReport (partsOf s.runs) 0)) (send s nofun nofun nofun nofun) (other rfl rfl rfl rfl)

theorem countReport (s : State) : ShowsOn s s.countReport :=
  .trans (t := { s with reportCount := s.reportCount + 1, firstReport := false }) (other rfl rfl rfl rfl)
    (.ite (queueReport _) (refl _))

theorem ladderTask (s : State) (rec : BalanceRecord) : ShowsOn s (s.ladderTask rec) := by
  have hframe := reserveShedStep_frame s rec
  refine .trans (t := s.reserveShedStep rec) ?_ (countReport _)
  generalize s.reserveShedStep rec = t at hframe
  rw [hframe]
  exact other rfl rfl rfl rfl

theorem restorationClose (s : State) (i : Fin 16) : ShowsOn s (s.restorationClose i) := by
  obtain h | h := restorationClose_cases s i <;> rw [h]
  · exact refl s
  · exact other rfl rfl rfl rfl

theorem examine (s : State) (rec : BalanceRecord) : ShowsOn s (s.examine rec) := by
  have hlapse : ShowsOn s s.lapseRestoreDelay := .ite (other rfl rfl rfl rfl) (refl s)
  unfold State.examine
  dsimp only
  generalize s.lapseRestoreDelay = v at hlapse
  refine hlapse.trans ?_
  split
  · exact other rfl rfl rfl rfl
  · exact .ite (.ite (.trans (t := { v with blocked := none }) (other rfl rfl rfl rfl) (restorationClose _ _))
      (other rfl rfl rfl rfl)) (other rfl rfl rfl rfl)

theorem restoreCheck (s : State) : ShowsOn s s.restoreCheck := by
  unfold State.restoreCheck
  refine .ite (.ite (other rfl rfl rfl rfl) ?_) (refl s)
  split
  · exact .ite (other rfl rfl rfl rfl) (other rfl rfl rfl rfl)
  · exact other rfl rfl rfl rfl

/-! ## The sequencer at the end of the event -/

theorem endInObserve (s : State) (failed : Bool) : ShowsOn s (s.endInObserve failed) :=
  .trans (t := { s with seq := s.seq.ended failed, ordering := false, forcedZero := false }) (other rfl rfl rfl rfl)
    ((setMode _ .observe).trans (clearMarks _))

theorem lookAddSets (s : State) : ShowsOn s s.lookAddSets := by
  unfold State.lookAddSets
  refine .ite (other rfl rfl rfl rfl) ?_
  split
  next i _ => exact .trans (t := { s with seq := { s.seq with runOrder := some i } }) (other rfl rfl rfl rfl) (startSet _ i)
  · exact other rfl rfl rfl rfl

theorem enterAddSets (s : State) : ShowsOn s s.enterAddSets :=
  .trans (t := { s with seq := { s.seq with phase := .addSets, candidate := none, passedOver := [], runOrder := none } })
    (other rfl rfl rfl rfl) (lookAddSets _)

theorem addSetsCheck (s : State) : ShowsOn s s.addSetsCheck := by
  unfold State.addSetsCheck
  refine .ite ?_ (refl s)
  split
  next i _ =>
    let passed := if s.sets[i].state = .online then s.seq.passedOver else s.seq.passedOver ++ [i]
    exact .ite (refl s) (.trans (t := { s with seq := { s.seq with runOrder := none, passedOver := passed } })
      (other rfl rfl rfl rfl) (lookAddSets _))
  · exact refl s

theorem deadBusOrder (s : State) (i : Fin 8) : ShowsOn s (s.deadBusOrder i) := updateSet s i fun _ => ⟨rfl, rfl⟩

theorem lookFirstSet (s : State) : ShowsOn s s.lookFirstSet := by
  unfold State.lookFirstSet
  refine .ite (enterAddSets s) ?_
  split
  next i _ => exact .trans (t := { s with seq := { s.seq with candidate := some i } }) (other rfl rfl rfl rfl) (deadBusOrder _ i)
  · exact .ite (refl s) (endInObserve s true)

theorem candidateCheck (s : State) : ShowsOn s s.candidateCheck := by
  unfold State.candidateCheck
  split
  · exact .ite (.trans (t := { s with seq := { s.seq with candidate := none } }) (other rfl rfl rfl rfl) (lookFirstSet _)) (refl s)
  · exact lookFirstSet s

theorem formedCheck (s : State) : ShowsOn s s.formedCheck := by
  unfold State.formedCheck
  split
  · exact .ite (.ite ((setOnline s _).trans (enterAddSets _)) (.ite ((clearMark s _).trans (enterAddSets _)) (refl s))) (refl s)
  · exact refl s

theorem firstSetCheck (s : State) : ShowsOn s s.firstSetCheck :=
  .ite (.ite ((candidateCheck s).trans (formedCheck _)) (candidateCheck s)) (refl s)

theorem prepareCheck (s : State) : ShowsOn s s.prepareCheck := .ite (other rfl rfl rfl rfl) (refl s)

theorem forceZero (s : State) : ShowsOn s s.forceZero := by
  let zeroed : State := { s with
    forcedZero := true, freshStart := false, pvReached := false, aggU := 0
    plants := tabulate fun (p : Fin 4) =>
      if s.plantConfigured p then
        { s.plants[p] with allotment := 0, allotCause := .blackstart, sent := 0, sentCause := .blackstart }
      else s.plants[p] }
  have hzeroed : ShowsOn s zeroed := by
    refine same rfl rfl (fun _ => ⟨rfl, rfl⟩) fun p => ?_
    rw [Fin.getElem_fin, getElem_tabulate]
    split <;> rfl
  have hsent : ShowsOn zeroed s.forceZero :=
    foldl sendCeiling (s.configuredPlants.filter fun p => decide (0 < s.plants[p].lastQueued)) zeroed
  exact hzeroed.trans hsent

theorem openAll (hmark : s.ordering = true) (hhold : s.hold.state ≠ .pending) : ShowsOn s s.openAll := by
  have hframe := (openAll_opened (s := s) hmark hhold).frame
  generalize s.openAll = t at hframe
  rw [hframe]
  exact other rfl rfl rfl rfl

theorem prepareOrders (s : State) : ShowsOn s s.prepareOrders :=
  .trans (t := s.rebuildQueue) (other rfl rfl rfl rfl) ((openAll (s := s.rebuildQueue) rfl nofun).trans ((forceZero _).trans (stopAll _)))

theorem beginSequence (s : State) : ShowsOn s s.beginSequence := by
  rw [beginSequence_eq]
  refine .trans ?_ (prepareOrders _)
  exact .trans (t := { s with seq := { s.seq with attempts := 1, trigger := none } }) (other rfl rfl rfl rfl)
    ((setMode _ .blackstart).trans (other rfl rfl rfl rfl))

theorem triggerCheck (s : State) : ShowsOn s s.triggerCheck := by
  unfold State.triggerCheck
  refine .ite ?_ (other rfl rfl rfl rfl)
  split
  · exact refl s
  · exact .ite (beginSequence s) (other rfl rfl rfl rfl)

theorem finish (s before : State) : ShowsOn s (s.finish before) := by
  have hreact : ShowsOn s s.sequencerReact :=
    (triggerCheck s).trans ((prepareCheck _).trans ((firstSetCheck _).trans (addSetsCheck _)))
  unfold State.finish
  generalize s.sequencerReact = t at hreact
  have hreport : ShowsOn t (t.reportChanges before) := .ite (refl t) (queueReport t)
  generalize t.reportChanges before = u at hreport
  exact hreact.trans (hreport.trans (other rfl rfl rfl rfl))

end ShowsOn

end Sys2Proof.Machine
end

section
/-! Settling the statement on a tBAL expiry (R18, R19, R22, R29 to R32, R50, R79). -/

namespace Sys2Proof.Machine

variable {s t u b x before : State} {rec : BalanceRecord}

/-! ## Folds over the tasks -/

/-- What one of the steps makes, and every step keeps, stands after all of them. -/
theorem foldl_establishes {α : Type} {f : State → α → State} {I P : State → Prop} {a : α} (hI : ∀ s k, I s → I (f s k))
    (hP : ∀ s k, I s → P s → P (f s k)) (ha : ∀ s, I s → P (f s a)) {l : List α} (hmem : a ∈ l) {s : State} (h : I s) :
    P (l.foldl f s) := by
  have hkept (l : List α) : ∀ s, I s → P s → P (l.foldl f s) := by
    induction l with
    | nil => exact fun _ _ hp => hp
    | cons k l ih => exact fun s hi hp => ih _ (hI s k hi) (hP s k hi hp)
  induction l generalizing s with
  | nil => exact nomatch hmem
  | cons k l ih =>
    obtain rfl | hmem := List.mem_cons.mp hmem
    · exact hkept l _ (hI s _ h) (ha s h)
    · exact ih hmem (hI s k h)

/-! ## What the tasks leave alone -/

/-- What the tasks of a publication leave alone. -/
def PublicationFrame (s t : State) : Prop := IslandEventFrame { s with firstReport := t.firstReport } t

theorem IslandEventFrame.publication (h : IslandEventFrame s t) : PublicationFrame s t := by
  have hfirst : t.firstReport = s.firstReport := (congrArg State.firstReport h :)
  rwa [PublicationFrame, hfirst]

theorem PublicationFrame.trans (h : PublicationFrame s t) (h' : PublicationFrame t u) : PublicationFrame s u := by
  unfold PublicationFrame IslandEventFrame at *
  rw [h', h]

theorem countReport_frame (s : State) : PublicationFrame s s.countReport := by
  unfold State.countReport
  dsimp only
  split <;> rfl

theorem ladderTask_frame (s : State) (rec : BalanceRecord) : PublicationFrame s (s.ladderTask rec) := by
  have hframe := reserveShedStep_frame s rec
  refine .trans (t := s.reserveShedStep rec) ?_ (countReport_frame _)
  generalize s.reserveShedStep rec = t at hframe
  rw [hframe]
  rfl

theorem curtailmentTask_frame (s : State) (rec : BalanceRecord) : IslandEventFrame s (s.curtailmentTask rec) :=
  island_ite (island_trans (curtailmentWork_island s rec) (completeBlackStart_island _)) (curtailmentWork_island s rec)

theorem commitmentTask_island (s : State) (rec : BalanceRecord) : IslandEventFrame s (s.commitmentTask rec) := by
  have hframe := commitmentTask_frame s rec
  unfold CommitmentFrame at hframe
  generalize s.commitmentTask rec = t at hframe
  rw [hframe]
  rfl

theorem runTask_frame (s : State) (rec : BalanceRecord) (k : Task) : PublicationFrame s (s.runTask rec k) := by
  cases k with
  | status => exact rfl
  | commitment => exact (commitmentTask_island s rec).publication
  | curtailment => exact (curtailmentTask_frame s rec).publication
  | ladder => exact ladderTask_frame s rec
  | restoration => exact (examine_island s rec).publication
  | sequencer => exact (restoreCheck_island s).publication

theorem runTasks_frame (rec : BalanceRecord) (l : List Task) : ∀ s : State, PublicationFrame s (s.runTasks rec l) := by
  induction l with
  | nil => exact fun s => rfl
  | cons k l ih => exact fun s => (runTask_frame s rec k).trans (ih _)

/-- The first report is made at the latest at the first publication (R114). -/
theorem runTasks_firstReport {l : List Task} (h : Task.ladder ∈ l) (s : State) : (s.runTasks rec l).firstReport = false := by
  have hladder (s : State) : (s.runTask rec .ladder).firstReport = false := by
    show (s.reserveShedStep rec).countReport.firstReport = false
    unfold State.countReport
    dsimp only
    split <;> rfl
  refine foldl_establishes (f := fun s k => s.runTask rec k) (I := fun _ => True) (P := fun s => s.firstReport = false)
    (fun _ _ _ => trivial) (fun s k _ hs => ?_) (fun s _ => hladder s) h trivial
  cases k with
  | status => exact hs
  | commitment => exact (congrArg State.firstReport (commitmentTask_island s rec) :).trans hs
  | curtailment => exact (congrArg State.firstReport (curtailmentTask_frame s rec) :).trans hs
  | ladder => exact hladder s
  | restoration => exact (congrArg State.firstReport (examine_island s rec) :).trans hs
  | sequencer => exact (congrArg State.firstReport (restoreCheck_island s) :).trans hs

/-! ## The frames of a publication -/

theorem statusTask_shows (s : State) (rec : BalanceRecord) : (∀ i : Fin 8, s.directiveFrame i ∈ s.txQueue →
    (s.statusTask rec).directiveFrame i ∈ (s.statusTask rec).txQueue)
    ∧ ∀ p : Fin 4, CeilingWaits s p → CeilingWaits (s.statusTask rec) p :=
  ⟨fun _ hi => mem_enqueue.mpr (.inr ⟨mem_enqueue.mpr (.inr ⟨hi, nofun⟩), nofun⟩),
    fun _ ⟨cause, hp⟩ => ⟨cause, mem_enqueue.mpr (.inr ⟨mem_enqueue.mpr (.inr ⟨hp, nofun⟩), nofun⟩)⟩⟩

/-- Every other task leaves the frames to say what they said. -/
theorem runTask_shows (s : State) (rec : BalanceRecord) {k : Task} (h : k ≠ .status) : ShowsOn s (s.runTask rec k) := by
  cases k with
  | status => exact absurd rfl h
  | commitment => exact .commitmentTask s rec
  | curtailment => exact .curtailmentTask s rec
  | ladder => exact .ladderTask s rec
  | restoration => exact .examine s rec
  | sequencer => exact .restoreCheck s

theorem runTask_keeps_frames (s : State) (rec : BalanceRecord) (k : Task) : (∀ i : Fin 8, s.directiveFrame i ∈ s.txQueue →
    (s.runTask rec k).directiveFrame i ∈ (s.runTask rec k).txQueue)
    ∧ ∀ p : Fin 4, CeilingWaits s p → CeilingWaits (s.runTask rec k) p := by
  by_cases h : k = .status
  · subst h
    exact statusTask_shows s rec
  · exact ⟨(runTask_shows s rec h).directives, (runTask_shows s rec h).ceilings⟩

theorem runTask_cfg (s : State) (rec : BalanceRecord) (k : Task) : (s.runTask rec k).cfg = s.cfg :=
  (congrArg State.cfg (runTask_frame s rec k) :)

/-- One SET_DIRECTIVE for each configured set (R50). -/
theorem runTasks_directive {l : List Task} (h : Task.commitment ∈ l) {s : State} {i : Fin 8} (hi : 0 < s.cfg.roster[i].rating) :
    (s.runTasks rec l).directiveFrame i ∈ (s.runTasks rec l).txQueue := by
  refine foldl_establishes (f := fun s k => s.runTask rec k) (I := fun s => 0 < s.cfg.roster[i].rating)
    (P := fun s => s.directiveFrame i ∈ s.txQueue) (fun s k hs => by rwa [runTask_cfg])
    (fun s k _ hs => (runTask_keeps_frames s rec k).1 i hs) (fun s hs => ?_) h hi
  have hcfg : (s.bothParts rec).cfg = s.cfg := (congrArg State.cfg (bothParts_frame s rec) :)
  have hmem := directiveFrame_mem (s := s.bothParts rec) (i := i) (by rwa [hcfg])
  have hsets := sendDirectives_sets (s.bothParts rec)
  have hframe : (s.bothParts rec).sendDirectives.directiveFrame i = (s.bothParts rec).directiveFrame i := by
    unfold State.directiveFrame
    rw [hsets, (sendDirectives_setsFrame _).cfg]
  show (s.bothParts rec).sendDirectives.directiveFrame i ∈ (s.bothParts rec).sendDirectives.txQueue
  rwa [hframe]

/-- One PV_CEILING for each configured plant (R79). -/
theorem runTasks_ceiling {l : List Task} (h : Task.curtailment ∈ l) {s : State} {p : Fin 4} (hp : 0 < s.cfg.pv[p].rating) :
    CeilingWaits (s.runTasks rec l) p := by
  refine foldl_establishes (f := fun s k => s.runTask rec k) (I := fun s => 0 < s.cfg.pv[p].rating)
    (P := fun s => CeilingWaits s p) (fun s k hs => by rwa [runTask_cfg])
    (fun s k _ hs => (runTask_keeps_frames s rec k).2 p hs) (fun s hs => ?_) h hp
  show CeilingWaits (s.curtailmentTask rec) p
  unfold State.curtailmentTask
  dsimp only
  split
  · exact (ShowsOn.completeBlackStart _).ceilings p (curtailmentWork_ceilings hs)
  · exact curtailmentWork_ceilings hs

/-- The two status frames of a publication wait, with the meter's record at the expiry (R31, R32). -/
def StatusWaits (b : State) (rec : BalanceRecord) (t : State) : Prop :=
  (∃ a, .statusA a ∈ t.txQueue ∧ a.recordValid = rec.valid ∧ a.meter = b.meter.state
    ∧ a.deviation = b.meter.freq.map (fun f => (f : Int) - (b.fn : Int)) ∧ a.rocof = b.meter.rocof)
  ∧ .statusB (min rec.sr 65535) (min rec.rr 65535) (min rec.l 65535) ∈ t.txQueue

theorem StatusWaits.of_shows (h : StatusWaits b rec s) (hs : ShowsOn s t) : StatusWaits b rec t := by
  obtain ⟨⟨a, ha, hfields⟩, hb⟩ := h
  exact ⟨⟨a, hs.statuses _ ha (.inl rfl), hfields⟩, hs.statuses _ hb (.inr rfl)⟩

theorem statusTask_waits (hmeter : s.meter = b.meter) (hfn : s.fn = b.fn) : StatusWaits b rec (s.statusTask rec) := by
  have ha : s.statusA rec ∈ (s.statusTask rec).txQueue :=
    mem_enqueue.mpr (.inr ⟨self_mem_enqueue s.txQueue _, nofun⟩)
  exact ⟨⟨_, ha, rfl, congrArg Meter.state hmeter, by rw [hmeter, hfn], congrArg Meter.rocof hmeter⟩, self_mem_enqueue _ _⟩

theorem runTasks_status {l : List Task} (h : Task.status ∈ l) {s : State} (hmeter : s.meter = b.meter) (hfn : s.fn = b.fn) :
    StatusWaits b rec (s.runTasks rec l) := by
  refine foldl_establishes (f := fun s k => s.runTask rec k) (I := fun s => s.meter = b.meter ∧ s.fn = b.fn)
    (P := StatusWaits b rec) (fun s k hs => ?_) (fun s k hi hs => ?_) (fun s hs => statusTask_waits hs.1 hs.2) h ⟨hmeter, hfn⟩
  · have hkeeps := runTask_keeps s rec k
    exact ⟨hkeeps.meter.trans hs.1, hkeeps.fn.trans hs.2⟩
  · by_cases hk : k = .status
    · subst hk
      exact statusTask_waits hi.1 hi.2
    · exact hs.of_shows (runTask_shows s rec hk)

/-! ## The record and the held outputs (R22) -/

theorem heldAfter_get (s : State) (p : Fin 4) :
    s.heldAfter[p] = if s.plantConfigured p then (s.plantInput p).output else s.held[p] := getElem_tabulate _ _ _

theorem heldAfter_of_record (s : State) {x : PlantInput} (h : x ∈ s.computeRecord.plants) : s.heldAfter[x.index] = x.output := by
  obtain ⟨p, hp, rfl⟩ := List.mem_map.mp (show x ∈ s.configuredPlants.map s.plantInput from h)
  have hget (q : Fin 4) (hq : q = p) : s.heldAfter[q] = (s.plantInput p).output := by
    subst hq
    rw [heldAfter_get, if_pos ((State.mem_configuredPlants s).mp hp)]
  exact hget _ (s.plantInput_index p)

theorem heldAfter_of_empty {p : Fin 4} (h : s.cfg.pv[p].rating = 0) : s.heldAfter[p] = s.held[p] := by
  rw [heldAfter_get, if_neg]
  rw [s.plantConfigured_iff, h]
  exact Nat.lt_irrefl 0

/-! ## The expiry -/

/-- The work of the blocks at a publication, in its order. -/
def State.tasksDone (b : State) : State := b.publish.useFree.runTasks b.computeRecord (taskOrder b.freeCount)

theorem exec_tbalExpiry {dt due : Nat} (hrun : s.power = .running) (ht : s.tbalEnds = some due) (hdue : due ≤ s.clk + dt) :
    exec (.tbalExpiry dt) s = .next (((s.elapse dt).beginInterval due).tasksDone.finish (s.elapse dt)) := by
  have hstep : (match (s.elapse dt).tbalEnds with
      | some due => if due ≤ (s.elapse dt).clk then (s.elapse dt).balanceExpiry due else s.elapse dt
      | none => s.elapse dt) = (s.elapse dt).balanceExpiry due := by
    rw [(show (s.elapse dt).tbalEnds = some due from ht)]
    exact if_pos hdue
  exact congrArg Host.Outcome.next ((event_of_running hrun dt _).trans (congrArg (fun t : State => t.finish (s.elapse dt)) hstep))

theorem mem_taskOrder (n : Nat) (k : Task) : k ∈ taskOrder n :=
  (taskOrder_perm n).mem_iff.mpr (by cases k <;> decide)

/-- The tasks as functions, in the order of their numbers. -/
theorem allTasks_map (rec : BalanceRecord) : (allTasks.map fun k u => State.runTask u rec k) =
    [fun u => u.statusTask rec, fun u => u.commitmentTask rec, fun u => u.curtailmentTask rec, fun u => u.ladderTask rec,
      fun u => u.examine rec, State.restoreCheck] := rfl

theorem runTasks_eq (s : State) (rec : BalanceRecord) (l : List Task) :
    s.runTasks rec l = (l.map fun k u => State.runTask u rec k).foldl (fun u task => task u) s := by
  rw [List.foldl_map]
  rfl

/-- The end of an expiry, from the state with its cycle number raised and its parameters taken up. -/
theorem tasksDone_ends (b before : State) : ∃ t, b.tasksDone.finish before = t
    ∧ t.held = b.heldAfter ∧ t.freeCount = b.freeCount + 1 ∧ t.cfg = b.cfg
    ∧ IslandEventFrame { b.publish.useFree with firstReport := false } t
    ∧ StatusWaits b b.computeRecord t
    ∧ (∀ i : Fin 8, 0 < b.cfg.roster[i].rating → t.directiveFrame i ∈ t.txQueue)
    ∧ ∀ p : Fin 4, 0 < b.cfg.pv[p].rating → CeilingWaits t p := by
  have hframe : PublicationFrame b.publish.useFree b.tasksDone := runTasks_frame _ _ _
  have hfirst : b.tasksDone.firstReport = false := runTasks_firstReport (mem_taskOrder _ _) _
  have hstatus : StatusWaits b b.computeRecord b.tasksDone := runTasks_status (mem_taskOrder _ _) rfl rfl
  have hdirectives (i : Fin 8) (hi : 0 < b.cfg.roster[i].rating) : b.tasksDone.directiveFrame i ∈ b.tasksDone.txQueue :=
    runTasks_directive (mem_taskOrder _ _) hi
  have hceilings (p : Fin 4) (hp : 0 < b.cfg.pv[p].rating) : CeilingWaits b.tasksDone p := runTasks_ceiling (mem_taskOrder _ _) hp
  generalize b.tasksDone = x at *
  have hshows := ShowsOn.finish x before
  have hisland := finish_island x before
  rw [PublicationFrame, hfirst] at hframe
  have hall := island_trans hframe hisland
  generalize x.finish before = t at *
  exact ⟨t, rfl, (congrArg State.held hall :), (congrArg State.freeCount hall :), (congrArg State.cfg hall :), hall,
    hstatus.of_shows hshows, fun i hi => hshows.directives i (hdirectives i hi), fun p hp => hshows.ceilings p (hceilings p hp)⟩

/-- Settles O21. -/
theorem tbalExpiryPublishesTheRecord : Obligations.TbalExpiryPublishesTheRecord := by
  intro s dt due hrun ht hdue
  let b := (s.elapse dt).beginInterval due
  obtain ⟨t, htasks, hheld, hfree, hcfg, hall, ⟨⟨a, ha, hvalid, hmeter, hdeviation, hrocof⟩, hstatusB⟩, hdirectives, hceilings⟩ :=
    tasksDone_ends b (s.elapse dt)
  refine ⟨t, b, (exec_tbalExpiry hrun ht hdue).trans (congrArg Host.Outcome.next htasks), rfl, fun p => ?_, ?_, fun y hy => ?_,
    fun p hp => ?_, ⟨a, ha, hvalid, ?_, ?_, ?_⟩, hstatusB, fun i hi => ?_, fun p hp => ?_,
    b.publish.useFree, (taskOrder b.freeCount).map fun k u => State.runTask u b.computeRecord k, ?_,
    ((taskOrder_perm b.freeCount).map _).trans (.of_eq (allTasks_map _)), ?_⟩
  · exact getElem_tabulate _ _ _
  · rw [hheld, hfree]
    exact hall
  · rw [hheld]
    exact heldAfter_of_record b hy
  · rw [hheld]
    exact heldAfter_of_empty (s := b) hp
  · exact hmeter.trans (Meter.elapse_state s.meter dt)
  · have hfreq : b.meter.freq = s.meter.freq := Meter.elapse_freq s.meter dt
    have hfn : b.fn = s.fn := rfl
    rw [hdeviation, hfreq, hfn]
  · exact hrocof.trans (Meter.elapse_rocof s.meter dt)
  · have hmem := hdirectives i hi
    rw [State.directiveFrame, hcfg] at hmem
    exact hmem
  · obtain ⟨cause, hmem⟩ := hceilings p hp
    rw [hcfg] at hmem
    exact ⟨cause, hmem⟩
  · rw [hheld, hfree]
    rfl
  · rw [← htasks, ← runTasks_eq]
    rfl

end Sys2Proof.Machine
end

section
/-! What a derivation of directives after a table commit does to the records and the Transmit Queue (R48, R49, R67, R185). -/

namespace Sys2Proof.Machine

variable {s u w : State} {staging : Staging}

/-- The keys that wait keep their places when a frame is queued. -/
theorem enqueue_keys_prefix (q : List Frame) (f : Frame) : q.map Frame.key <+: (enqueue q f).map Frame.key := by
  rw [enqueue_keys]
  split
  · exact List.prefix_rfl
  · exact List.prefix_append _ _

/-- Directives have been derived again, and modes changed, since `w`. -/
structure Redirected (w u : State) : Prop where
  frame : u = { w with
    mode := u.mode, shortfall := u.shortfall, surplus := u.surplus, reserveShed := u.reserveShed, seq := u.seq, sets := u.sets
    txQueue := u.txQueue }
  phase : u.seq.phase = w.seq.phase
  sets : ∀ i : Fin 8, u.sets[i] = { w.sets[i] with directive := u.sets[i].directive, dirSeq := u.sets[i].dirSeq }
  keys : w.txQueue.map Frame.key <+: u.txQueue.map Frame.key
  frames : ∀ f ∈ u.txQueue, f ∈ w.txQueue ∨ ∃ i : Fin 8, 0 < w.cfg.roster[i].rating ∧ f = u.directiveFrame i
  shown : ∀ i : Fin 8, u.sets[i].directive = w.sets[i].directive ∨ u.directiveFrame i ∈ u.txQueue
  others : OthersWait w u

/-- A derivation that has changed the directive of set `j` and queued its frame. -/
structure DirectiveChanged (u : State) (j : Fin 8) (y : State) : Prop where
  frame : SetsFrame u y
  conf : 0 < u.cfg.roster[j].rating
  ne : ∀ i : Fin 8, i ≠ j → y.sets[i] = u.sets[i]
  self : y.sets[j] = { u.sets[j] with directive := y.sets[j].directive, dirSeq := y.sets[j].dirSeq }
  queue : y.txQueue = enqueue u.txQueue (y.directiveFrame j)

theorem redirect_changed (u : State) (j : Fin 8) : u.redirect j = u ∨ DirectiveChanged u j (u.redirect j) := by
  by_cases hstands : 0 < u.cfg.roster[j].rating → u.wanted j = u.sets[j].directive
  · exact .inl (redirect_of_stands u hstands)
  · rw [Classical.not_imp] at hstands
    have hsent := redirect_of_changes u hstands.1 hstands.2
    have hself := redirect_sets_self u j
    refine .inr ⟨redirect_setsFrame u j, hstands.1, fun i hi => redirect_sets_ne u hi, ?_, ?_⟩
    · rw [hself, State.derivedSet]
      split <;> rfl
    · have hcfg := (redirect_setsFrame u j).cfg
      rw [State.directiveFrame, hself, hcfg, hsent]

namespace Redirected

theorem refl (w : State) : Redirected w w :=
  ⟨rfl, rfl, fun _ => rfl, List.prefix_rfl, fun _ hf => .inl hf, fun _ => .inl rfl, .refl w⟩

theorem cfg (h : Redirected w u) : u.cfg = w.cfg := (congrArg State.cfg h.frame :)

theorem redirect (h : Redirected w u) (j : Fin 8) : Redirected w (u.redirect j) := by
  have hothers := OthersWait.redirect u j
  obtain hsame | hchanged := redirect_changed u j
  · rwa [hsame]
  generalize u.redirect j = y at *
  have hne {i : Fin 8} (hi : i ≠ j) : y.directiveFrame i = u.directiveFrame i := by
    rw [State.directiveFrame, hchanged.ne i hi, hchanged.frame.cfg]
    rfl
  have hall : y = { w with
      mode := y.mode, shortfall := y.shortfall, surplus := y.surplus, reserveShed := y.reserveShed, seq := y.seq, sets := y.sets
      txQueue := y.txQueue } := by
    have hframe := hchanged.frame
    unfold SetsFrame at hframe
    rw [hframe, h.frame]
  refine ⟨hall, (congrArg Sequencer.phase hchanged.frame.seq).trans h.phase, fun i => ?_, ?_, fun f hf => ?_, fun i => ?_,
    h.others.trans hothers⟩
  · by_cases hi : i = j
    · subst hi
      rw [hchanged.self, h.sets i]
    · rw [hchanged.ne i hi]
      exact h.sets i
  · rw [hchanged.queue]
    exact h.keys.trans (enqueue_keys_prefix _ _)
  · rw [hchanged.queue] at hf
    obtain rfl | ⟨hf, hkey⟩ := mem_enqueue.mp hf
    · exact .inr ⟨j, h.cfg ▸ hchanged.conf, rfl⟩
    · refine (h.frames f hf).imp_right fun ⟨i, hi, hfi⟩ => ⟨i, hi, ?_⟩
      rw [hfi, hne]
      rintro rfl
      exact hkey (hfi ▸ rfl)
  · rw [hchanged.queue]
    by_cases hi : i = j
    · subst hi
      exact .inr (self_mem_enqueue _ _)
    · rw [hchanged.ne i hi, hne hi]
      refine (h.shown i).imp_right fun hmem => mem_enqueue.mpr (.inr ⟨hmem, fun hkey => hi ?_⟩)
      exact Key.setDirective.inj hkey

theorem redirectAll (h : Redirected w u) : Redirected w u.redirectAll := by
  have hfold (l : List (Fin 8)) : ∀ u, Redirected w u → Redirected w (l.foldl State.redirect u) := by
    induction l with
    | nil => exact fun _ h => h
    | cons j l ih => exact fun u h => ih _ (h.redirect j)
  exact hfold (indices 8) u h

/-- A mode change before the directives are derived again. -/
theorem moded (h : Redirected w u) (m : Mode) : Redirected w { u with
    mode := m, shortfall := none, surplus := none, reserveShed := none
    seq := { u.seq with trigger := if m = .dispatch then u.seq.trigger else none } } where
  frame := by
    conv_lhs => rw [h.frame]
  phase := h.phase
  sets := h.sets
  keys := h.keys
  frames := h.frames
  shown := h.shown
  others := h.others

theorem setMode (h : Redirected w u) (m : Mode) : Redirected w (u.setMode m) := by
  by_cases hm : u.mode = m
  · rwa [State.setMode, if_pos hm]
  · rw [setMode_of_ne hm]
    exact (h.moded m).redirectAll

end Redirected

/-! ## The commit of a table, before the directives are derived again -/

/-- A table, its records and the Transmit Queue as a commit replaces them. -/
def State.tabled (s : State) : Staging → State
  | .roster t => s.rostered t
  | .pv t => s.commitPv t
  | .feeder t => s.commitFeeders t
  | .stage t => s.commitStages t

theorem tabled_txQueue (s : State) (staging : Staging) : (s.tabled staging).txQueue = s.txQueue.filter (staysAtCommit s staging) := by
  cases staging with
  | roster t =>
    refine List.filter_congr fun f _ => ?_
    rw [Bool.eq_iff_iff]
    cases f <;> simp [State.keepsSetFrame, staysAtCommit, mem_indices, or_assoc]
  | pv t =>
    refine List.filter_congr fun f _ => ?_
    cases f <;> simp [State.keepsPvFrame, staysAtCommit]
  | feeder t | stage t => exact (List.filter_eq_self.mpr fun _ _ => rfl).symm

theorem commitTable_redirected (s : State) (staging : Staging) : Redirected (s.tabled staging) (s.commitTable staging) := by
  cases staging with
  | roster t => exact (Redirected.refl _).redirectAll
  | pv t | feeder t | stage t => exact .refl _

theorem tabled_mode (s : State) (staging : Staging) : (s.tabled staging).mode = s.mode := by
  cases staging <;> rfl

theorem commit_redirected (s : State) (staging : Staging) :
    Redirected (State.tabled { s with window := none } staging) (s.commit staging) := by
  have htable := commitTable_redirected { s with window := none } staging
  unfold State.commit
  dsimp only
  split
  · exact htable.setMode .observe
  · exact htable

theorem commit_mode (h : s.mode ≠ .blackstart) (staging : Staging) : (s.commit staging).mode = .observe := by
  unfold State.commit
  dsimp only
  split
  · exact setMode_mode _ _
  next hdispatch =>
    have hmode := commitTable_mode { s with window := none } staging
    refine hmode.trans ?_
    show s.mode = .observe
    cases hm : s.mode with
    | observe => rfl
    | dispatch => exact absurd hm hdispatch
    | blackstart => exact absurd hm h

end Sys2Proof.Machine
end

section
/-! A commit of the Table Window (R33, R67, R87, R117, R175, R184, R185). -/

namespace Sys2Proof.Machine

variable {s c before : State} {rx : Rx} {i : Fin 8}

/-! ## The end of an answered event with no sequence running -/

/-- A request answered at `c` has ended at `t`: its reply and, where feeders moved, a feeder report have joined the queue. -/
structure AnsweredEnds (before c t : State) (answer : Frame) : Prop where
  frame : t = { c with seq := t.seq, txQueue := t.txQueue, reportCount := t.reportCount, alertPin := t.alertPin }
  replied : answer ∈ t.txQueue
  report : FeederReportFollows before t
  keys : c.txQueue.map Frame.key <+: t.txQueue.map Frame.key
  frames : ∀ f ∈ t.txQueue, f ∈ c.txQueue ∨ f = answer ∨ f = .feederReport (partsOf t.runs) 0
  waits : ∀ i : Fin 8, c.directiveFrame i ∈ c.txQueue → t.directiveFrame i ∈ t.txQueue

theorem answered_ends (hno : ¬ TriggerRuns c) (hphase : c.seq.phase = .none) (hr : ReportsStand before c) (code : BitVec 5)
    (result : Result) (data : List Byte) :
    AnsweredEnds before c ((c.answer rx code result data).finish before) (.reply rx.src.toNat code result data) := by
  let x := c.answer rx code result data
  have hends : EndsAs before x (x.finish before) := finish_endsAs hno hphase
  have hfollows := finish_reports (before := before) (s := x) hno (hr.trans (answer_reports c rx code result data))
  have hreply : ReplyWaits (x.finish before) rx code result data := finish_reply_mem (s := x) hno (self_mem_enqueue c.txQueue _)
  generalize x.finish before = t at hends hfollows hreply
  have hruns : t.runs = x.runs := (congrArg State.runs hends :)
  have hqueue : t.txQueue = if x.feederStates = before.feederStates then x.txQueue
      else enqueue x.txQueue (.feederReport (partsOf x.runs) 0) := (congrArg State.txQueue hends :)
  have hxq : x.txQueue = enqueue c.txQueue (.reply rx.src.toNat code result data) := rfl
  have hframe : t = { c with seq := t.seq, txQueue := t.txQueue, reportCount := t.reportCount, alertPin := t.alertPin } := by
    unfold EndsAs at hends
    rw [hends]
    rfl
  have hdirective (i : Fin 8) : t.directiveFrame i = c.directiveFrame i := (congrArg (fun y : State => y.directiveFrame i) hframe :)
  refine ⟨hframe, hreply, hfollows, ?_, fun f hf => ?_, fun i hi => ?_⟩
  · rw [hqueue]
    split
    · exact enqueue_keys_prefix _ _
    · exact (enqueue_keys_prefix c.txQueue _).trans (enqueue_keys_prefix _ _)
  · have hx (hf : f ∈ x.txQueue) : f ∈ c.txQueue ∨ f = .reply rx.src.toNat code result data :=
      (mem_enqueue.mp hf).symm.imp_left And.left
    rw [hqueue] at hf
    split at hf
    · exact (hx hf).imp_right .inl
    · obtain hf | ⟨hf, -⟩ := mem_enqueue.mp hf
      · exact .inr (.inr (by rw [hruns]; exact hf))
      · exact (hx hf).imp_right .inl
  · have hx : c.directiveFrame i ∈ x.txQueue := mem_enqueue.mpr (.inr ⟨hi, nofun⟩)
    rw [hdirective, hqueue]
    split
    · exact hx
    · exact mem_enqueue.mpr (.inr ⟨hx, nofun⟩)

/-! ## The roster's records (R67) -/

theorem recommit_of_kept {r : SetRec} {configured : Bool} {now : Count} : r.recommit false configured now = r := rfl

theorem setReplaced_iff (s : State) (roster : Vector SetEntry 8) (i : Fin 8) : s.setReplaced roster i = true ↔
    (roster[i].address ≠ s.cfg.roster[i].address ∨ roster[i].rating ≠ s.cfg.roster[i].rating) := decide_eq_true_iff

theorem setReplaced_eq_false (s : State) (roster : Vector SetEntry 8) (i : Fin 8) : s.setReplaced roster i = false ↔
    (roster[i].address = s.cfg.roster[i].address ∧ roster[i].rating = s.cfg.roster[i].rating) := by
  rw [← Bool.not_eq_true, setReplaced_iff, not_or, not_not, not_not]

/-- A set that a valid roster replaces is in none of the states that use its entry (R174). -/
theorem unused_set_of_validate {roster : Vector SetEntry 8} (h : s.validate (.roster roster) = none)
    (hi : s.setReplaced roster i = true) :
    s.sets[i].state ≠ .starting ∧ s.sets[i].state ≠ .online := by
  have hcheck := List.findSome?_eq_none_iff.mp h i (mem_indices i)
  rw [Option.map_eq_none_iff, Option.or_eq_none_iff] at hcheck
  have huse : s.setInUse roster i = false := by
    by_contra hu
    rw [Bool.not_eq_false] at hu
    rw [if_pos hu] at hcheck
    exact absurd hcheck.2 nofun
  have hnot := decide_eq_false_iff_not.mp huse
  rw [not_and_or] at hnot
  have hstate := hnot.resolve_right (not_not_intro ((setReplaced_iff s roster i).mp hi))
  simp only [List.mem_cons, List.not_mem_nil, or_false, not_or] at hstate
  exact ⟨hstate.1, hstate.2.1⟩

/-- In OBSERVE every configured set's directive is HOLD (R48). -/
theorem setMode_observe_sets (h : s.mode = .dispatch) (i : Fin 8) : (s.setMode .observe).sets[i] =
    if 0 < s.cfg.roster[i].rating then s.sets[i].directed .hold else s.sets[i] := by
  rw [setMode_of_ne (by rw [h]; nofun), redirectAll_sets]
  rfl

/-- The records of the roster at the end of its commit, from those it is replaced with. -/
theorem commit_roster_sets (hmode : s.mode ≠ .blackstart) (roster : Vector SetEntry 8) (i : Fin 8) :
    let w := State.rostered { s with window := none } roster
    (s.commit (.roster roster)).sets[i] =
      if 0 < roster[i].rating then
        (if s.mode = .dispatch then (w.sets[i].directed (wantedDirective .dispatch w.sets[i].state w.sets[i].mark)).directed .hold
          else w.sets[i].directed .hold)
      else w.sets[i] := by
  intro w
  have hderived : w.redirectAll.sets[i] = w.derivedSet i := redirectAll_sets w i
  have hframe := redirectAll_setsFrame w
  have hcommit : s.commit (.roster roster) = if s.mode = .dispatch then w.redirectAll.setMode .observe else w.redirectAll := rfl
  have hwmode : w.mode = s.mode := rfl
  rw [hcommit]
  by_cases hdispatch : s.mode = .dispatch
  · rw [if_pos hdispatch, setMode_observe_sets (hframe.mode.trans hdispatch), hframe.cfg, hderived, State.derivedSet, State.wanted,
      hwmode, hdispatch]
    show (if 0 < roster[i].rating then _ else _) = _
    split
    next h => rw [if_pos (show 0 < w.cfg.roster[i].rating from h), if_pos rfl]
    next h => rw [if_neg (show ¬ 0 < w.cfg.roster[i].rating from h)]
  · have hobserve : s.mode = .observe := by
      cases hm : s.mode with
      | observe => rfl
      | dispatch => exact absurd hm hdispatch
      | blackstart => exact absurd hm hmode
    rw [if_neg hdispatch, if_neg hdispatch, hderived, State.derivedSet, State.wanted, hwmode, hobserve]
    rfl

/-- The record a roster commit makes of a set in an entry with a rating, before the mode changes. -/
theorem recommit_configured (r : SetRec) (replaced : Bool) (now : Count) :
    (r.recommit replaced true now).directive = r.directive ∧ (r.recommit replaced true now).dirSeq = r.dirSeq := by
  cases replaced <;> exact ⟨rfl, rfl⟩

theorem recommit_emptied (r : SetRec) (replaced : Bool) (now : Count) :
    (r.recommit replaced false now).dirSeq = r.dirSeq + if (r.recommit replaced false now).directive = r.directive then 0 else 1 := by
  cases replaced with
  | false =>
    show r.dirSeq = r.dirSeq + if r.directive = r.directive then 0 else 1
    rw [if_pos rfl]
    exact (BitVec.add_zero _).symm
  | true =>
    show r.dirSeq + (if r.directive = .stop then 0 else 1) = r.dirSeq + if Directive.stop = r.directive then 0 else 1
    rw [if_congr eq_comm rfl rfl]

end Sys2Proof.Machine
end

section
/-! The records a commit of each table leaves (R33, R67, R87, R117, R184). -/

namespace Sys2Proof.Machine

variable {s : State} {i : Fin 8}

/-! ## The Set Roster -/

section Roster

variable {roster : Vector SetEntry 8}

/-- The record of a set after a roster commit, but for its directive. -/
theorem commit_roster_record (s : State) (roster : Vector SetEntry 8) (i : Fin 8) :
    let c := s.commit (.roster roster)
    c.sets[i] = { s.sets[i].recommit (s.setReplaced roster i) (decide (0 < roster[i].rating)) s.clk with
      directive := c.sets[i].directive, dirSeq := c.sets[i].dirSeq } := by
  intro c
  have hrecord := (commit_redirected s (.roster roster)).sets i
  have hsets := rostered_sets { s with window := none } roster i
  show c.sets[i] = _
  rw [show (State.tabled { s with window := none } (.roster roster)).sets[i] = _ from hsets] at hrecord
  exact hrecord

theorem recommit_of_replaced (r : SetRec) (configured : Bool) (now : Count) :
    (r.recommit true configured now).state = .unknown ∧ (r.recommit true configured now).attempts = 0
      ∧ (r.recommit true configured now).cause = .none
      ∧ (configured = true → (r.recommit true configured now).lostTimer = some (now + tLOST)) := by
  cases configured <;> exact ⟨rfl, rfl, rfl, by simp [SetRec.recommit, SetRec.goUnknown]⟩

theorem commit_roster_replaced (h : roster[i].address ≠ s.cfg.roster[i].address ∨ roster[i].rating ≠ s.cfg.roster[i].rating) :
    let r := (s.commit (.roster roster)).sets[i]
    r.state = .unknown ∧ r.attempts = 0 ∧ r.cause = .none ∧ (0 < roster[i].rating → r.lostTimer = some (s.clk + tLOST)) := by
  intro r
  have hr : r = _ := commit_roster_record s roster i
  rw [(setReplaced_iff s roster i).mpr h] at hr
  obtain ⟨hstate, hattempts, hcause, hlost⟩ := recommit_of_replaced s.sets[i] (decide (0 < roster[i].rating)) s.clk
  rw [hr]
  exact ⟨hstate, hattempts, hcause, fun hrating => hlost (decide_eq_true hrating)⟩

theorem commit_roster_kept (haddress : roster[i].address = s.cfg.roster[i].address) (hrating : roster[i].rating = s.cfg.roster[i].rating) :
    let r := (s.commit (.roster roster)).sets[i]
    r = { s.sets[i] with directive := r.directive, dirSeq := r.dirSeq } := by
  intro r
  have hr : r = _ := commit_roster_record s roster i
  rw [(setReplaced_eq_false s roster i).mpr ⟨haddress, hrating⟩, recommit_of_kept] at hr
  exact hr

theorem commit_roster_hold (hmode : s.mode ≠ .blackstart) (h : 0 < roster[i].rating) :
    (s.commit (.roster roster)).sets[i].directive = .hold := by
  rw [commit_roster_sets hmode, if_pos h]
  split <;> rfl

theorem commit_roster_emptied (hmode : s.mode ≠ .blackstart) (h : roster[i].rating = 0) (hold : s.cfg.roster[i].rating ≠ 0) :
    (s.commit (.roster roster)).sets[i].directive = .stop ∧ (s.commit (.roster roster)).sets[i].lostTimer = none := by
  have hsets := rostered_sets { s with window := none } roster i
  have hreplaced : State.setReplaced { s with window := none } roster i = true :=
    (setReplaced_iff s roster i).mpr (.inr (by rw [h]; exact hold.symm))
  rw [hreplaced, decide_eq_false (by rw [h]; exact lt_irrefl 0)] at hsets
  rw [commit_roster_sets hmode, if_neg (by rw [h]; exact lt_irrefl 0), hsets]
  exact ⟨rfl, rfl⟩

/-- The directive that R48 gives in DISPATCH to a set that a valid roster has just taken is the one it has had. -/
theorem recommit_wanted (hvalid : s.validate (.roster roster) = none) (hphase : s.seq.phase = .none) (hmode : s.mode = .dispatch)
    (hdir : DirectivesFollowStates s) (hmark : MarkIsCandidate s) (hempty : s.cfg.roster[i].rating = 0 → s.sets[i].directive = .stop)
    (hrating : 0 < roster[i].rating) :
    let r := s.sets[i].recommit (s.setReplaced roster i) true s.clk
    wantedDirective .dispatch r.state r.mark = r.directive := by
  have hdirective (hold : 0 < s.cfg.roster[i].rating) :
      s.sets[i].directive = wantedDirective .dispatch s.sets[i].state s.sets[i].mark := by
    rw [hdir i hold, hmode]
  have hunmarked := unmarked_of_phase hmark (by rw [hphase]; nofun) i
  cases hreplaced : s.setReplaced roster i with
  | false =>
    have hkept := ((setReplaced_eq_false s roster i).mp hreplaced).2
    exact (hdirective (hkept ▸ hrating)).symm
  | true =>
    show Directive.stop = s.sets[i].directive
    obtain hold | hold := Nat.eq_zero_or_pos s.cfg.roster[i].rating
    · exact (hempty hold).symm
    · obtain ⟨hstarting, honline⟩ := unused_set_of_validate hvalid hreplaced
      rw [hdirective hold, wantedDirective, if_neg nofun, if_neg hunmarked, if_neg (not_or.mpr ⟨hstarting, honline⟩)]

/-- A directive sequence keeps its count over a roster commit and is raised by one exactly when the value changes (R67). -/
theorem commit_roster_dirSeq (hvalid : s.validate (.roster roster) = none) (hphase : s.seq.phase = .none) (hmode : s.mode ≠ .blackstart)
    (hdir : DirectivesFollowStates s) (hmark : MarkIsCandidate s) (hempty : s.cfg.roster[i].rating = 0 → s.sets[i].directive = .stop) :
    let r := (s.commit (.roster roster)).sets[i]
    r.dirSeq = s.sets[i].dirSeq + if r.directive = s.sets[i].directive then 0 else 1 := by
  have hsets := rostered_sets { s with window := none } roster i
  change _ = s.sets[i].recommit (s.setReplaced roster i) _ s.clk at hsets
  intro r
  have hr : r = _ := commit_roster_sets hmode roster i
  rw [hsets] at hr
  by_cases hrating : 0 < roster[i].rating
  · have hwanted (hdispatch : s.mode = .dispatch) := recommit_wanted hvalid hphase hdispatch hdir hmark hempty hrating
    obtain ⟨hdirective, hseq⟩ := recommit_configured s.sets[i] (s.setReplaced roster i) s.clk
    rw [if_pos hrating, decide_eq_true hrating] at hr
    have hheld : r = (s.sets[i].recommit (s.setReplaced roster i) true s.clk).directed .hold := by
      rw [hr]
      split
      next hdispatch => rw [directed_self (hwanted hdispatch)]
      next => rfl
    rw [hheld, ← hdirective, ← hseq]
    rfl
  · rw [if_neg hrating, decide_eq_false hrating] at hr
    rw [hr]
    exact recommit_emptied _ _ _

end Roster

/-! ## The PV Table -/

theorem plant_recommit_new {r : PlantRec} {old new : PvEntry} (hnew : 0 < new.rating) (hold : old.rating = 0) :
    r.recommit old new = ⟨new.rating, .balance, new.rating, .balance, none, none, new.rating⟩ := by
  rw [PlantRec.recommit, if_neg hnew.ne', if_pos hold]
  rfl

theorem plant_recommit_kept {r : PlantRec} {old new : PvEntry} (hnew : 0 < new.rating) (hold : 0 < old.rating) :
    (r.recommit old new).allotment = min r.allotment new.rating ∧ (r.recommit old new).sent = min r.sent new.rating := by
  rw [PlantRec.recommit, if_neg hnew.ne', if_neg hold.ne']
  dsimp only
  split <;> exact ⟨rfl, rfl⟩

end Sys2Proof.Machine
end

section
/-! A commit of the Table Window from its request to its reply (R173, R175, R185). -/

namespace Sys2Proof.Machine

variable {s c t : State} {staging : Staging} {rx : Rx} {answer : Frame}

/-! ## The state a commit leaves -/

theorem tabled_frame (s : State) (staging : Staging) : s.tabled staging = { s with
    cfg := (s.tabled staging).cfg, sets := (s.tabled staging).sets, setSlots := (s.tabled staging).setSlots
    plants := (s.tabled staging).plants, held := (s.tabled staging).held, pvSlots := (s.tabled staging).pvSlots
    feeders := (s.tabled staging).feeders, txQueue := (s.tabled staging).txQueue } := by
  cases staging <;> rfl

theorem commit_phase (h : s.seq.phase = .none) (staging : Staging) : (s.commit staging).seq.phase = .none :=
  (commit_redirected s staging).phase.trans (by cases staging <;> exact h)

theorem commit_reports (s : State) (staging : Staging) : ReportsStand s (s.commit staging) := by
  have hredirected := commit_redirected s staging
  refine ⟨(congrArg State.reportCount hredirected.frame :).trans (by cases staging <;> rfl), hredirected.others.reports.trans ?_⟩
  rw [tabled_txQueue, List.filter_filter]
  refine List.filter_congr fun f _ => ?_
  cases staging <;> cases f <;> simp [staysAtCommit, Frame.key]

theorem commit_answered (hmode : s.mode ≠ .blackstart) (hphase : s.seq.phase = .none) (staging : Staging) (rx : Rx) (code : BitVec 5)
    (result : Result) (data : List Byte) :
    AnsweredEnds s (s.commit staging) (((s.commit staging).answer rx code result data).finish s)
      (.reply rx.src.toNat code result data) :=
  answered_ends (not_triggerRuns_of_mode (by rw [commit_mode hmode]; nofun)) (commit_phase hphase staging) (commit_reports s staging)
    code result data

/-- The directive of a configured set stands until directives are derived again. -/
theorem tabled_directive (s : State) (staging : Staging) {i : Fin 8} (h : 0 < (s.tabled staging).cfg.roster[i].rating) :
    (s.tabled staging).sets[i].directive = s.sets[i].directive := by
  cases staging with
  | roster roster =>
    have hsets := rostered_sets s roster i
    rw [decide_eq_true (show 0 < roster[i].rating from h)] at hsets
    exact (congrArg SetRec.directive hsets).trans (recommit_configured _ _ _).1
  | pv | feeder | stage => rfl

/-! ## The Transmit Queue at the end of a commit (R185) -/

section Queue

variable (hc : Redirected (State.tabled { s with window := none } staging) c) (ht : AnsweredEnds s c t answer)
include hc ht

theorem committed_keys : (s.txQueue.filter (staysAtCommit s staging)).map Frame.key <+: t.txQueue.map Frame.key := by
  have hkeys := hc.keys.trans ht.keys
  rwa [tabled_txQueue] at hkeys

theorem committed_cfg : t.cfg = (State.tabled { s with window := none } staging).cfg :=
  (congrArg State.cfg ht.frame :).trans hc.cfg

omit hc in
theorem committed_directiveFrame (i : Fin 8) : t.directiveFrame i = c.directiveFrame i :=
  (congrArg (fun y : State => y.directiveFrame i) ht.frame :)

theorem committed_frames {f : Frame} (hf : f ∈ t.txQueue) :
    (f ∈ s.txQueue ∧ staysAtCommit s staging f = true) ∨ f = answer
      ∨ (∃ i : Fin 8, 0 < t.cfg.roster[i].rating ∧ f = t.directiveFrame i) ∨ f = .feederReport (partsOf t.runs) 0 := by
  obtain hf | hf | hf := ht.frames f hf
  · obtain hf | ⟨i, hi, hf⟩ := hc.frames f hf
    · rw [tabled_txQueue] at hf
      exact .inl (List.mem_filter.mp hf)
    · exact .inr (.inr (.inl ⟨i, committed_cfg hc ht ▸ hi, hf.trans (committed_directiveFrame ht i).symm⟩))
  · exact .inr (.inl hf)
  · exact .inr (.inr (.inr hf))

theorem committed_shown {i : Fin 8} (hi : 0 < t.cfg.roster[i].rating) (hne : t.sets[i].directive ≠ s.sets[i].directive) :
    t.directiveFrame i ∈ t.txQueue := by
  refine ht.waits i ((hc.shown i).resolve_left fun hsame => hne ?_)
  rw [committed_cfg hc ht] at hi
  have hstands := tabled_directive { s with window := none } staging hi
  exact (congrArg (fun y : State => y.sets[i].directive) ht.frame :).trans (hsame.trans hstands)

end Queue

/-! ## The request -/

theorem closeCommit_fails {w : Window} {index : Nat} {reason : Reason} (h : s.validate w.staging = some (index, reason)) :
    s.closeCommit rx w = State.answer { s with window := some { w with idleEnds := s.clk + tWIN } } rx 0x0F .validationFailed
      [byte index, byte reason.code] := by
  rw [State.closeCommit, h]

theorem closeCommit_passes {w : Window} (hmode : s.mode ≠ .blackstart) (h : s.validate w.staging = none) :
    s.closeCommit rx w = ((s.commit w.staging).answer rx 0x0F .accepted
      [byte w.rejected, 0, if s.mode = .dispatch then 1 else 0]).finish s := by
  have hchanged : boolByte (decide (Mode.observe ≠ s.mode)) = if s.mode = .dispatch then 1 else 0 := by
    cases hm : s.mode with
    | blackstart => exact absurd hm hmode
    | dispatch | observe => rfl
  rw [State.closeCommit, h]
  show (State.answer _ rx 0x0F .accepted [byte w.rejected, byte (s.commit w.staging).mode.code,
    boolByte (decide ((s.commit w.staging).mode ≠ s.mode))]).finish s = _
  rw [commit_mode hmode, hchanged]
  rfl

theorem validate_elapse (s : State) (dt : Nat) (staging : Staging) : (s.elapse dt).validate staging = s.validate staging := by
  cases staging <;> rfl

end Sys2Proof.Machine
end

section
/-! The close of the Table Window with commit (R67, R87, R117, R173, R175, R184, R185). -/

namespace Sys2Proof.Machine

variable {s t : State} {staging : Staging} {answer : Frame}

/-- What a commit in `s` that replaces a table as `w` shows has made at `t`, apart from the sets and the Transmit Queue. -/
structure CommittedFrom (s w t : State) : Prop where
  window : t.window = none
  mode : t.mode = .observe
  meter : t.meter = s.meter
  queue : t.queue = s.queue
  stages : t.stages = s.stages
  record : t.record = s.record
  store : t.store = s.store
  aggU : t.aggU = s.aggU
  cfg : t.cfg = w.cfg
  feeders : t.feeders = w.feeders
  plants : t.plants = w.plants
  setSlots : t.setSlots = w.setSlots
  pvSlots : t.pvSlots = w.pvSlots
  held : t.held = w.held

theorem committedFrom (hmode : s.mode ≠ .blackstart) (ht : AnsweredEnds s (s.commit staging) t answer) :
    CommittedFrom s (State.tabled { s with window := none } staging) t := by
  have hc := (commit_redirected s staging).frame
  have hw := tabled_frame { s with window := none } staging
  have hobserve := commit_mode hmode staging
  have htc := ht.frame
  generalize s.commit staging = c at *
  generalize State.tabled { s with window := none } staging = w at *
  exact {
    window := (congrArg State.window htc :).trans ((congrArg State.window hc :).trans (congrArg State.window hw :))
    mode := (congrArg State.mode htc :).trans hobserve
    meter := (congrArg State.meter htc :).trans ((congrArg State.meter hc :).trans (congrArg State.meter hw :))
    queue := (congrArg State.queue htc :).trans ((congrArg State.queue hc :).trans (congrArg State.queue hw :))
    stages := (congrArg State.stages htc :).trans ((congrArg State.stages hc :).trans (congrArg State.stages hw :))
    record := (congrArg State.record htc :).trans ((congrArg State.record hc :).trans (congrArg State.record hw :))
    store := (congrArg State.store htc :).trans ((congrArg State.store hc :).trans (congrArg State.store hw :))
    aggU := (congrArg State.aggU htc :).trans ((congrArg State.aggU hc :).trans (congrArg State.aggU hw :))
    cfg := (congrArg State.cfg htc :).trans (congrArg State.cfg hc :)
    feeders := (congrArg State.feeders htc :).trans (congrArg State.feeders hc :)
    plants := (congrArg State.plants htc :).trans (congrArg State.plants hc :)
    setSlots := (congrArg State.setSlots htc :).trans (congrArg State.setSlots hc :)
    pvSlots := (congrArg State.pvSlots htc :).trans (congrArg State.pvSlots hc :)
    held := (congrArg State.held htc :).trans (congrArg State.held hc :) }

/-- The owner's close with commit runs the commit of its window. -/
theorem windowCloseCommit_exec_of_owner {rx : Rx} {w : Window} (hhears : Hears s rx) (hs : FromSupervisor rx) (hmode : s.mode ≠ .blackstart)
    (hw : s.window = some w) (howner : rx.src.toNat = w.owner) :
    exec (.windowCloseCommit rx) s = .next ((s.elapse rx.dt).closeCommit rx w) := by
  rw [windowCloseCommit_exec hhears hs hmode, windowClose_of_owner (s := s.elapse rx.dt) hw howner]

theorem closeCommit_answers {rx : Rx} {w : Window} (hmode : s.mode ≠ .blackstart) (hphase : s.seq.phase = .none)
    (hvalid : s.validate w.staging = none) :
    AnsweredEnds s (s.commit w.staging) (s.closeCommit rx w)
      (.reply rx.src.toNat 0x0F .accepted [byte w.rejected, 0, if s.mode = .dispatch then 1 else 0]) := by
  rw [closeCommit_passes hmode hvalid]
  exact commit_answered hmode hphase w.staging rx 0x0F .accepted _

/-- Settles O59. -/
theorem commitReplacesTheLiveTable : Obligations.CommitReplacesTheLiveTable := by
  intro s rx w hhears hs hmode hw howner
  have hclose := windowCloseCommit_exec_of_owner hhears hs hmode hw howner
  refine ⟨fun index reason hfails => ?_, fun hvalid hphase => ?_⟩
  · rw [hclose, closeCommit_fails ((validate_elapse s rx.dt w.staging).trans hfails)]
    rfl
  have hpasses := (validate_elapse s rx.dt w.staging).trans hvalid
  have hends := closeCommit_answers (s := s.elapse rx.dt) (rx := rx) hmode hphase hpasses
  refine ⟨_, hclose, ?_⟩
  generalize (s.elapse rx.dt).closeCommit rx w = t at hends ⊢
  have hcommit := commit_redirected (s.elapse rx.dt) w.staging
  have hfrom := committedFrom (s := s.elapse rx.dt) hmode hends
  have hsets : t.sets = ((s.elapse rx.dt).commit w.staging).sets := (congrArg State.sets hends.frame :)
  refine ⟨hfrom.window, hfrom.mode, hends.replied, hfrom.meter, hfrom.queue, hfrom.stages, hfrom.record, hfrom.store, hfrom.aggU,
    committed_keys (s := s.elapse rx.dt) hcommit hends, fun f hf => committed_frames (s := s.elapse rx.dt) hcommit hends hf,
    fun i hi hne => committed_shown (s := s.elapse rx.dt) hcommit hends hi hne, hends.report, fun roster hroster => ?_, fun pv hpv => ?_, fun feeders hfeeders => ?_, fun stages hstages => ?_⟩
  · rw [hroster] at hfrom hsets hpasses
    refine ⟨hfrom.cfg, hfrom.feeders, hfrom.plants, fun i => ?_⟩
    rw [hsets, hfrom.setSlots]
    exact ⟨commit_roster_replaced (s := s.elapse rx.dt), commit_roster_kept (s := s.elapse rx.dt), getElem_tabulate _ _ _,
      fun hrating => .inl (commit_roster_hold (s := s.elapse rx.dt) hmode hrating),
      commit_roster_emptied (s := s.elapse rx.dt) hmode,
      fun hdir hmark hempty => commit_roster_dirSeq (s := s.elapse rx.dt) hpasses hphase hmode hdir hmark hempty⟩
  · rw [hpv] at hfrom
    refine ⟨hfrom.cfg, hfrom.feeders, fun p => ?_⟩
    have hplant : t.plants[p] = s.plants[p].recommit s.cfg.pv[p] pv[p] := by
      rw [hfrom.plants]
      exact getElem_tabulate _ _ _
    rw [hplant, hfrom.held, hfrom.pvSlots]
    exact ⟨getElem_tabulate _ _ _, getElem_tabulate _ _ _, plant_recommit_new, plant_recommit_kept⟩
  · rw [hfeeders] at hfrom
    refine ⟨hfrom.cfg, hfrom.plants, fun i => ?_⟩
    rw [hfrom.feeders]
    exact getElem_tabulate _ _ _
  · rw [hstages] at hfrom
    exact ⟨hfrom.cfg, hfrom.feeders, hfrom.plants⟩

end Sys2Proof.Machine
end
